-- ==== Sys2Proof/Word.lean ====
section
/-! DEFINITION. The number types of the UZ-816: what the manual numbers, with the range it gives. -/

namespace Sys2Proof

/-- One byte of a link frame (R181). -/
abbrev Byte := BitVec 8

/-- A bay, 0 to 7 (00 Conventions). -/
abbrev Bay := Fin 8

/-- A chute: A, B, C, D as 0, 1, 2, 3 (00 Conventions). -/
abbrev Chute := Fin 4

/-- A panel switch, its strobe number times 8 plus its return number (00 Conventions). -/
abbrev Switch := Fin 64

/-- A strobe of the switch matrix, 0 to 7 (06, the switch matrix). -/
abbrev Strobe := Fin 8

/-- A general line of a bay's harness, 0 to 31 (00 Conventions). -/
abbrev GeneralLine := Fin 32

/-- A token's sequence number, which wraps after 65535 (00 Conventions, R9). -/
abbrev Seq := BitVec 16

/-- A coin unit's number within its feeder, which wraps after 255 (R26). -/
abbrev UnitNo := BitVec 8

/-- The index of an audit counter, 0 to 49 (00 Conventions). -/
abbrev CounterIx := Fin 50

end Sys2Proof
end

