-- ==== Sys2Proof/Config.lean ====
section
/-! DEFINITION. What is fixed for every UZ-816, and the free values: what the manual leaves open. -/

namespace Sys2Proof.Config

/-- The Token Store's entries (R8). -/
def storeCapacity : Nat := 64
/-- The queued units a feeder holds (R28). -/
def feederCapacity : Nat := 8
/-- The notices a link's queue holds (R190). -/
def noticeCapacity : Nat := 16
/-- The routes a bay's map holds (R86). -/
def routeCapacity : Nat := 40
/-- The largest value of an audit counter (R174). -/
def counterMax : Nat := 16777215
/-- Inactive milliseconds that clear a jam (R5). -/
def jamReleaseTime : Nat := 500
/-- Milliseconds of PULL_IN (R18). -/
def pullInTime : Nat := 60
/-- The width count at which an echo filter gives its echo (R50). -/
def echoWidth : Nat := 5
/-- Milliseconds of COOLING (R119). -/
def coolingTime : Nat := 500
/-- Milliseconds the menu switch is held for a menu request (R103). -/
def menuHoldTime : Nat := 500
/-- Milliseconds without field sync that lose lock (R142). -/
def fieldGapTime : Nat := 200
/-- Good fields in a row that lock a checker (R141). -/
def lockFields : Nat := 8
/-- Bad fields in a row that lose lock (R142). -/
def lostFields : Nat := 4
/-- The field rate of the sync generated for BLANK, in hertz (R145). -/
def blankFieldRate : Nat := 60
/-- Agreeing samples that change a debounced level (R99, R187). -/
def debounceSamples : Nat := 4
/-- The largest gap count between two bytes of one frame (R182). -/
def byteGapTime : Nat := 20
/-- The largest payload length (R181). -/
def payloadMax : Nat := 60
/-- How many reports one event may hand on before the model stops taking them (log entry 7). -/
def reportFuel : Nat := 64

/-- Full audio gain. The gain is counted in shares of it, and every ramp length of 1 to 250 ms divides it,
so that one millisecond of a ramp is a whole number of shares (R147, log entry 9). -/
def gainFull : Nat := (List.range 250).foldl (fun m k => Nat.lcm m (k + 1)) 1

/-- FREE VALUE (log entries 8 and 39): of two blocks that act in one event and that the manual does not order (R44, R76),
whether the first named acts first; and whether the report of a power cut is taken before the next event (R107, R152,
R171). It is applied to the counter `choices` of State. -/
opaque firstActsFirst : Nat → Bool

/-- FREE VALUE (log entry 8): the rank of the event at the given place of the list of events that fall due at one
tick (R13, R35, R46, R112, R138: either may be taken first). It is applied to the counter `choices` of State. -/
opaque eventRank : Nat → Nat → Nat

/-- FREE VALUE (log entry 10): whether the field rate of a field of the given length, when it is no whole number
of tenths of a hertz, is reported as the tenth above it (R184 states no rounding). -/
opaque rateRoundsUp : Nat → Bool

end Sys2Proof.Config
end

