-- ==== Sys2Proof/Syntax.lean ====
section
/-! DEFINITION. The commands of the UZ-816: the requests of the two links, and `Instr`, one constructor per row of
spec/opcode_table.json. -/

namespace Sys2Proof

/-- The two links (R181). -/
inductive Link where
  | selector | service
  deriving DecidableEq, Repr

/-- Coin line 1 or 2, and the meter line that echoes it (00 Terms). -/
inductive CoinLine where
  | one | two
  deriving DecidableEq, Repr

/-- The two pulse units (R36). -/
inductive PulseId where
  | a | b
  deriving DecidableEq, Repr

/-- The edge a switch event carries (R99). -/
inductive Edge where
  | press | release
  deriving DecidableEq, Repr

/-- A request with its arguments as the bytes a frame carries them in (R184, the request table of 11). An argument
that names no value its request allows is refused by the request's own range test (R189), so it is spelled here. -/
inductive Request where
  | status
  | select (target : Byte)
  | transfer (bay n : Byte)
  | voidDoubt (bay : Byte)
  | queryBay (bay : Byte)
  | latch
  | readCounters (first last : Byte)
  | freeSnapshot
  | readProfile (bay group : Byte)
  | writeProfile (bay group : Byte) (fields : List Byte)
  | readRoutes (bay start count : Byte)
  | writeRoutes (bay start truncate count : Byte) (entries : List Byte)
  | readCabinet (group : Byte)
  | writeCabinet (group : Byte) (fields : List Byte)
  | setLock (lock : Byte)
  | enableBay (bay : Byte)
  | disableBay (bay : Byte)
  | powerBay (bay onOff : Byte)
  | armBay (bay : Byte)
  | clearFault (bay : Byte)
  | armCoils
  | setIntake (value : Byte)
  | grant (n : Byte)
  | withdraw (n : Byte)
  | refundDoubt (bay : Byte)
  | restart
  deriving DecidableEq, Repr

/-- An event that may confirm a coin unit: the end of a pulse's TRAIL (R32), or an echo (R51). -/
inductive Confirming where
  | trailEnd (u : PulseId)
  | echo (b : Bay) (m : CoinLine)
  deriving DecidableEq, Repr

/-- What a part reset finds of the retained store: its own integrity check failing, the store as it stands, or the store
as an event left it within which the power failed (R78, R97, log entries 4 and 29). -/
inductive Found where
  | corrupt
  | whole
  | torn (c : Confirming)
  deriving DecidableEq, Repr

/-- A command: an event at one of the part's lines, the expiry of one of its counts, or a request that arrives whole
on a link. An expiry command is the event of that expiry (log entry 11). -/
inductive Instr where
  /-- PART_RESET (R97). -/
  | partReset (found : Found)
  /-- COIN_ACTIVE_EDGE (R2). -/
  | coinActiveEdge (c : Chute)
  /-- COIN_RELEASE (R3); the input stayed active for `held` ms beyond those the ticks have counted (log entry 12). -/
  | coinRelease (c : Chute) (held : Nat)
  /-- MAX_TIMER_EXPIRY (R4). -/
  | maxTimerExpiry (c : Chute)
  /-- JAM_RELEASE_EXPIRY (R5). -/
  | jamReleaseExpiry (c : Chute)
  /-- PULL_IN_EXPIRY (R18). -/
  | pullInExpiry (c : Chute)
  /-- PWM_PERIOD_BOUNDARY (R19). -/
  | pwmPeriodBoundary
  /-- COIL_FAULT (R20): the coil fault input takes the level `active` (log entry 13). -/
  | coilFault (active : Bool)
  /-- SET_INTAKE (R16). -/
  | setIntake (l : Link) (value : Byte)
  /-- ARM_COILS (R21). -/
  | armCoils (l : Link)
  /-- GRANT (R22). -/
  | grant (l : Link) (n : Byte)
  /-- WITHDRAW (R23). -/
  | withdraw (l : Link) (n : Byte)
  /-- TRANSFER (R34). -/
  | transfer (l : Link) (bay n : Byte)
  /-- LEAD_END (R36). -/
  | leadEnd (u : PulseId)
  /-- ACTIVE_END (R36). -/
  | activeEnd (u : PulseId)
  /-- TRAIL_END (R32). -/
  | trailEnd (u : PulseId)
  /-- METER_ACTIVE_EDGE (R50). -/
  | meterActiveEdge (b : Bay) (m : CoinLine)
  /-- METER_RELEASE (R50). -/
  | meterRelease (b : Bay) (m : CoinLine)
  /-- ECHO (R51). -/
  | echo (b : Bay) (m : CoinLine)
  /-- ECHO_WINDOW_EXPIRY (R56). -/
  | echoWindowExpiry (b : Bay)
  /-- VOID_DOUBT (R59). -/
  | voidDoubt (l : Link) (bay : Byte)
  /-- REFUND_DOUBT (R60). -/
  | refundDoubt (l : Link) (bay : Byte)
  /-- START_WIDTH_EXPIRY (R73). -/
  | startWidthExpiry
  /-- WRITE_PROFILE (R79). -/
  | writeProfile (l : Link) (bay group : Byte) (fields : List Byte)
  /-- READ_PROFILE (R83). -/
  | readProfile (l : Link) (bay group : Byte)
  /-- WRITE_ROUTES (R87). -/
  | writeRoutes (l : Link) (bay start truncate count : Byte) (entries : List Byte)
  /-- READ_ROUTES (R88). -/
  | readRoutes (l : Link) (bay start count : Byte)
  /-- WRITE_CABINET (R89). -/
  | writeCabinet (l : Link) (group : Byte) (fields : List Byte)
  /-- READ_CABINET (R93). -/
  | readCabinet (l : Link) (group : Byte)
  /-- SET_LOCK (R94). -/
  | setLock (l : Link) (lock : Byte)
  /-- FIRST_COMPLETE_DEBOUNCE (R100); bit n of each word is the sample of switch n, set when pressed. -/
  | firstCompleteDebounce (scan1 scan2 scan3 scan4 : BitVec 64)
  /-- SWITCH_EVENT (R99). -/
  | switchEvent (w : Switch) (e : Edge)
  /-- MENU_HOLD_EXPIRY (R103). -/
  | menuHoldExpiry
  /-- ROUTE_PULSE_EXPIRY (R106), for the active bay's PULSE route from `w` to `n`. -/
  | routePulseExpiry (w : Switch) (n : GeneralLine)
  /-- QUIET_EXPIRY (R112). -/
  | quietExpiry
  /-- RESET_HOLD_EXPIRY (R117). -/
  | resetHoldExpiry (b : Bay)
  /-- BOOT_LIMIT_EXPIRY (R127). -/
  | bootLimitExpiry (b : Bay)
  /-- COOLING_EXPIRY (R119). -/
  | coolingExpiry (b : Bay)
  /-- OVERCURRENT (R125): the bay's overcurrent input takes the level `active` (log entry 13). -/
  | overcurrent (b : Bay) (active : Bool)
  /-- POWER_BAY_ON (R123). -/
  | powerBayOn (l : Link) (bay : Byte)
  /-- POWER_BAY_OFF (R124). -/
  | powerBayOff (l : Link) (bay : Byte)
  /-- ARM_BAY (R126). -/
  | armBay (l : Link) (bay : Byte)
  /-- CLEAR_FAULT (R128). -/
  | clearFault (l : Link) (bay : Byte)
  /-- DISABLE_BAY (R129). -/
  | disableBay (l : Link) (bay : Byte)
  /-- ENABLE_BAY (R130). -/
  | enableBay (l : Link) (bay : Byte)
  /-- FIELD_SYNC_PULSE (R139): the field it ends held `lines` line sync pulses and lasted `length` ns (log entry 10). -/
  | fieldSyncPulse (b : Bay) (lines length : Nat)
  /-- FIELD_GAP_EXPIRY (R142). -/
  | fieldGapExpiry (b : Bay)
  /-- SETTLE_EXPIRY (R146). -/
  | settleExpiry
  /-- AUDIO_RAMP_END (R147). -/
  | audioRampEnd
  /-- SELECT (R163). -/
  | select (l : Link) (target : Byte)
  /-- LATCH (R177). -/
  | latch (l : Link)
  /-- READ_COUNTERS (R178). -/
  | readCounters (l : Link) (first last : Byte)
  /-- FREE_SNAPSHOT (R179). -/
  | freeSnapshot (l : Link)
  /-- FRAME_END (R185): the byte that ends a frame, its check byte or a length byte above 60. -/
  | frameEnd (l : Link) (x : Byte)
  /-- FRAME_GAP_TIMEOUT (R182). -/
  | frameGapTimeout (l : Link)
  /-- STOP_BIT_ERROR (R182). -/
  | stopBitError (l : Link)
  /-- REPLY_SENT (R186); `intact` is what the retained store's own integrity check finds if the reply is the ACK of a
  RESTART, and nothing otherwise (R193, log entry 4). -/
  | replySent (l : Link) (intact : Bool)
  /-- NOTICE_SENT (R190). -/
  | noticeSent (l : Link)
  /-- SERVICE_KEY_CHANGE (R187): the debounced level becomes closed, or open. -/
  | serviceKeyChange (closed : Bool)
  /-- STATUS (R191). -/
  | status (l : Link)
  /-- QUERY_BAY (R192). -/
  | queryBay (l : Link) (bay : Byte)
  /-- RESTART (R193). -/
  | restart (l : Link)
  /-- BYTE_RECEIVED (R182). -/
  | byteReceived (l : Link) (x : Byte)
  deriving DecidableEq, Repr

end Sys2Proof
end

