-- ==== Sys2Proof/Decode.lean ====
section
/-! DEFINITION. The table's words (none of its rows gives bits), and the frames of the links: the check byte, and how
a request is spelled in a frame's type and payload and read back from them. -/

namespace Sys2Proof

/-- No row of spec/opcode_table.json gives bits, so no word spells a command. -/
def decodeTableWord (_nbits _w : Nat) : Option Instr := none

/-- One shift of the CRC-8 of R183, generator 07h. -/
def crcShift (c : Byte) : Byte :=
  if c.getLsbD 7 then (c <<< 1) ^^^ 0x07#8 else c <<< 1

/-- One byte entering the CRC-8, most significant bit first (R183). -/
def crcByte (c x : Byte) : Byte :=
  crcShift (crcShift (crcShift (crcShift (crcShift (crcShift (crcShift (crcShift (c ^^^ x))))))))

/-- The CRC-8 of a run of bytes, initial value 00h (R183). -/
def crc8 (bytes : List Byte) : Byte := bytes.foldl crcByte 0

/-- The check byte of a frame: the CRC-8 over its length, type and payload (R183). -/
def frameCheck (n typ : Byte) (payload : List Byte) : Byte := crc8 (n :: typ :: payload)

/-- A frame of the given type and payload, byte by byte (R181). -/
def frameBytes (typ : Byte) (payload : List Byte) : List Byte :=
  let n : Byte := BitVec.ofNat 8 payload.length
  0xD5#8 :: n :: typ :: (payload ++ [frameCheck n typ payload])

/-- The length of the fields a WRITE_PROFILE carries for the group named (the profile table of 05, R184); none when
the byte names no group. -/
def profileGroupLength (group : Byte) : Option Nat :=
  match group.toNat with
  | 0 => some 15
  | 1 => some 11
  | 2 => some 3
  | 3 => some 32
  | _ => none

/-- The length of the fields a WRITE_CABINET carries for the group named (the cabinet table of 05, R184). -/
def cabinetGroupLength (group : Byte) : Option Nat :=
  match group.toNat with
  | 0 => some 20
  | 1 => some 5
  | 2 => some 7
  | _ => none

/-- The length of the entries a WRITE_ROUTES carries, three bytes an entry (R184); none for a count outside 1 to 18,
which test 4 of R185 lets pass. -/
def routeEntriesLength (count : Byte) : Option Nat :=
  if 1 ≤ count.toNat ∧ count.toNat ≤ 18 then some (3 * count.toNat) else none

/-- The frame type of a request (the request table of 11). -/
def Request.typ : Request → Byte
  | .status => 0x01
  | .select _ => 0x02
  | .transfer _ _ => 0x03
  | .voidDoubt _ => 0x04
  | .queryBay _ => 0x05
  | .latch => 0x06
  | .readCounters _ _ => 0x07
  | .freeSnapshot => 0x08
  | .readProfile _ _ => 0x10
  | .writeProfile _ _ _ => 0x11
  | .readRoutes _ _ _ => 0x12
  | .writeRoutes _ _ _ _ _ => 0x13
  | .readCabinet _ => 0x14
  | .writeCabinet _ _ => 0x15
  | .setLock _ => 0x16
  | .enableBay _ => 0x20
  | .disableBay _ => 0x21
  | .powerBay _ _ => 0x22
  | .armBay _ => 0x23
  | .clearFault _ => 0x24
  | .armCoils => 0x25
  | .setIntake _ => 0x26
  | .grant _ => 0x27
  | .withdraw _ => 0x28
  | .refundDoubt _ => 0x29
  | .restart => 0x2F

/-- Whether a request belongs to operator level (R187). -/
def Request.operator : Request → Bool
  | .status | .select _ | .transfer _ _ | .voidDoubt _ | .queryBay _ | .latch | .readCounters _ _ | .freeSnapshot
  | .readProfile _ _ | .readRoutes _ _ _ | .readCabinet _ => false
  | .writeProfile _ _ _ | .writeRoutes _ _ _ _ _ | .writeCabinet _ _ | .setLock _ | .enableBay _ | .disableBay _
  | .powerBay _ _ | .armBay _ | .clearFault _ | .armCoils | .setIntake _ | .grant _ | .withdraw _ | .refundDoubt _
  | .restart => true

/-- The payload of a request: its arguments in the order of the request table (R184). -/
def Request.payload : Request → List Byte
  | .status | .latch | .freeSnapshot | .armCoils | .restart => []
  | .select x | .voidDoubt x | .queryBay x | .readCabinet x | .setLock x | .enableBay x | .disableBay x
  | .armBay x | .clearFault x | .setIntake x | .grant x | .withdraw x | .refundDoubt x => [x]
  | .transfer x y | .readCounters x y | .readProfile x y | .powerBay x y => [x, y]
  | .readRoutes x y z => [x, y, z]
  | .writeProfile b g fields => b :: g :: fields
  | .writeCabinet g fields => g :: fields
  | .writeRoutes b start t n entries => b :: start :: t :: n :: entries

/-- The frame that carries a request (R181, R184). -/
def Request.frame (r : Request) : List Byte := frameBytes r.typ r.payload

/-- What tests 3 and 4 of R185 make of a type and a payload. -/
inductive Decoded where
  | unknown
  | format
  | request (r : Request)
  deriving DecidableEq, Repr

/-- A request without arguments: test 4 of R185 requires an empty payload. -/
def Decoded.none (r : Request) : List Byte → Decoded
  | [] => .request r
  | _ => .format

/-- A request with one argument byte. -/
def Decoded.one (f : Byte → Request) : List Byte → Decoded
  | [x] => .request (f x)
  | _ => .format

/-- A request with two argument bytes. -/
def Decoded.two (f : Byte → Byte → Request) : List Byte → Decoded
  | [x, y] => .request (f x y)
  | _ => .format

/-- A request with three argument bytes. -/
def Decoded.three (f : Byte → Byte → Byte → Request) : List Byte → Decoded
  | [x, y, z] => .request (f x y z)
  | _ => .format

/-- A request of R185's three that take their length from an argument: taken when its length suits that argument. -/
def Decoded.sized (r : Request) (required : Option Nat) (actual : Nat) : Decoded :=
  match required with
  | some n => if actual = n then .request r else .format
  | Option.none => .request r

/-- Tests 3 and 4 of R185: the request that a type and a payload spell. -/
def decodeRequest (typ : Byte) (payload : List Byte) : Decoded :=
  match typ.toNat with
  | 0x01 => .none .status payload
  | 0x02 => .one .select payload
  | 0x03 => .two .transfer payload
  | 0x04 => .one .voidDoubt payload
  | 0x05 => .one .queryBay payload
  | 0x06 => .none .latch payload
  | 0x07 => .two .readCounters payload
  | 0x08 => .none .freeSnapshot payload
  | 0x10 => .two .readProfile payload
  | 0x11 =>
    match payload with
    | b :: g :: fields => .sized (.writeProfile b g fields) (profileGroupLength g) fields.length
    | _ => .format
  | 0x12 => .three .readRoutes payload
  | 0x13 =>
    match payload with
    | b :: start :: t :: n :: entries =>
      .sized (.writeRoutes b start t n entries) (routeEntriesLength n) entries.length
    | _ => .format
  | 0x14 => .one .readCabinet payload
  | 0x15 =>
    match payload with
    | g :: fields => .sized (.writeCabinet g fields) (cabinetGroupLength g) fields.length
    | _ => .format
  | 0x16 => .one .setLock payload
  | 0x20 => .one .enableBay payload
  | 0x21 => .one .disableBay payload
  | 0x22 => .two .powerBay payload
  | 0x23 => .one .armBay payload
  | 0x24 => .one .clearFault payload
  | 0x25 => .none .armCoils payload
  | 0x26 => .one .setIntake payload
  | 0x27 => .one .grant payload
  | 0x28 => .one .withdraw payload
  | 0x29 => .one .refundDoubt payload
  | 0x2F => .none .restart payload
  | _ => .unknown

end Sys2Proof
end

