-- ==== Sys2Proof/Machine/State.lean ====
section
/-! DEFINITION. The state of the UZ-816 as plain data, block by block, and its value after a part reset that finds the
retained store invalid. -/

namespace Sys2Proof.Machine

/-! ## Named values -/

/-- A count on the 1 ms time base and the length at which it expires (00 Conventions). -/
structure Timer where
  count : Nat
  limit : Nat
  deriving DecidableEq, Repr

/-- A monitor line class (00 Terms). -/
inductive LineClass where
  | low | medium | high
  deriving DecidableEq, Repr

/-- A measured class: a line class, or OUT (08, the class table). -/
inductive MeasuredClass where
  | inClass (k : LineClass)
  | out
  deriving DecidableEq, Repr

/-- A polarity (05). -/
inductive Polarity where
  | activeLow | activeHigh
  deriving DecidableEq, Repr

/-- MENU or a bay (09). -/
inductive Target where
  | menu
  | bay (b : Bay)
  deriving DecidableEq, Repr

/-- The crosspoint's source (08). -/
inductive Source where
  | menu
  | bay (b : Bay)
  | blank
  deriving DecidableEq, Repr

/-- A reason for a NAK (R188). -/
inductive NakReason where
  | check | format | unknown | busyLink | level | range | busy | state | locked | already | budget | noCredit
  | noRoom | queueFull | faultPresent | noDoubt | snapshotBusy
  deriving DecidableEq, Repr

/-! ## Coin intake and the Token Store (01) -/

/-- A chute's state (R1 to R5). -/
inductive ChuteState where
  | disabled | idle | inCoin | jammed
  deriving DecidableEq, Repr

/-- A chute record (01 Chutes). -/
structure ChuteRecord where
  state : ChuteState
  width : Nat
  minWidth : Nat
  maxWidth : Nat
  weight : Nat
  jamCount : Nat
  deriving DecidableEq, Repr

/-- A coil's state, PULL_IN with its count of milliseconds (R18). -/
inductive Coil where
  | off
  | pullIn (count : Nat)
  | hold
  | tripped
  deriving DecidableEq, Repr

/-- Coin Intake. -/
structure Intake where
  chutes : Vector ChuteRecord 4
  coils : Vector Coil 4
  faultLatch : Bool
  activeDuty : Nat
  pendingDuty : Nat
  closed : Bool
  deriving DecidableEq, Repr

/-- How a token came to exist (01). -/
inductive Origin where
  | coin | grant
  deriving DecidableEq, Repr

/-- Where a token is (01). -/
inductive Place where
  | pool
  | feeder (b : Bay) (n : UnitNo)
  deriving DecidableEq, Repr

/-- A token record (01 The Token Store). -/
structure Token where
  seq : Seq
  chute : Option Chute
  origin : Origin
  place : Place
  deriving DecidableEq, Repr

/-- The Token Store: the arrival list, oldest first, and the sequence allocator (R8, R9). -/
structure TokenStore where
  arrival : List Token
  allocator : Seq
  deriving DecidableEq, Repr

/-! ## Feeders and pulse units (02) -/

/-- What formed a coin unit (02). -/
inductive UnitCause where
  | gate | transfer
  deriving DecidableEq, Repr

/-- Where a coin unit stands in its delivery (R27). -/
inductive UnitStatus where
  | queued | sending | echoWait | confirmedInTrail | doubt
  deriving DecidableEq, Repr

/-- A coin unit record; its bay is that of the feeder which holds it (02 Coin Units). -/
structure CoinUnit where
  number : UnitNo
  tokens : List Seq
  line : CoinLine
  cause : UnitCause
  status : UnitStatus
  deriving DecidableEq, Repr

/-- A feeder (02 Feeders); its state and its pulse request are read from these (R28, R30). -/
structure Feeder where
  queue : List CoinUnit
  slot : Option CoinUnit
  held : Option PulseId
  window : Option Timer
  nextUnit : UnitNo
  deriving DecidableEq, Repr

/-- A feeder's state (R28). -/
inductive FeederState where
  | idle | waiting | pulsing | awaitEcho | held
  deriving DecidableEq, Repr

/-- A held pulse unit's phase (R36). -/
inductive PulsePhase where
  | lead | active | trail
  deriving DecidableEq, Repr

/-- A held pulse unit: what it captured at its grant, its phase and its phase count (R36). -/
structure Pulse where
  bay : Bay
  line : CoinLine
  polarity : Polarity
  lead : Nat
  active : Nat
  trail : Nat
  phase : PulsePhase
  count : Nat
  deriving DecidableEq, Repr

/-- The two pulse units, none when IDLE, and the arbiter's rotation pointer (R36, R42). -/
structure PulseBank where
  a : Option Pulse
  b : Option Pulse
  pointer : Bay
  deriving DecidableEq, Repr

/-! ## Meter lines (03) and the start gate (04) -/

/-- An echo filter's state (R49, R50). -/
inductive EchoFilter where
  | dark
  | ready
  | counting (count : Nat)
  | waitRelease
  deriving DecidableEq, Repr

/-- The two filters of a bay. `late` is the model's own: the lines whose count a power loss has cut off since the last
tick, whose echo may still be taken behind the power loss (R46, log entry 30). -/
structure BayFilters where
  one : EchoFilter
  two : EchoFilter
  late : List CoinLine
  deriving DecidableEq, Repr

/-- Why an echo is a stray (R51). -/
inductive StrayReason where
  | echoNone | noUnit | otherLine | notOpen | settled
  deriving DecidableEq, Repr

/-- An outcome a feeder hands to the gate (R64). -/
inductive GateOutcome where
  | confirmed | doubt | voided | refunded | returned
  deriving DecidableEq, Repr

/-- The gate's state (R67). -/
inductive GateState where
  | idle | paying | firing
  deriving DecidableEq, Repr

/-- Why a charge is abandoned (R74). -/
inductive AbandonCause where
  | doubt | returned | powerLoss | release
  deriving DecidableEq, Repr

/-- The gate record (R67) and the start width timer (R72). -/
structure Gate where
  state : GateState
  bay : Option Bay
  switch : Option Switch
  owed : Nat
  units : List UnitNo
  confirmed : Nat
  carry : Nat
  timer : Option Timer
  deriving DecidableEq, Repr

/-! ## Settings (05) -/

/-- The general group of a bay profile. -/
structure GeneralGroup where
  tag : List Byte
  load : Nat
  bootLimit : Nat
  resetHold : Nat
  keepWarm : Bool
  lineClass : LineClass
  attempts : Nat
  deriving DecidableEq, Repr

/-- Whether a bay's units are settled by meter echo. -/
inductive EchoMode where
  | none | meter
  deriving DecidableEq, Repr

/-- What becomes of queued units when a bay leaves the active role (R43). -/
inductive LeavePolicy where
  | giveBack | keep
  deriving DecidableEq, Repr

/-- The coin group of a bay profile. -/
structure CoinGroup where
  rate : Nat
  line : CoinLine
  lead : Nat
  active : Nat
  trail : Nat
  polarity : Polarity
  echoMode : EchoMode
  window : Nat
  leavePolicy : LeavePolicy
  deriving DecidableEq, Repr

/-- How a board is paid (04 Pay Modes). -/
inductive PayMode where
  | freePlay | onStart | prepaid
  deriving DecidableEq, Repr

/-- The play group of a bay profile. -/
structure PlayGroup where
  payMode : PayMode
  price : Nat
  startWidth : Nat
  deriving DecidableEq, Repr

/-- A bay profile (05). -/
structure Profile where
  general : GeneralGroup
  coin : CoinGroup
  play : PlayGroup
  lines : Vector Polarity 32
  deriving DecidableEq, Repr

/-- A group of a bay profile (05). -/
inductive ProfileGroup where
  | general | coin | play | lines
  deriving DecidableEq, Repr

/-- A group of the cabinet record (05). -/
inductive CabinetGroup where
  | chutes | panel | system
  deriving DecidableEq, Repr

/-- A route's mode (R86). -/
inductive RouteMode where
  | direct | pulse
  deriving DecidableEq, Repr

/-- One entry of a route map (05 Route Maps). -/
structure Route where
  switch : Switch
  line : GeneralLine
  mode : RouteMode
  width : Nat
  deriving DecidableEq, Repr

/-- A chute's configuration (01 Chutes). -/
structure ChuteConfig where
  enabled : Bool
  weight : Nat
  minWidth : Nat
  maxWidth : Nat
  deriving DecidableEq, Repr

/-- The panel group of the cabinet record. -/
structure PanelGroup where
  p1 : Option Switch
  p2 : Option Switch
  menu : Switch
  quiet : Nat
  deriving DecidableEq, Repr

/-- The arbiter mode (R41). -/
inductive ArbiterMode where
  | fixed | rotating
  deriving DecidableEq, Repr

/-- The system group of the cabinet record. -/
structure SystemGroup where
  arbiter : ArbiterMode
  budget : Nat
  settle : Nat
  ramp : Nat
  menuClass : LineClass
  holdDuty : Nat
  deriving DecidableEq, Repr

/-- The three groups of the cabinet record. -/
structure Cabinet where
  chutes : Vector ChuteConfig 4
  panel : PanelGroup
  system : SystemGroup
  deriving DecidableEq, Repr

/-- The table lock (R94). -/
inductive Lock where
  | opened | locked | fixed
  deriving DecidableEq, Repr

/-- What the table lock governs: the bay profiles, route maps and cabinet groups, with the lock itself (R95). -/
structure Tables where
  profiles : Vector Profile 8
  routes : Vector (List Route) 8
  cabinet : Cabinet
  lock : Lock
  deriving DecidableEq, Repr

/-- The retained flags the lock does not govern: the bays' enabled flags (R85), the intake-open flag (R16). -/
structure RetainedFlags where
  enabled : Vector Bool 8
  intakeOpen : Bool
  deriving DecidableEq, Repr

/-! ## Panel scanner and route engine (06) -/

/-- A switch's role, none apart (R101). -/
inductive Role where
  | p1 | p2 | menu
  deriving DecidableEq, Repr

/-- The panel scanner. `strobe` is the strobe being driven (R98). Until the first complete debounce, which `settled`
says has been taken, `samples` are those of the full scans and `scan` those of the scan under way (R100); `counts`
holds the debounce count of each switch (R99). -/
structure Panel where
  strobe : Strobe
  scan : BitVec 64
  samples : List (BitVec 64)
  settled : Bool
  counts : Vector Nat 64
  pressed : List Switch
  mask : List Switch
  menuHold : Option Timer
  deriving DecidableEq, Repr

/-- A running route pulse timer and the route it serves (R106). -/
structure RoutePulse where
  switch : Switch
  line : GeneralLine
  timer : Timer
  deriving DecidableEq, Repr

/-- The route engine: the running route pulse timers, and the quiet timer while the quiet wait is WAITING (R111). -/
structure Routing where
  pulses : List RoutePulse
  quiet : Option Timer
  deriving DecidableEq, Repr

/-! ## Bay power (07) -/

/-- A bay's power state (R116). -/
inductive PowerState where
  | disabled | off | cooling | starting | booting | running | tripped | faulted
  deriving DecidableEq, Repr

/-- A power-up to be judged when COOLING ends (R119). -/
inductive Deferred where
  | handover | preheat | recovery
  deriving DecidableEq, Repr

/-- What the Bay Power Controller holds for a bay (07). -/
structure BayPower where
  state : PowerState
  attempts : Nat
  deferred : Option Deferred
  releasePending : Bool
  timer : Option Timer
  deriving DecidableEq, Repr

/-- The Bay Power Controller: the bays, the warm list, head first, and the protected set (R131, R134). -/
structure Power where
  bays : Vector BayPower 8
  warm : List Bay
  protectedSet : List Bay
  deriving DecidableEq, Repr

/-! ## Sync checkers and crosspoint (08) -/

/-- A checker's state (R140). -/
inductive CheckerState where
  | dark | seeking | locked | lost
  deriving DecidableEq, Repr

/-- A sync checker. `rate` is the measured field rate, held as the field's length in ns (log entry 10). -/
structure Checker where
  state : CheckerState
  good : Nat
  bad : Nat
  gap : Nat
  begun : Bool
  measured : Option MeasuredClass
  rate : Option Nat
  deriving DecidableEq, Repr

/-- The audio state (R147). -/
inductive AudioState where
  | muted | rising | full | falling
  deriving DecidableEq, Repr

/-- The crosspoint (08); `gain` counts shares of `Config.gainFull`. -/
structure Crosspoint where
  source : Source
  lineClass : LineClass
  settle : Option Timer
  audio : AudioState
  gain : Nat
  ramp : Nat
  cut : Option Target
  deriving DecidableEq, Repr

/-! ## Handover controller (09) -/

/-- A handover's phase (R154). -/
inductive Phase where
  | release | power | classChange | quiet
  deriving DecidableEq, Repr

/-- How a bay is lost (R135). -/
inductive LossCause where
  | lost | tripped | disabled
  deriving DecidableEq, Repr

/-- What set the present target (R154). -/
inductive Cause where
  | select (l : Link)
  | menuSwitch
  | loss (c : LossCause)
  | failed
  deriving DecidableEq, Repr

/-- Why a target failed (R154). -/
inductive FailReason where
  | budget | tripped | faulted | disabled
  deriving DecidableEq, Repr

/-- A handover to MENU that is to begin when the present one completes (R154). -/
inductive FollowOn where
  | menuSwitch
  | loss (c : LossCause)
  deriving DecidableEq, Repr

/-- The handover record (R154). -/
structure HandoverRecord where
  origin : Target
  released : Bool
  target : Target
  phase : Phase
  cause : Cause
  failedBay : Option Bay
  failReason : Option FailReason
  followOn : Option FollowOn
  deriving DecidableEq, Repr

/-- The stage; the handover record exists in HANDOVER, the active bay in PLAY (R154). -/
inductive Stage where
  | menu
  | handover (r : HandoverRecord)
  | play (b : Bay)
  deriving DecidableEq, Repr

/-- What one block hands to another within an event (R28, R135, R148, R149, R113). -/
inductive Report where
  | rampDone
  | cutDone (src : Source)
  | ready (b : Bay)
  | failed (b : Bay) (r : FailReason)
  | loss (b : Bay) (c : LossCause)
  | cutToCooling (b : Bay)
  | quietGrant
  | feederIdle (b : Bay)
  deriving DecidableEq, Repr

/-! ## Audit (10) -/

/-- The audit counters and the counter-full flag (R174). -/
structure Audit where
  counters : Vector Nat 50
  full : Bool
  deriving DecidableEq, Repr

/-- A FULL snapshot (R177). -/
structure Snapshot where
  owner : Link
  counters : Vector Nat 50
  live : Nat
  pool : Nat
  deriving DecidableEq, Repr

/-! ## Links (11) -/

/-- The cause of a POOL notice (R14). -/
inductive PoolCause where
  | coin | grant | withdraw | draw | giveBack | spent | voided
  deriving DecidableEq, Repr

/-- The event of an INTAKE notice (R17). -/
inductive IntakeEvent where
  | closed | opened | jammed | jamCleared | overflow | coilFault | coilsArmed
  deriving DecidableEq, Repr

/-- The intake as an INTAKE notice and STATUS give it (R17, R191). -/
structure IntakeView where
  isOpen : Bool
  byFlag : Bool
  byReserve : Bool
  faultLatch : Bool
  chutes : Vector ChuteState 4
  deriving DecidableEq, Repr

/-- The event of a FEEDER notice (R48). -/
inductive FeederEvent where
  | held | resumed
  deriving DecidableEq, Repr

/-- A BAY notice's event with its detail (R136). -/
inductive BayEvent where
  | running | tripped | armed | crashed | faulted | cleared
  | evicted (target : Bay)
  | refused (kind : Deferred)
  | disabled | enabled
  deriving DecidableEq, Repr

/-- A notice with what its owning rule lists (R190). -/
inductive Notice where
  | panel (e : Edge) (w : Switch) (role : Option Role)
  | pool (c : PoolCause) (moved : Nat) (bay : Option Bay) (pool free : Nat)
  | stageBegun (origin target : Target) (c : Cause)
  | stageRetargeted (origin target former : Target) (c : Cause) (p : Phase)
  | stageEntered (target : Target) (c : Cause)
  | stageRestart (valid : Bool)
  | handoverFailed (b : Bay) (r : FailReason) (origin : Target)
  | feeder (e : FeederEvent) (b : Bay) (number : UnitNo) (tokens : Nat) (c : UnitCause) (f : FeederState)
      (queued : Nat)
  | gateNeedCredit (b : Bay) (w : Switch) (owed needed pool carry : Nat)
  | gateQueueFull (b : Bay) (w : Switch) (owed queued carry : Nat)
  | gateFired (b : Bay) (w : Switch) (owed width : Nat)
  | gateAbandoned (b : Bay) (w : Option Switch) (c : AbandonCause) (owed confirmed carry : Nat)
  | bay (e : BayEvent) (b : Bay) (p : PowerState) (attempts : Nat) (position : Option Nat)
  | stray (b : Bay) (m : CoinLine) (r : StrayReason) (f : FeederState)
  | intake (e : IntakeEvent) (c : Option Chute) (v : IntakeView)
  deriving DecidableEq, Repr

/-- A reply: an ACK with its reply data, or a NAK with its reason, each with the type it answers (R188). -/
inductive Reply where
  | ack (typ : Byte) (data : List Byte)
  | nak (typ : Byte) (r : NakReason)
  deriving DecidableEq, Repr

/-- What judging a request comes to: acknowledged with its reply data, or refused (R188). -/
inductive Answer where
  | ack (data : List Byte)
  | nak (r : NakReason)
  deriving DecidableEq, Repr

/-- What a transmitter sends (R188, R190). -/
inductive Sending where
  | reply (r : Reply)
  | busyLink (typ : Byte)
  | notice (n : Notice)
  deriving DecidableEq, Repr

/-- A receiver's state with what it keeps; `gap` is the count since the last byte (R182). -/
inductive Receiver where
  | hunt
  | length (gap : Nat)
  | typ (n : Byte) (gap : Nat)
  | payload (n typ : Byte) (got : List Byte) (gap : Nat)
  | check (n typ : Byte) (got : List Byte) (gap : Nat)
  deriving DecidableEq, Repr

/-- What follows when a reply's last byte has been sent, besides the end of the request (R178, R193). -/
inductive AfterReply where
  | nothing | freeSnapshot | restart
  deriving DecidableEq, Repr

/-- A pending request: its type, its reply until the transmitter takes it, and what the reply's end brings (R186). -/
structure PendingRequest where
  typ : Byte
  waiting : Option Reply
  after : AfterReply
  deriving DecidableEq, Repr

/-- One link (11). -/
structure LinkState where
  rx : Receiver
  pending : Option PendingRequest
  mark : Option Byte
  tx : Option Sending
  queue : List Notice
  overrun : Bool
  deriving DecidableEq, Repr

/-- Both links. -/
structure Links where
  selector : LinkState
  service : LinkState
  deriving DecidableEq, Repr

/-- The service key's debounced level, true when closed, and its count of agreeing samples (R187). -/
structure ServiceKey where
  closed : Bool
  count : Nat
  deriving DecidableEq, Repr

/-! ## Lines sampled -/

/-- The meter lines of a bay, true when high (R49). -/
structure MeterPins where
  one : Bool
  two : Bool
  deriving DecidableEq, Repr

/-- The levels of the lines the part samples: a coin input, the coil fault input and an overcurrent input are true
when active, a meter line when high, a panel contact when pressed, the service key when closed. -/
structure Pins where
  coin : Vector Bool 4
  coilFault : Bool
  meter : Vector MeterPins 8
  overcurrent : Vector Bool 8
  panel : BitVec 64
  key : Bool
  deriving DecidableEq, Repr

/-! ## The machine -/

/-- The state of the UZ-816. The last four fields are the model's own: reports handed on within an event (log entry 7), a
report of a power cut that another event may be taken before (log entry 39), the counter free orders are drawn with (log
entry 8), and the commands that wait. -/
structure State where
  pins : Pins
  intake : Intake
  store : TokenStore
  feeders : Vector Feeder 8
  pulses : PulseBank
  filters : Vector BayFilters 8
  gate : Gate
  tables : Tables
  flags : RetainedFlags
  panel : Panel
  routing : Routing
  power : Power
  checkers : Vector Checker 8
  monitor : Crosspoint
  stage : Stage
  audit : Audit
  snapshot : Option Snapshot
  links : Links
  key : ServiceKey
  reports : List Report
  late : Option Report
  choices : Nat
  pending : List Instr
  deriving DecidableEq, Repr

/-- A fault stops the machine. The manual names nothing that does, so no command raises one. -/
inductive Fault where
  deriving DecidableEq, Repr

/-- A refusal: the command has no meaning in the model. -/
inductive Refusal where
  /-- Raised by an arm of `exec` whose command has no meaning yet, naming it as the opcode table does. Safe: nothing
  can be proved of such a command. -/
  | notModelled (mnemonic : String)
  deriving DecidableEq, Repr

/-! ## Factory defaults and reset -/

/-- The factory name tag of a bay: "BAY n" padded with three spaces (05). -/
def factoryTag (b : Bay) : List Byte :=
  [0x42#8, 0x41#8, 0x59#8, 0x20#8, BitVec.ofNat 8 (0x30 + b.val), 0x20#8, 0x20#8, 0x20#8]

/-- The factory profile of a bay (05, the profile table). -/
def Profile.factory (b : Bay) : Profile where
  general := { tag := factoryTag b, load := 6, bootLimit := 20, resetHold := 100, keepWarm := true,
               lineClass := .low, attempts := 2 }
  coin := { rate := 1, line := .one, lead := 0, active := 50, trail := 100, polarity := .activeLow,
            echoMode := .meter, window := 500, leavePolicy := .giveBack }
  play := { payMode := .onStart, price := 1, startWidth := 100 }
  lines := Vector.replicate 32 .activeLow

/-- The factory configuration of a chute: enabled for A and B (01, the chute table). -/
def ChuteConfig.factory (c : Chute) : ChuteConfig where
  enabled := decide (c.val < 2)
  weight := 1
  minWidth := 20
  maxWidth := 150

/-- The factory cabinet record (05, the cabinet table). -/
def Cabinet.factory : Cabinet where
  chutes := Vector.ofFn ChuteConfig.factory
  panel := { p1 := some 0, p2 := some 1, menu := 63, quiet := 1000 }
  system := { arbiter := .rotating, budget := 48, settle := 1500, ramp := 40, menuClass := .low, holdDuty := 8 }

/-- The factory tables, the lock OPEN (R97). -/
def Tables.factory : Tables where
  profiles := Vector.ofFn Profile.factory
  routes := Vector.replicate 8 []
  cabinet := Cabinet.factory
  lock := .opened

/-- The factory flags: no bay enabled, the intake-open flag true (R97). -/
def RetainedFlags.factory : RetainedFlags where
  enabled := Vector.replicate 8 false
  intakeOpen := true

/-- The factory Token Store: empty, the allocator 0 (R25). -/
def TokenStore.factory : TokenStore where
  arrival := []
  allocator := 0

/-- The factory audit: every counter 0, the flag clear (R175). -/
def Audit.factory : Audit where
  counters := Vector.replicate 50 0
  full := false

/-- A chute record outside a pulse (log entry 6). -/
def ChuteRecord.fresh (st : ChuteState) : ChuteRecord where
  state := st
  width := 0
  minWidth := 0
  maxWidth := 0
  weight := 0
  jamCount := 0

/-- A feeder after a part reset (R28). -/
def Feeder.fresh : Feeder where
  queue := []
  slot := none
  held := none
  window := none
  nextUnit := 0

/-- The pulse units and the arbiter after a part reset (R47). -/
def PulseBank.fresh : PulseBank where
  a := none
  b := none
  pointer := 0

/-- The gate after a part reset (R67). -/
def Gate.fresh : Gate where
  state := .idle
  bay := none
  switch := none
  owed := 0
  units := []
  confirmed := 0
  carry := 0
  timer := none

/-- The panel scanner after a part reset (R100, R114). -/
def Panel.fresh : Panel where
  strobe := 0
  scan := 0
  samples := []
  settled := false
  counts := Vector.replicate 64 0
  pressed := []
  mask := []
  menuHold := none

/-- The route engine after a part reset (R114). -/
def Routing.fresh : Routing where
  pulses := []
  quiet := none

/-- A bay's filters after a part reset (R49). -/
def BayFilters.fresh : BayFilters where
  one := .dark
  two := .dark
  late := []

/-- A checker after a part reset (R140). -/
def Checker.fresh : Checker where
  state := .dark
  good := 0
  bad := 0
  gap := 0
  begun := false
  measured := none
  rate := none

/-- A link after a part reset, before its first notice (R193). -/
def LinkState.fresh : LinkState where
  rx := .hunt
  pending := none
  mark := none
  tx := none
  queue := []
  overrun := false

/-- A link sending the first notice after a part reset that found the retained store invalid (R193). -/
def LinkState.restarting : LinkState :=
  { LinkState.fresh with tx := some (.notice (.stageRestart false)) }

/-- Lines at their inactive levels (log entry 5). -/
def Pins.quiet : Pins where
  coin := Vector.replicate 4 false
  coilFault := false
  meter := Vector.replicate 8 { one := true, two := true }
  overcurrent := Vector.replicate 8 false
  panel := 0
  key := false

/-- The machine right after a part reset that finds the retained store invalid (R25, R97, log entry 4), with every
line sampled inactive (log entry 5). -/
def State.reset : State where
  pins := Pins.quiet
  intake := {
    chutes := Vector.ofFn fun c => ChuteRecord.fresh (if c.val < 2 then .idle else .disabled)
    coils := Vector.ofFn fun c => if c.val < 2 then .pullIn 0 else .off
    faultLatch := false
    activeDuty := 8
    pendingDuty := 8
    closed := false }
  store := TokenStore.factory
  feeders := Vector.replicate 8 Feeder.fresh
  pulses := PulseBank.fresh
  filters := Vector.replicate 8 BayFilters.fresh
  gate := Gate.fresh
  tables := Tables.factory
  flags := RetainedFlags.factory
  panel := Panel.fresh
  routing := Routing.fresh
  power := {
    bays := Vector.replicate 8
      { state := .disabled, attempts := 2, deferred := none, releasePending := false, timer := none }
    warm := []
    protectedSet := [] }
  checkers := Vector.replicate 8 Checker.fresh
  monitor := { source := .menu, lineClass := .low, settle := none, audio := .rising, gain := 0, ramp := 40,
               cut := none }
  stage := .menu
  audit := Audit.factory
  snapshot := none
  links := { selector := LinkState.restarting, service := LinkState.restarting }
  key := { closed := false, count := 0 }
  reports := []
  late := none
  choices := 0
  pending := []

end Sys2Proof.Machine
end

