-- ==== Sys2Proof/Machine/Wire.lean ====
section
/-! DEFINITION. How the part's replies and notices are laid out as bytes: the field encodings of R184, the payloads of
the notices and the frames a transmitter sends. -/

namespace Sys2Proof.Machine

/-- A number within 0 to 255, in one byte (R184). -/
def byteOf (n : Nat) : Byte := BitVec.ofNat 8 n

/-- A number in two bytes, most significant first (R184). -/
def twoBytes (n : Nat) : List Byte := [byteOf (n / 256), byteOf n]

/-- An audit counter value in three bytes, most significant first (R184). -/
def threeBytes (n : Nat) : List Byte := [byteOf (n / 65536), byteOf (n / 256), byteOf n]

/-- A field that states whether something holds (R184). -/
def boolByte (v : Bool) : Byte := if v then 0x01#8 else 0x00#8

/-- A field that may be none (R184). -/
def optByte {α : Type} (f : α → Byte) : Option α → Byte
  | some x => f x
  | none => 0xFF#8

/-- A bay's byte (R184). -/
def bayByte (b : Bay) : Byte := byteOf b.val
/-- A switch's byte. -/
def switchByte (w : Switch) : Byte := byteOf w.val

/-- MENU is 08h where a bay may stand (R184). -/
def Target.code : Target → Byte
  | .menu => 0x08
  | .bay b => bayByte b

/-- BLANK is 09h (R184). -/
def Source.code : Source → Byte
  | .menu => 0x08
  | .bay b => bayByte b
  | .blank => 0x09

/-- Link, in the order R177 names them. -/
def linkByte : Link → Byte
  | .selector => 0
  | .service => 1

/-- The number of a coin or meter line. -/
def coinLineByte : CoinLine → Byte
  | .one => 1
  | .two => 2

/-- PRESS, RELEASE (R99). -/
def edgeByte : Edge → Byte
  | .press => 0
  | .release => 1

/-- P1, P2, MENU (R102). -/
def Role.code : Role → Byte
  | .p1 => 0
  | .p2 => 1
  | .menu => 2

/-- L, M, H (08, the class table). -/
def LineClass.code : LineClass → Byte
  | .low => 0
  | .medium => 1
  | .high => 2

/-- L, M, H, OUT (08, the class table). -/
def MeasuredClass.code : MeasuredClass → Byte
  | .inClass k => k.code
  | .out => 3

/-- active-low, active-high (05). -/
def Polarity.code : Polarity → Byte
  | .activeLow => 0
  | .activeHigh => 1

/-- NONE, METER (05). -/
def EchoMode.code : EchoMode → Byte
  | .none => 0
  | .meter => 1

/-- RETURN, KEEP (05). -/
def LeavePolicy.code : LeavePolicy → Byte
  | .giveBack => 0
  | .keep => 1

/-- FREE_PLAY, ON_START, PREPAID (05). -/
def PayMode.code : PayMode → Byte
  | .freePlay => 0
  | .onStart => 1
  | .prepaid => 2

/-- FIXED, ROTATING (05). -/
def ArbiterMode.code : ArbiterMode → Byte
  | .fixed => 0
  | .rotating => 1

/-- OPEN, LOCKED, FIXED (05). -/
def Lock.code : Lock → Byte
  | .opened => 0
  | .locked => 1
  | .fixed => 2

/-- DISABLED, IDLE, IN_COIN, JAMMED (01). -/
def ChuteState.code : ChuteState → Byte
  | .disabled => 0
  | .idle => 1
  | .inCoin => 2
  | .jammed => 3

/-- GATE, TRANSFER (02). -/
def UnitCause.code : UnitCause → Byte
  | .gate => 0
  | .transfer => 1

/-- IDLE, WAITING, PULSING, AWAIT_ECHO, HELD (02). -/
def FeederState.code : FeederState → Byte
  | .idle => 0
  | .waiting => 1
  | .pulsing => 2
  | .awaitEcho => 3
  | .held => 4

/-- ECHO_NONE, NO_UNIT, OTHER_LINE, NOT_OPEN, SETTLED (R62). -/
def StrayReason.code : StrayReason → Byte
  | .echoNone => 0
  | .noUnit => 1
  | .otherLine => 2
  | .notOpen => 3
  | .settled => 4

/-- DOUBT, RETURNED, POWER_LOSS, RELEASE (R77). -/
def AbandonCause.code : AbandonCause → Byte
  | .doubt => 0
  | .returned => 1
  | .powerLoss => 2
  | .release => 3

/-- DISABLED to FAULTED (07, the table of items). -/
def PowerState.code : PowerState → Byte
  | .disabled => 0
  | .off => 1
  | .cooling => 2
  | .starting => 3
  | .booting => 4
  | .running => 5
  | .tripped => 6
  | .faulted => 7

/-- HANDOVER, PREHEAT, RECOVERY (07; none is FFh). -/
def Deferred.code : Deferred → Byte
  | .handover => 0
  | .preheat => 1
  | .recovery => 2

/-- DARK, SEEKING, LOCKED, LOST (08). -/
def CheckerState.code : CheckerState → Byte
  | .dark => 0
  | .seeking => 1
  | .locked => 2
  | .lost => 3

/-- RELEASE, POWER, CLASS, QUIET (R154). -/
def Phase.code : Phase → Byte
  | .release => 0
  | .power => 1
  | .classChange => 2
  | .quiet => 3

/-- SELECT_SELECTOR to FAILED (R154). -/
def Cause.code : Cause → Byte
  | .select .selector => 0
  | .select .service => 1
  | .menuSwitch => 2
  | .loss .lost => 3
  | .loss .tripped => 4
  | .loss .disabled => 5
  | .failed => 6

/-- BUDGET, TRIPPED, FAULTED, DISABLED (R154; none is FFh). -/
def FailReason.code : FailReason → Byte
  | .budget => 0
  | .tripped => 1
  | .faulted => 2
  | .disabled => 3

/-- COIN to VOIDED (R14). -/
def PoolCause.code : PoolCause → Byte
  | .coin => 0
  | .grant => 1
  | .withdraw => 2
  | .draw => 3
  | .giveBack => 4
  | .spent => 5
  | .voided => 6

/-- The events of R17 in its order. -/
def IntakeEvent.code : IntakeEvent → Byte
  | .closed => 0
  | .opened => 1
  | .jammed => 2
  | .jamCleared => 3
  | .overflow => 4
  | .coilFault => 5
  | .coilsArmed => 6

/-- HELD, RESUMED (R48). -/
def FeederEvent.code : FeederEvent → Byte
  | .held => 0
  | .resumed => 1

/-- The events of R136 in its order. -/
def BayEvent.code : BayEvent → Byte
  | .running => 0
  | .tripped => 1
  | .armed => 2
  | .crashed => 3
  | .faulted => 4
  | .cleared => 5
  | .evicted _ => 6
  | .refused _ => 7
  | .disabled => 8
  | .enabled => 9

/-- The event's own detail in a BAY notice: the target bay of EVICTED, the kind and the reason BUDGET of REFUSED, which
the model numbers among the failure reasons (R136, R154, log entry 36). -/
def BayEvent.detail : BayEvent → List Byte
  | .evicted t => [bayByte t]
  | .refused k => [k.code, FailReason.budget.code]
  | .running | .tripped | .armed | .crashed | .faulted | .cleared | .disabled | .enabled => []

/-- The NAK reason table of R188. -/
def NakReason.code : NakReason → Byte
  | .check => 0x01
  | .format => 0x02
  | .unknown => 0x03
  | .busyLink => 0x04
  | .level => 0x05
  | .range => 0x06
  | .busy => 0x07
  | .state => 0x08
  | .locked => 0x09
  | .already => 0x0A
  | .budget => 0x0B
  | .noCredit => 0x0C
  | .noRoom => 0x0D
  | .queueFull => 0x0E
  | .faultPresent => 0x0F
  | .noDoubt => 0x10
  | .snapshotBusy => 0x11

/-- The set of reasons for closure, FLAG in bit 0 and RESERVE in bit 1 (R15, R184). -/
def closureReasons (byFlag byReserve : Bool) : Byte :=
  byteOf ((if byFlag then 1 else 0) + (if byReserve then 2 else 0))

/-- The state of intake as notices and STATUS carry it (R17, R191). -/
def IntakeView.bytes (v : IntakeView) : List Byte :=
  [boolByte v.isOpen, closureReasons v.byFlag v.byReserve, boolByte v.faultLatch]
    ++ v.chutes.toList.map ChuteState.code

/-- A notice's frame type (11 Notices). -/
def Notice.typ : Notice → Byte
  | .panel _ _ _ => 0xA0
  | .pool _ _ _ _ _ => 0xA1
  | .stageBegun _ _ _ | .stageRetargeted _ _ _ _ _ | .stageEntered _ _ | .stageRestart _ => 0xA2
  | .handoverFailed _ _ _ => 0xA3
  | .feeder _ _ _ _ _ _ _ => 0xA4
  | .gateNeedCredit _ _ _ _ _ _ | .gateQueueFull _ _ _ _ _ | .gateFired _ _ _ _ | .gateAbandoned _ _ _ _ _ _ => 0xA5
  | .bay _ _ _ _ _ => 0xA6
  | .stray _ _ _ _ => 0xA7
  | .intake _ _ _ => 0xA8

/-- A notice's payload: its event, then the fields its owning rule lists (R184, R190). The event of a POOL notice is its
cause (R14, log entry 37). -/
def Notice.payload : Notice → List Byte
  | .panel e w role => [edgeByte e, switchByte w, optByte Role.code role]
  | .pool c moved who inPool free => [c.code, byteOf moved, optByte bayByte who, byteOf inPool, byteOf free]
  | .stageBegun origin target c => [0x00, origin.code, target.code, c.code]
  | .stageRetargeted origin target former c p => [0x01, origin.code, target.code, former.code, c.code, p.code]
  | .stageEntered .menu c => [0x02, 0x00, 0xFF, c.code]
  | .stageEntered (Target.bay b) c => [0x02, 0x02, bayByte b, c.code]
  | .stageRestart valid => [0x03, 0x00, if valid then 0x00 else 0x01]
  | .handoverFailed b r origin => [0x00, bayByte b, r.code, origin.code]
  | .feeder e b number tokens c f queued =>
    [e.code, bayByte b, number, byteOf tokens, c.code, f.code, byteOf queued]
  | .gateNeedCredit b w owed needed inPool carry =>
    [0x00, bayByte b, switchByte w, byteOf owed, byteOf needed, byteOf inPool, byteOf carry]
  | .gateQueueFull b w owed queued carry =>
    [0x01, bayByte b, switchByte w, byteOf owed, byteOf queued, byteOf carry]
  | .gateFired b w owed width => [0x02, bayByte b, switchByte w, byteOf owed, byteOf width]
  | .gateAbandoned b w c owed confirmed carry =>
    [0x03, bayByte b, optByte switchByte w, c.code, byteOf owed, byteOf confirmed, byteOf carry]
  | .bay e b p attempts position =>
    [e.code, bayByte b, p.code, byteOf attempts, optByte byteOf position] ++ e.detail
  | .stray b m r f => [0x00, bayByte b, coinLineByte m, r.code, f.code]
  | .intake e c v => [e.code, optByte (fun k => byteOf k.val) c] ++ v.bytes

/-- A reply's frame type (R188). -/
def Reply.typ : Reply → Byte
  | .ack _ _ => 0x80
  | .nak _ _ => 0x81

/-- A reply's payload (R188). -/
def Reply.payload : Reply → List Byte
  | .ack typ data => typ :: data
  | .nak typ r => [typ, r.code]

/-- The bytes of the frame a transmitter sends (R181, R183). -/
def Sending.bytes : Sending → List Byte
  | .reply r => frameBytes r.typ r.payload
  | .busyLink typ => frameBytes 0x81 [typ, NakReason.busyLink.code]
  | .notice n => frameBytes n.typ n.payload

/-- A measured field rate in tenths of a hertz, from the field's length in ns: FFFEh from 6553.4 Hz, FFFFh for none
(R184). A rate that is no whole number of tenths is rounded by a free value (log entry 10). -/
def rateTenths : Option Nat → Nat
  | none => 0xFFFF
  | some length =>
    if length * 65534 ≤ 10000000000 then 0xFFFE
    else 10000000000 / length
      + (if length ∣ 10000000000 then 0 else if Config.rateRoundsUp length then 1 else 0)

/-- A route entry's three bytes (R184). -/
def Route.bytes (r : Route) : List Byte :=
  [byteOf (r.switch.val + (match r.mode with | .direct => 0 | .pulse => 128)), byteOf r.line.val, byteOf r.width]

/-- The fields of the general group (05, R184). -/
def GeneralGroup.bytes (g : GeneralGroup) : List Byte :=
  g.tag ++ [byteOf g.load, byteOf g.bootLimit] ++ twoBytes g.resetHold
    ++ [boolByte g.keepWarm, g.lineClass.code, byteOf g.attempts]

/-- The fields of the coin group. -/
def CoinGroup.bytes (g : CoinGroup) : List Byte :=
  [byteOf g.rate, coinLineByte g.line, byteOf g.lead, byteOf g.active] ++ twoBytes g.trail
    ++ [g.polarity.code, g.echoMode.code] ++ twoBytes g.window ++ [g.leavePolicy.code]

/-- The fields of the play group. -/
def PlayGroup.bytes (g : PlayGroup) : List Byte := [g.payMode.code, byteOf g.price, byteOf g.startWidth]

/-- The fields of the lines group, line 0 first. -/
def linesBytes (v : Vector Polarity 32) : List Byte := v.toList.map Polarity.code

/-- A chute's fields in the chutes group. -/
def ChuteConfig.bytes (c : ChuteConfig) : List Byte :=
  [boolByte c.enabled, byteOf c.weight, byteOf c.minWidth] ++ twoBytes c.maxWidth

/-- The fields of the chutes group, chute A first. -/
def chutesBytes (v : Vector ChuteConfig 4) : List Byte := v.toList.flatMap ChuteConfig.bytes

/-- The fields of the panel group. -/
def PanelGroup.bytes (g : PanelGroup) : List Byte :=
  [optByte switchByte g.p1, optByte switchByte g.p2, switchByte g.menu] ++ twoBytes g.quiet

/-- The fields of the system group. -/
def SystemGroup.bytes (g : SystemGroup) : List Byte :=
  [g.arbiter.code, byteOf g.budget] ++ twoBytes g.settle ++ [byteOf g.ramp, g.menuClass.code, byteOf g.holdDuty]

end Sys2Proof.Machine
end

