-- ==== Sys2Proof/Machine/Ops.lean ====
section
/-! DEFINITION. The named operations every block uses: one setter per field of State, one read and one write per
record of a bay, a chute or a link, notices, reports and free orders. -/

namespace Sys2Proof.Machine

/-- What a command comes to. -/
abbrev Result := Host.Outcome State Fault Refusal

/-! ## One setter per field -/

/-- The field `pins` replaced. -/
def State.setPins (s : State) (x : Pins) : State := { s with pins := x }

/-- The field `intake` replaced. -/
def State.setIntake (s : State) (x : Intake) : State := { s with intake := x }

/-- The field `store` replaced. -/
def State.setStore (s : State) (x : TokenStore) : State := { s with store := x }

/-- The field `feeders` replaced. -/
def State.setFeeders (s : State) (x : Vector Feeder 8) : State := { s with feeders := x }

/-- The field `pulses` replaced. -/
def State.setPulses (s : State) (x : PulseBank) : State := { s with pulses := x }

/-- The field `filters` replaced. -/
def State.setFilters (s : State) (x : Vector BayFilters 8) : State := { s with filters := x }

/-- The field `gate` replaced. -/
def State.setGate (s : State) (x : Gate) : State := { s with gate := x }

/-- The field `tables` replaced. -/
def State.setTables (s : State) (x : Tables) : State := { s with tables := x }

/-- The field `flags` replaced. -/
def State.setFlags (s : State) (x : RetainedFlags) : State := { s with flags := x }

/-- The field `panel` replaced. -/
def State.setPanel (s : State) (x : Panel) : State := { s with panel := x }

/-- The field `routing` replaced. -/
def State.setRouting (s : State) (x : Routing) : State := { s with routing := x }

/-- The field `power` replaced. -/
def State.setPower (s : State) (x : Power) : State := { s with power := x }

/-- The field `checkers` replaced. -/
def State.setCheckers (s : State) (x : Vector Checker 8) : State := { s with checkers := x }

/-- The field `monitor` replaced. -/
def State.setMonitor (s : State) (x : Crosspoint) : State := { s with monitor := x }

/-- The field `stage` replaced. -/
def State.setStage (s : State) (x : Stage) : State := { s with stage := x }

/-- The field `audit` replaced. -/
def State.setAudit (s : State) (x : Audit) : State := { s with audit := x }

/-- The field `snapshot` replaced. -/
def State.setSnapshot (s : State) (x : Option Snapshot) : State := { s with snapshot := x }

/-- The field `links` replaced. -/
def State.setLinks (s : State) (x : Links) : State := { s with links := x }

/-- The field `key` replaced. -/
def State.setKey (s : State) (x : ServiceKey) : State := { s with key := x }

/-- The field `reports` replaced. -/
def State.setReports (s : State) (x : List Report) : State := { s with reports := x }

/-- The field `late` replaced. -/
def State.setLate (s : State) (x : Option Report) : State := { s with late := x }

/-- The field `choices` replaced. -/
def State.setChoices (s : State) (x : Nat) : State := { s with choices := x }

/-- The field `pending` replaced. -/
def State.setPending (s : State) (x : List Instr) : State := { s with pending := x }

/-! ## Records of a bay, a chute, a pulse unit, a link -/

/-- A bay's feeder. -/
def State.feeder (s : State) (b : Bay) : Feeder := s.feeders[b]
/-- A bay's feeder replaced. -/
def State.setFeeder (s : State) (b : Bay) (f : Feeder) : State := s.setFeeders (s.feeders.set b f)

/-- What the Bay Power Controller holds for a bay. -/
def State.bay (s : State) (b : Bay) : BayPower := s.power.bays[b]
/-- A bay's power record replaced. -/
def State.setBay (s : State) (b : Bay) (p : BayPower) : State :=
  s.setPower { s.power with bays := s.power.bays.set b p }
/-- The warm list replaced. -/
def State.setWarm (s : State) (w : List Bay) : State := s.setPower { s.power with warm := w }
/-- The protected set replaced. -/
def State.setProtected (s : State) (w : List Bay) : State := s.setPower { s.power with protectedSet := w }

/-- A bay's sync checker. -/
def State.checker (s : State) (b : Bay) : Checker := s.checkers[b]
/-- A bay's sync checker replaced. -/
def State.setChecker (s : State) (b : Bay) (c : Checker) : State := s.setCheckers (s.checkers.set b c)

/-- A bay's profile. -/
def State.profile (s : State) (b : Bay) : Profile := s.tables.profiles[b]
/-- A bay's route map. -/
def State.routeMap (s : State) (b : Bay) : List Route := s.tables.routes[b]

/-- A chute's record. -/
def State.chute (s : State) (c : Chute) : ChuteRecord := s.intake.chutes[c]
/-- A chute's record replaced. -/
def State.setChute (s : State) (c : Chute) (r : ChuteRecord) : State :=
  s.setIntake { s.intake with chutes := s.intake.chutes.set c r }
/-- A chute's configuration. -/
def State.chuteConfig (s : State) (c : Chute) : ChuteConfig := s.tables.cabinet.chutes[c]

/-- A pulse unit, none when IDLE. -/
def State.pulse (s : State) : PulseId → Option Pulse
  | .a => s.pulses.a
  | .b => s.pulses.b
/-- A pulse unit replaced. -/
def State.setPulse (s : State) (u : PulseId) (p : Option Pulse) : State :=
  match u with
  | .a => s.setPulses { s.pulses with a := p }
  | .b => s.setPulses { s.pulses with b := p }

/-- The filter of a bay's meter line. -/
def State.filter (s : State) (b : Bay) : CoinLine → EchoFilter
  | .one => s.filters[b].one
  | .two => s.filters[b].two
/-- The filter of a bay's meter line replaced. -/
def State.setFilter (s : State) (b : Bay) (m : CoinLine) (f : EchoFilter) : State :=
  match m with
  | .one => s.setFilters (s.filters.set b { s.filters[b] with one := f })
  | .two => s.setFilters (s.filters.set b { s.filters[b] with two := f })

/-- One of the two links. -/
def State.link (s : State) : Link → LinkState
  | .selector => s.links.selector
  | .service => s.links.service
/-- One of the two links replaced. -/
def State.setLink (s : State) (l : Link) (k : LinkState) : State :=
  match l with
  | .selector => s.setLinks { s.links with selector := k }
  | .service => s.setLinks { s.links with service := k }

/-- All bays in ascending order. -/
def allBays : List Bay := [0, 1, 2, 3, 4, 5, 6, 7]
/-- All chutes, A first. -/
def allChutes : List Chute := [0, 1, 2, 3]
/-- All panel switches in ascending order. -/
def allSwitches : List Switch := List.finRange 64

/-! ## Timers -/

/-- A timer that starts at 0 (00 Conventions). -/
def Timer.start (limit : Nat) : Timer where
  count := 0
  limit := limit

/-- A timer one tick on. -/
def Timer.advance (t : Timer) : Timer := { t with count := t.count + 1 }

/-- Whether a timer has reached its length. -/
def Timer.due (t : Timer) : Bool := decide (t.limit ≤ t.count)

/-! ## Notices and transmitters (R190) -/

/-- A transmitter that falls idle takes a waiting reply, else a BUSY_LINK refusal, else the oldest notice; no notice
begins while a request is pending or the busy-refusal mark is set (R186, R188, R190). -/
def LinkState.txNext (k : LinkState) : LinkState :=
  match k.tx with
  | some _ => k
  | none =>
    match k.pending with
    | some p =>
      match p.waiting with
      | some r => { k with tx := some (.reply r), pending := some { p with waiting := none } }
      | none => k
    | none =>
      match k.mark with
      | some typ => { k with tx := some (.busyLink typ) }
      | none =>
        match k.queue with
        | [] => k
        | n :: rest => { k with tx := some (.notice n), queue := rest }

/-- A notice placed at the tail of a link's queue, or dropped with the overrun flag set when the queue holds 16
(R190). -/
def LinkState.place (k : LinkState) (n : Notice) : LinkState :=
  if k.queue.length < Config.noticeCapacity then { k with queue := k.queue ++ [n] } else { k with overrun := true }

/-- A notice sent on one link. -/
def State.notifyOn (s : State) (l : Link) (n : Notice) : State := s.setLink l ((s.link l).place n).txNext

/-- A notice sent on both links, each on its own account (R190). -/
def State.notify (s : State) (n : Notice) : State := (s.notifyOn .selector n).notifyOn .service n

/-! ## Reports and free orders -/

/-- A report handed on within the event being taken. -/
def State.report (s : State) (r : Report) : State := s.setReports (s.reports ++ [r])

/-- The next choice counter; a free order has been drawn (log entry 8). -/
def State.drawn (s : State) : State := s.setChoices (s.choices + 1)

/-- Two parts of one event that the manual does not order, taken in a free order (log entry 8). -/
def inFreeOrder (first second : State → State) (s : State) : State :=
  if Config.firstActsFirst s.choices then second (first s.drawn) else first (second s.drawn)

/-! ## Stage -/

/-- The active bay, in PLAY (R154). -/
def State.activeBay (s : State) : Option Bay :=
  match s.stage with
  | .play b => some b
  | .menu | .handover _ => none

/-- The handover record, in HANDOVER (R154). -/
def State.handover (s : State) : Option HandoverRecord :=
  match s.stage with
  | .handover r => some r
  | .menu | .play _ => none

/-- Whether a bay is the active bay. -/
def State.isActive (s : State) (b : Bay) : Bool := decide (s.stage = .play b)

/-- Whether a bay is the origin of the handover in progress, and has not been released (R155). -/
def State.isOrigin (s : State) (b : Bay) : Bool :=
  match s.handover with
  | some r => decide (r.origin = .bay b) && !r.released
  | none => false

/-- Whether a bay is the current target of the handover in progress. -/
def State.isTarget (s : State) (b : Bay) : Bool :=
  match s.handover with
  | some r => decide (r.target = .bay b)
  | none => false

/-! ## Power states and feeders, as other blocks read them -/

/-- STARTING, BOOTING and RUNNING, the powered states (R116). -/
def PowerState.powered : PowerState → Bool
  | .starting | .booting | .running => true
  | .disabled | .off | .cooling | .tripped | .faulted => false

/-- Whether a bay is RUNNING. -/
def State.isRunning (s : State) (b : Bay) : Bool := decide ((s.bay b).state = .running)

/-- A feeder's state, from its queue, slot and held-pulse-unit marker (R28). -/
def Feeder.state (f : Feeder) : FeederState :=
  match f.slot with
  | none => if f.queue.isEmpty then .idle else .waiting
  | some u =>
    if f.held.isSome then .pulsing
    else if u.status = .doubt then .held else .awaitEcho

/-- Whether a feeder's pulse request stands: exactly in WAITING (R30). -/
def Feeder.requests (f : Feeder) : Bool := decide (f.state = .waiting)

/-- A feeder's free queue places (R34). -/
def Feeder.free (f : Feeder) : Nat := Config.feederCapacity - f.queue.length

/-- Whether a feeder holds a doubt unit (R48). -/
def Feeder.hasDoubt (f : Feeder) : Bool :=
  match f.slot with
  | some u => decide (u.status = .doubt)
  | none => false

/-! ## Token Store quantities (R8) -/

/-- The live count. -/
def TokenStore.live (t : TokenStore) : Nat := t.arrival.length
/-- The tokens in the pool, head first. -/
def TokenStore.poolTokens (t : TokenStore) : List Token := t.arrival.filter fun k => decide (k.place = .pool)
/-- The pool count. -/
def TokenStore.poolCount (t : TokenStore) : Nat := t.poolTokens.length
/-- The free entries. -/
def TokenStore.free (t : TokenStore) : Nat := Config.storeCapacity - t.live

end Sys2Proof.Machine
end

