-- ==== Sys2Proof/Machine/Flags.lean ====
section
/-! DEFINITION. The audit counters with the counter-full flag, and the links' overrun flags. -/

namespace Sys2Proof.Machine

/-! ## Counter indices (10, the counter table) -/

/-- COINS of a chute. -/
def coinsIx (c : Chute) : CounterIx := ⟨c.val, by omega⟩
/-- CONFIRMED of a bay, 4 + 5 × b. -/
def confirmedIx (b : Bay) : CounterIx := ⟨4 + 5 * b.val, by omega⟩
/-- VOIDED of a bay, 5 + 5 × b. -/
def voidedIx (b : Bay) : CounterIx := ⟨5 + 5 * b.val, by omega⟩
/-- REFUNDED of a bay, 6 + 5 × b. -/
def refundedIx (b : Bay) : CounterIx := ⟨6 + 5 * b.val, by omega⟩
/-- STRAY of a bay, 7 + 5 × b. -/
def strayIx (b : Bay) : CounterIx := ⟨7 + 5 * b.val, by omega⟩
/-- PLAYS of a bay, 8 + 5 × b. -/
def playsIx (b : Bay) : CounterIx := ⟨8 + 5 * b.val, by omega⟩
/-- TOKENS_IN. -/
def tokensInIx : CounterIx := 44
/-- TOKENS_SPENT. -/
def tokensSpentIx : CounterIx := 45
/-- TOKENS_VOIDED. -/
def tokensVoidedIx : CounterIx := 46
/-- TOKENS_WITHDRAWN. -/
def tokensWithdrawnIx : CounterIx := 47
/-- TOKENS_GRANTED. -/
def tokensGrantedIx : CounterIx := 48
/-- OVERFLOW_COINS. -/
def overflowIx : CounterIx := 49

/-- A counter advanced: it stops at 16,777,215, and an advance past that sets the counter-full flag (R174). That a counter
which an exact arrival brought to its maximum sets the flag at its first later advance is the model's choice (log entry
42). -/
def Audit.advance (a : Audit) (i : CounterIx) (k : Nat) : Audit where
  counters := a.counters.set i (min Config.counterMax (a.counters[i] + k))
  full := a.full || decide (Config.counterMax < a.counters[i] + k)

/-- A counter advanced, in the same step as the change that causes it (R174). -/
def State.bump (s : State) (i : CounterIx) (k : Nat) : State := s.setAudit (s.audit.advance i k)

/-- A counter's value. -/
def State.counter (s : State) (i : CounterIx) : Nat := s.audit.counters[i]

/-- A link's overrun flag cleared, as the STATUS reply that carries it is formed (R190). -/
def State.clearOverrun (s : State) (l : Link) : State := s.setLink l { s.link l with overrun := false }

end Sys2Proof.Machine
end

