-- ==== Sys2Proof/Machine/Operands.lean ====
section
/-! DEFINITION. What a request's argument bytes name (R184, R189), and the range and cross-field tests of the
settings groups (R81, R87, R90 to R92). -/

namespace Sys2Proof.Machine

/-! ## Single arguments -/

/-- A bay, 0 to 7. -/
def bayArg (x : Byte) : Option Bay := if h : x.toNat < 8 then some ⟨x.toNat, h⟩ else none

/-- A bay, or MENU as 08h. -/
def targetArg (x : Byte) : Option Target :=
  if x = 0x08 then some .menu else (bayArg x).map .bay

/-- A number from `lo` to `hi`. -/
def numberArg (lo hi : Nat) (x : Byte) : Option Nat :=
  if lo ≤ x.toNat ∧ x.toNat ≤ hi then some x.toNat else none

/-- A field that is 01h or 00h: yes and no, on and off, open and closed. -/
def boolArg (x : Byte) : Option Bool :=
  match x.toNat with
  | 0 => some false
  | 1 => some true
  | _ => none

/-- OPEN, LOCKED or FIXED. -/
def lockArg (x : Byte) : Option Lock :=
  match x.toNat with
  | 0 => some .opened
  | 1 => some .locked
  | 2 => some .fixed
  | _ => none

/-- A switch, 0 to 63. -/
def switchArg (x : Byte) : Option Switch := if h : x.toNat < 64 then some ⟨x.toNat, h⟩ else none

/-- A switch, or none as FFh; the outer option is none when the byte names neither. -/
def optSwitchArg (x : Byte) : Option (Option Switch) :=
  if x = 0xFF then some none else (switchArg x).map some

/-- A line class. -/
def classArg (x : Byte) : Option LineClass :=
  match x.toNat with
  | 0 => some .low
  | 1 => some .medium
  | 2 => some .high
  | _ => none

/-- A polarity. -/
def polarityArg (x : Byte) : Option Polarity :=
  match x.toNat with
  | 0 => some .activeLow
  | 1 => some .activeHigh
  | _ => none

/-- A coin line, 1 or 2. -/
def coinLineArg (x : Byte) : Option CoinLine :=
  match x.toNat with
  | 1 => some .one
  | 2 => some .two
  | _ => none

/-- An echo mode. -/
def echoModeArg (x : Byte) : Option EchoMode :=
  match x.toNat with
  | 0 => some .none
  | 1 => some .meter
  | _ => none

/-- A leave policy. -/
def leavePolicyArg (x : Byte) : Option LeavePolicy :=
  match x.toNat with
  | 0 => some .giveBack
  | 1 => some .keep
  | _ => none

/-- A pay mode. -/
def payModeArg (x : Byte) : Option PayMode :=
  match x.toNat with
  | 0 => some .freePlay
  | 1 => some .onStart
  | 2 => some .prepaid
  | _ => none

/-- An arbiter mode. -/
def arbiterArg (x : Byte) : Option ArbiterMode :=
  match x.toNat with
  | 0 => some .fixed
  | 1 => some .rotating
  | _ => none

/-- A group of a bay profile. -/
def profileGroupArg (x : Byte) : Option ProfileGroup :=
  match x.toNat with
  | 0 => some .general
  | 1 => some .coin
  | 2 => some .play
  | 3 => some .lines
  | _ => none

/-- A group of the cabinet record. -/
def cabinetGroupArg (x : Byte) : Option CabinetGroup :=
  match x.toNat with
  | 0 => some .chutes
  | 1 => some .panel
  | 2 => some .system
  | _ => none

/-- A number in two bytes, most significant first (R184). -/
def wordArg (hi lo : Byte) : Nat := hi.toNat * 256 + lo.toNat

/-! ## Groups: the fields a run of bytes names -/

/-- The general group. -/
def generalArg : List Byte → Option GeneralGroup
  | [t0, t1, t2, t3, t4, t5, t6, t7, load, boot, r1, r0, warm, k, n] => do
    let warm ← boolArg warm
    let k ← classArg k
    some { tag := [t0, t1, t2, t3, t4, t5, t6, t7], load := load.toNat, bootLimit := boot.toNat,
           resetHold := wordArg r1 r0, keepWarm := warm, lineClass := k, attempts := n.toNat }
  | _ => none

/-- The coin group. -/
def coinArg : List Byte → Option CoinGroup
  | [rate, line, lead, active, t1, t0, pol, mode, w1, w0, leave] => do
    let line ← coinLineArg line
    let pol ← polarityArg pol
    let mode ← echoModeArg mode
    let leave ← leavePolicyArg leave
    some { rate := rate.toNat, line := line, lead := lead.toNat, active := active.toNat, trail := wordArg t1 t0,
           polarity := pol, echoMode := mode, window := wordArg w1 w0, leavePolicy := leave }
  | _ => none

/-- The play group. -/
def playArg : List Byte → Option PlayGroup
  | [mode, price, width] => do
    let mode ← payModeArg mode
    some { payMode := mode, price := price.toNat, startWidth := width.toNat }
  | _ => none

/-- A list of polarities, none when a byte names neither. -/
def polaritiesArg : List Byte → Option (List Polarity)
  | [] => some []
  | x :: rest => do
    let p ← polarityArg x
    let ps ← polaritiesArg rest
    some (p :: ps)

/-- The lines group, line 0 first; a byte that names no polarity is out of range, which is the model's choice (log entry
34). -/
def linesArg (fields : List Byte) : Option (Vector Polarity 32) := do
  let ps ← polaritiesArg fields
  if h : ps.toArray.size = 32 then some ⟨ps.toArray, h⟩ else none

/-- The configuration of one chute. -/
def chuteArg (e w m x1 x0 : Byte) : Option ChuteConfig := do
  let e ← boolArg e
  some { enabled := e, weight := w.toNat, minWidth := m.toNat, maxWidth := wordArg x1 x0 }

/-- The chutes group, chute A first. -/
def chutesArg : List Byte → Option (Vector ChuteConfig 4)
  | [a0, a1, a2, a3, a4, b0, b1, b2, b3, b4, c0, c1, c2, c3, c4, d0, d1, d2, d3, d4] => do
    let a ← chuteArg a0 a1 a2 a3 a4
    let b ← chuteArg b0 b1 b2 b3 b4
    let c ← chuteArg c0 c1 c2 c3 c4
    let d ← chuteArg d0 d1 d2 d3 d4
    some #v[a, b, c, d]
  | _ => none

/-- The panel group. -/
def panelArg : List Byte → Option PanelGroup
  | [p1, p2, menu, q1, q0] => do
    let p1 ← optSwitchArg p1
    let p2 ← optSwitchArg p2
    let menu ← switchArg menu
    some { p1 := p1, p2 := p2, menu := menu, quiet := wordArg q1 q0 }
  | _ => none

/-- The system group. -/
def systemArg : List Byte → Option SystemGroup
  | [arb, budget, s1, s0, ramp, k, duty] => do
    let arb ← arbiterArg arb
    let k ← classArg k
    some { arbiter := arb, budget := budget.toNat, settle := wordArg s1 s0, ramp := ramp.toNat, menuClass := k,
           holdDuty := duty.toNat }
  | _ => none

/-- A route entry: bit 6 of its first byte is clear and bit 7 is set for PULSE (R184). -/
def routeArg (x line width : Byte) : Option Route :=
  if x.getLsbD 6 then none
  else if h : line.toNat < 32 then
    if 10 ≤ width.toNat then
      some { switch := ⟨x.toNat % 64, Nat.mod_lt _ (by decide)⟩, line := ⟨line.toNat, h⟩,
             mode := if x.getLsbD 7 then .pulse else .direct, width := width.toNat }
    else none
  else none

/-- A run of route entries, three bytes each. -/
def routesArg : List Byte → Option (List Route)
  | [] => some []
  | x :: line :: width :: rest => do
    let r ← routeArg x line width
    let rs ← routesArg rest
    some (r :: rs)
  | _ => none

/-! ## Ranges -/

/-- A number within a range, both ends included (00 Conventions). -/
def within (lo hi n : Nat) : Bool := decide (lo ≤ n) && decide (n ≤ hi)

/-- The ranges of the general group; the name tag is eight printable characters (R81). -/
def GeneralGroup.valid (g : GeneralGroup) : Bool :=
  decide (g.tag.length = 8) && g.tag.all (fun x => within 0x20 0x7E x.toNat) && within 1 24 g.load
    && within 1 60 g.bootLimit && within 10 1000 g.resetHold && within 0 3 g.attempts

/-- The ranges of the coin group, and the echo window at least the active length (R81). -/
def CoinGroup.valid (g : CoinGroup) : Bool :=
  within 1 8 g.rate && within 0 255 g.lead && within 10 255 g.active && within 10 1000 g.trail
    && within 50 5000 g.window && decide (g.active ≤ g.window)

/-- The ranges of the play group (R81). -/
def PlayGroup.valid (g : PlayGroup) : Bool := within 1 4 g.price && within 20 255 g.startWidth

/-- The ranges of a chute's configuration, its max width greater than its min width (R92). -/
def ChuteConfig.valid (c : ChuteConfig) : Bool :=
  within 1 8 c.weight && within 10 250 c.minWidth && within 20 500 c.maxWidth && decide (c.minWidth < c.maxWidth)

/-- The chutes group (R92). -/
def chutesValid (v : Vector ChuteConfig 4) : Bool := allChutes.all fun c => v[c].valid

/-- The panel group: the menu switch differs from P1 and P2 (R90). -/
def PanelGroup.valid (g : PanelGroup) : Bool :=
  decide (g.p1 ≠ some g.menu) && decide (g.p2 ≠ some g.menu) && within 0 2000 g.quiet

/-- The ranges of the system group (R91). -/
def SystemGroup.valid (g : SystemGroup) : Bool :=
  within 8 96 g.budget && within 0 3000 g.settle && within 0 250 g.ramp && within 1 16 g.holdDuty

/-- A bay profile within its ranges (R97). -/
def Profile.valid (p : Profile) : Bool := p.general.valid && p.coin.valid && p.play.valid

/-- Two routes of one map with the same switch and the same line (R86). -/
def Route.clashes (r q : Route) : Bool := decide (r.switch = q.switch) && decide (r.line = q.line)

/-- A route list in which no two routes have both the same switch and the same line (R86). -/
def routesDistinct : List Route → Bool
  | [] => true
  | r :: rest => !rest.any r.clashes && routesDistinct rest

/-- A route map of at most 40 routes, no two alike, every width in range (R86). -/
def routeMapValid (m : List Route) : Bool :=
  decide (m.length ≤ Config.routeCapacity) && routesDistinct m && m.all fun r => within 10 255 r.width

/-- Every profile, route map and cabinet group within its range and its cross-field conditions (R97). -/
def Tables.valid (t : Tables) : Bool :=
  allBays.all (fun b => t.profiles[b].valid && routeMapValid t.routes[b])
    && chutesValid t.cabinet.chutes && t.cabinet.panel.valid && t.cabinet.system.valid

end Sys2Proof.Machine
end

