-- ==== Sys2Proof/Machine/Store.lean ====
section
/-! DEFINITION. The Token Store's changes and the closure of intake with the acceptance coils (01). -/

namespace Sys2Proof.Machine

/-! ## Closure and coils (R15, R17, R18) -/

/-- The largest weight among the enabled chutes, 0 when none is enabled. -/
def State.largestWeight (s : State) : Nat :=
  allChutes.foldl (fun m c => if (s.chuteConfig c).enabled then max m (s.chuteConfig c).weight else m) 0

/-- The reserve: twice the largest enabled weight (R15). -/
def State.reserve (s : State) : Nat := 2 * s.largestWeight

/-- The reason FLAG for closure (R15). -/
def State.closedByFlag (s : State) : Bool := !s.flags.intakeOpen

/-- The reason RESERVE for closure (R15). -/
def State.closedByReserve (s : State) : Bool := decide (s.store.free < s.reserve)

/-- The intake as notices and STATUS report it (R17, R191). -/
def State.intakeView (s : State) : IntakeView where
  isOpen := !s.intake.closed
  byFlag := s.closedByFlag
  byReserve := s.closedByReserve
  faultLatch := s.intake.faultLatch
  chutes := s.intake.chutes.map ChuteRecord.state

/-- An INTAKE notice with its event and the chute concerned (R17). -/
def State.notifyIntake (s : State) (e : IntakeEvent) (c : Option Chute) : State :=
  s.notify (.intake e c s.intakeView)

/-- The condition under which a chute's coil is to be energized (R18). -/
def State.coilWanted (s : State) (c : Chute) : Bool :=
  (s.chuteConfig c).enabled && decide ((s.chute c).state ≠ .jammed) && !s.intake.closed && !s.intake.faultLatch

/-- A coil that follows its condition: OFF to PULL_IN, PULL_IN or HOLD to OFF; TRIPPED stays (R18, R20). -/
def Coil.follow (k : Coil) (wanted : Bool) : Coil :=
  match k with
  | .off => if wanted then .pullIn 0 else .off
  | .pullIn n => if wanted then .pullIn n else .off
  | .hold => if wanted then .hold else .off
  | .tripped => .tripped

/-- Every coil follows its condition as it stands (R18). -/
def State.followCoils (s : State) : State :=
  s.setIntake { s.intake with coils := Vector.ofFn fun c => s.intake.coils[c].follow (s.coilWanted c) }

/-- Closure as its two reasons give it (R15). -/
def State.closureHolds (s : State) : Bool := s.closedByFlag || s.closedByReserve

/-- Intake set open or closed as its reasons give, with the coils following, and no notice (R24). -/
def State.settleClosure (s : State) : State :=
  (s.setIntake { s.intake with closed := s.closureHolds }).followCoils

/-- An INTAKE notice, CLOSED or OPENED, when intake is not as it was (R15). -/
def State.tellClosure (s : State) (was : Bool) : State :=
  if s.intake.closed = was then s else s.notifyIntake (if s.intake.closed then .closed else .opened) none

/-- Closure re-evaluated, a change reported (R15). -/
def State.evalClosure (s : State) : State := s.settleClosure.tellClosure s.intake.closed

/-! ## Store changes (R9 to R14) -/

/-- The first value from `a` on, wrapping, that no live token holds (R9). -/
def nextFreeSeq (used : List Seq) : Nat → Seq → Seq
  | 0, a => a
  | fuel + 1, a => if used.contains a then nextFreeSeq used fuel (a + 1) else a

/-- One token created at the pool tail, numbered by the allocator (R9). -/
def TokenStore.createOne (t : TokenStore) (o : Origin) (c : Option Chute) : TokenStore :=
  let n := nextFreeSeq (t.arrival.map Token.seq) Config.storeCapacity t.allocator
  { arrival := t.arrival ++ [{ seq := n, chute := c, origin := o, place := .pool }], allocator := n + 1 }

/-- Several tokens created one after another (R9). -/
def TokenStore.create (t : TokenStore) (o : Origin) (c : Option Chute) : Nat → TokenStore
  | 0 => t
  | n + 1 => (t.createOne o c).create o c n

/-- The first `n` pool tokens of an arrival list given a new place, the list order kept (R10). -/
def placeFirst (p : Place) : Nat → List Token → List Token
  | 0, l => l
  | _, [] => []
  | n + 1, k :: rest =>
    if k.place = .pool then { k with place := p } :: placeFirst p n rest else k :: placeFirst p (n + 1) rest

/-- The first `n` pool tokens of an arrival list removed (R23). -/
def dropFirst : Nat → List Token → List Token
  | 0, l => l
  | _, [] => []
  | n + 1, k :: rest => if k.place = .pool then dropFirst n rest else k :: dropFirst (n + 1) rest

/-- The tokens of one unit of a bay removed (R12). -/
def TokenStore.retire (t : TokenStore) (b : Bay) (n : UnitNo) : TokenStore :=
  { t with arrival := t.arrival.filter fun k => decide (k.place ≠ .feeder b n) }

/-- Whether a token's place is one of the named units of a bay. -/
def Token.inUnits (k : Token) (b : Bay) (ns : List UnitNo) : Bool :=
  match k.place with
  | .pool => false
  | .feeder b' n => decide (b' = b) && ns.contains n

/-- The tokens of the named units of a bay back in the pool, at their positions (R11). -/
def TokenStore.giveBack (t : TokenStore) (b : Bay) (ns : List UnitNo) : TokenStore :=
  { t with arrival := t.arrival.map fun k => if k.inUnits b ns then { k with place := .pool } else k }

/-- How many live tokens the named units of a bay hold. -/
def TokenStore.countUnits (t : TokenStore) (b : Bay) (ns : List UnitNo) : Nat :=
  (t.arrival.filter fun k => k.inUnits b ns).length

/-- Every token in the pool (R24). -/
def TokenStore.allToPool (t : TokenStore) : TokenStore :=
  { t with arrival := t.arrival.map fun k => { k with place := .pool } }

/-- What follows each store change: its POOL notice, then closure re-evaluated (R13, R14). An INTAKE notice this sends
stands right behind the POOL notice, before the FEEDER or GATE notice of the same event, which is the model's choice
(log entry 31). -/
def State.storeChanged (s : State) (c : PoolCause) (moved : Nat) (bay : Option Bay) : State :=
  (s.notify (.pool c moved bay s.store.poolCount s.store.free)).evalClosure

/-- `n` tokens created, with TOKENS_IN (R7, R22). -/
def State.mint (s : State) (o : Origin) (c : Option Chute) (n : Nat) : State :=
  (s.setStore (s.store.create o c n)).bump tokensInIx n

/-- The first `n` pool tokens retired, with TOKENS_WITHDRAWN (R23). -/
def State.withdrawTokens (s : State) (n : Nat) : State :=
  (s.setStore { s.store with arrival := dropFirst n s.store.arrival }).bump tokensWithdrawnIx n

/-- Which token counter a retirement advances (R12). -/
def retireIx : PoolCause → CounterIx
  | .voided => tokensVoidedIx
  | .coin | .grant | .withdraw | .draw | .giveBack | .spent => tokensSpentIx

/-- The tokens of one unit retired, with the token counter of the kind (R12). -/
def State.retireTokens (s : State) (kind : PoolCause) (b : Bay) (n : UnitNo) : State :=
  (s.setStore (s.store.retire b n)).bump (retireIx kind) (s.store.live - (s.store.retire b n).live)

/-- The tokens of the named units of a bay returned: nothing when they hold none (R11). -/
def State.returnUnits (s : State) (b : Bay) (ns : List UnitNo) : State :=
  if s.store.countUnits b ns = 0 then s
  else (s.setStore (s.store.giveBack b ns)).storeChanged .giveBack (s.store.countUnits b ns) (some b)

/-! ## Coins (R7) -/

/-- A valid coin of a chute judged with the captured weight (R7). -/
def State.validCoin (s : State) (c : Chute) (w : Nat) : State :=
  if w ≤ s.store.free then ((s.bump (coinsIx c) 1).mint .coin (some c) w).storeChanged .coin w none
  else ((s.bump (coinsIx c) 1).bump overflowIx 1).notifyIntake .overflow (some c)

/-! ## Chutes (R1 to R6) -/

/-- The state a chute takes from its configuration and the level of its input (R1). -/
def chuteStart (enabled active : Bool) : ChuteState :=
  if enabled then (if active then .jammed else .idle) else .disabled

/-- The coil fault trip: the latch set, every coil TRIPPED, INTAKE (COIL_FAULT) sent, when the input is active with
the latch clear (R20). -/
def State.coilFaultTrip (s : State) : State :=
  if s.pins.coilFault && !s.intake.faultLatch then
    (s.setIntake { s.intake with faultLatch := true, coils := Vector.replicate 4 .tripped }).notifyIntake
      .coilFault none
  else s

/-- A chute jams: its jam release count starts at 0, its coil drops, INTAKE (JAMMED) is sent (R4). -/
def State.jam (s : State) (c : Chute) : State :=
  ((s.setChute c { s.chute c with state := .jammed, jamCount := 0 }).followCoils).notifyIntake .jammed (some c)

/-- One chute's part of a chutes-group write: `was` is its enabled field before the write (R1, R6). -/
def State.applyChute (s : State) (was : Bool) (c : Chute) : State :=
  if (s.chuteConfig c).enabled = was then s
  else s.setChute c (ChuteRecord.fresh (chuteStart (s.chuteConfig c).enabled s.pins.coin[c]))

/-- Whether a chutes-group write jams a chute, by enabling it with its input active (R1, R17). -/
def State.jamsAtWrite (s : State) (was : Bool) (c : Chute) : Bool :=
  !was && (s.chuteConfig c).enabled && s.pins.coin[c]

end Sys2Proof.Machine
end

