-- ==== Sys2Proof/Machine/Feeding.lean ====
section
/-! DEFINITION. Coin units, feeders, the two pulse units and the arbiter (02): forming units by a draw, granting a
pulse unit, the ACTIVE edge, and what a feeder hands back from its queue. -/

namespace Sys2Proof.Machine

/-- A feeder replaced; when it becomes IDLE by that, the Bay Power Controller is told (R28). -/
def State.putFeeder (s : State) (b : Bay) (f : Feeder) : State :=
  if f.state = .idle ∧ (s.feeder b).state ≠ .idle then (s.setFeeder b f).report (.feederIdle b)
  else s.setFeeder b f

/-! ## Draws and unit formation (R10, R26, R29) -/

/-- The unit numbers a feeder holds. -/
def Feeder.numbers (f : Feeder) : List UnitNo :=
  f.queue.map CoinUnit.number ++ f.slot.toList.map CoinUnit.number

/-- The next-unit counter past every number held; a feeder holds at most nine (R26). -/
def nextFreeUnit (held : List UnitNo) : Nat → UnitNo → UnitNo
  | 0, n => n
  | fuel + 1, n => if held.contains n then nextFreeUnit held fuel (n + 1) else n

/-- The number the next unit of a feeder takes (R26). -/
def Feeder.freshNumber (f : Feeder) : UnitNo := nextFreeUnit f.numbers (f.numbers.length + 1) f.nextUnit

/-- The unit formed from the oldest pool tokens of a store, by its bay's coin group (R10, R26). -/
def formedUnit (t : TokenStore) (f : Feeder) (g : CoinGroup) (cause : UnitCause) : CoinUnit where
  number := f.freshNumber
  tokens := (t.poolTokens.take g.rate).map Token.seq
  line := g.line
  cause := cause
  status := .queued

/-- One unit formed for a bay and appended to its feeder's queue (R26, R29). -/
def State.formUnit (s : State) (b : Bay) (cause : UnitCause) : State :=
  let f := s.feeder b
  let g := (s.profile b).coin
  let u := formedUnit s.store f g cause
  (s.setStore { s.store with arrival := placeFirst (.feeder b u.number) g.rate s.store.arrival }).setFeeder b
    { f with queue := f.queue ++ [u], nextUnit := u.number + 1 }

/-- Several units formed in draw order (R26). -/
def State.formUnits (s : State) (b : Bay) (cause : UnitCause) : Nat → State
  | 0 => s
  | k + 1 => (s.formUnit b cause).formUnits b cause k

/-- The tokens a draw of `k` units asks for (R10). -/
def State.drawSize (s : State) (b : Bay) (k : Nat) : Nat := k * (s.profile b).coin.rate

/-- A draw of `k` units taken whole, with its POOL notice (R10, R14). -/
def State.drawUnits (s : State) (b : Bay) (cause : UnitCause) (k : Nat) : State :=
  (s.formUnits b cause k).storeChanged .draw (s.drawSize b k) (some b)

/-! ## Pulse units (R31, R36, R38, R40, R41) -/

/-- The ACTIVE edge: the pulse enters ACTIVE, and with echo mode METER the slot unit enters ECHO_WAIT and the echo
window opens (R36, R38). -/
def State.activeEdge (s : State) (u : PulseId) : State :=
  match s.pulse u with
  | none => s
  | some p =>
    let s := s.setPulse u (some { p with phase := .active, count := 0 })
    let f := s.feeder p.bay
    match f.slot with
    | none => s
    | some k =>
      if (s.profile p.bay).coin.echoMode = .meter then
        s.setFeeder p.bay { f with slot := some { k with status := .echoWait },
                                   window := some (Timer.start (s.profile p.bay).coin.window) }
      else s

/-- What a pulse unit captures at its grant (R36). -/
def Pulse.capture (b : Bay) (k : CoinUnit) (g : CoinGroup) : Pulse where
  bay := b
  line := k.line
  polarity := g.polarity
  lead := g.lead
  active := g.active
  trail := g.trail
  phase := .lead
  count := 0

/-- A pulse unit granted to a feeder: the head unit enters the slot as SENDING, the marker and the rotation pointer
are set, and the pulse starts, at its ACTIVE edge when the lead is 0 (R31, R36, R41). -/
def State.grantPulse (s : State) (u : PulseId) (b : Bay) : State :=
  let f := s.feeder b
  match f.queue with
  | [] => s
  | k :: rest =>
    let p := Pulse.capture b k (s.profile b).coin
    let s := s.setFeeder b { f with queue := rest, slot := some { k with status := .sending }, held := some u }
    let s := (s.setPulses { s.pulses with pointer := b }).setPulse u (some p)
    if p.lead = 0 then s.activeEdge u else s

/-- The bays in the order the arbiter searches: ascending in FIXED, from the bay after the pointer in ROTATING (R41). -/
def State.searchOrder (s : State) : List Bay :=
  match s.tables.cabinet.system.arbiter with
  | .fixed => allBays
  | .rotating => allBays.map fun k => s.pulses.pointer + 1 + k

/-- The waiting feeder the arbiter chooses (R41). -/
def State.chosenBay (s : State) : Option Bay := s.searchOrder.find? fun b => (s.feeder b).requests

/-- The pulse unit granted first, A before B (R40). -/
def State.freePulse (s : State) : Option PulseId :=
  if s.pulses.a.isNone then some .a else if s.pulses.b.isNone then some .b else none

/-- One grant, when a pulse unit is IDLE and a request stands (R40). -/
def State.grantOne (s : State) : State :=
  match s.freePulse, s.chosenBay with
  | some u, some b => s.grantPulse u b
  | _, _ => s

/-- The arbiter: there are two pulse units, so at most two grants are made together (R40). -/
def State.arbitrate (s : State) : State := s.grantOne.grantOne

/-- The pulse unit a feeder holds released at once (R39). -/
def State.cutPulse (s : State) (held : Option PulseId) : State :=
  match held with
  | some u => s.setPulse u none
  | none => s

/-- Queued units taken from a feeder's queue and returned to the pool in one return (R11, R43, R74). -/
def State.returnQueued (s : State) (b : Bay) (goes : CoinUnit → Bool) : State :=
  let f := s.feeder b
  (s.putFeeder b { f with queue := f.queue.filter fun k => !goes k }).returnUnits b
    ((f.queue.filter goes).map CoinUnit.number)

end Sys2Proof.Machine
end

