-- ==== Sys2Proof/Machine/Gating.lean ====
section
/-! DEFINITION. The Start Gate (04): charging a start press, the outcomes of its units, firing, abandonment and
carry. -/

namespace Sys2Proof.Machine

/-! ## Abandonment and carry (R74, R75) -/

/-- Whether a charge of the gate's bay that ends now keeps its confirmed units: PLAY, the bay active and RUNNING
(R75). -/
def State.carryKept (s : State) (b : Bay) : Bool := s.isActive b && s.isRunning b

/-- The carry after an abandonment (R75). -/
def State.carryAfter (s : State) (b : Bay) : Nat :=
  if s.carryKept b then s.gate.carry + s.gate.confirmed else 0

/-- A gate in IDLE with a carry: the bay field names the bay of a carry that is not 0 (R67). -/
def Gate.idleWith (b : Bay) (carry : Nat) : Gate :=
  { Gate.fresh with carry := carry, bay := if carry = 0 then none else some b }

/-- A charge abandoned: its units still queued are returned, the carry is set, GATE (ABANDONED) is sent and the gate
enters IDLE (R74). -/
def State.abandon (s : State) (b : Bay) (cause : AbandonCause) : State :=
  let g := s.gate
  let carry := s.carryAfter b
  let s := s.returnQueued b fun k => decide (k.cause = .gate) && g.units.contains k.number
  (s.setGate (Gate.idleWith b carry)).notify (.gateAbandoned b g.switch cause g.owed g.confirmed carry)

/-- The gate's bay loses power or becomes the origin at the start of RELEASE: a charge is abandoned, a start pulse
stopped, a carry cleared (R73, R74, R75). -/
def State.gateLeaves (s : State) (b : Bay) (cause : AbandonCause) : State :=
  if s.gate.bay = some b then
    match s.gate.state with
    | .paying => s.abandon b cause
    | .firing => s.setGate Gate.fresh
    | .idle => s.setGate Gate.fresh
  else s

/-! ## Firing (R72) -/

/-- The gate fires: the start width timer starts, PLAYS advances, the carry becomes 0, GATE (FIRED) is sent (R72). -/
def State.fire (s : State) (b : Bay) : State :=
  let g := s.gate
  let width := (s.profile b).play.startWidth
  let s := (s.setGate { g with state := .firing, carry := 0, timer := some (Timer.start width) }).bump (playsIx b) 1
  s.notify (.gateFired b (g.switch.getD 0) g.owed width)

/-- A complete charge: the gate fires when the stage is PLAY, its bay active and RUNNING, and is abandoned
otherwise (R72). -/
def State.complete (s : State) (b : Bay) : State :=
  if !s.isRunning b then s.abandon b .powerLoss
  else if !s.isActive b then s.abandon b .release
  else s.fire b

/-! ## Unit outcomes (R71) -/

/-- Whether an outcome is the gate's own (R71). -/
def Gate.owns (g : Gate) (b : Bay) (n : UnitNo) : Bool :=
  decide (g.state = .paying) && decide (g.bay = some b) && g.units.contains n

/-- An own CONFIRMED outcome (R71, R72). -/
def State.gateConfirmed (s : State) (b : Bay) (n : UnitNo) : State :=
  let g := s.gate
  let s := s.setGate { g with units := g.units.filter fun k => decide (k ≠ n), confirmed := g.confirmed + 1 }
  if g.confirmed + 1 = g.owed then s.complete b else s

/-- An outcome handed to the gate: ignored unless it is the gate's own (R71). -/
def State.gateOutcome (s : State) (b : Bay) (n : UnitNo) (o : GateOutcome) : State :=
  if s.gate.owns b n then
    match o with
    | .confirmed => s.gateConfirmed b n
    | .doubt => s.abandon b .doubt
    | .returned => s.abandon b .returned
    | .voided => s
    | .refunded => s
  else s

/-- A unit's outcome handed to the gate: only units of cause GATE hand one (R64). -/
def State.handOutcome (s : State) (b : Bay) (k : CoinUnit) (o : GateOutcome) : State :=
  if k.cause = .gate then s.gateOutcome b k.number o else s

/-- The outcome RETURNED handed for each of several units (R64). -/
def State.handReturned (s : State) (b : Bay) (ks : List CoinUnit) : State :=
  ks.foldl (fun s k => s.handOutcome b k .returned) s

/-! ## Start presses (R66, R68, R70) -/

/-- Whether a switch is P1 or P2 (R66). -/
def PanelGroup.isStart (g : PanelGroup) (w : Switch) : Bool := decide (g.p1 = some w) || decide (g.p2 = some w)

/-- The active bay when the gate takes a switch's events: PLAY, pay mode ON_START, a start switch (R66). -/
def State.gateTakes (s : State) (w : Switch) : Option Bay :=
  match s.activeBay with
  | some b =>
    if (s.profile b).play.payMode = .onStart ∧ s.tables.cabinet.panel.isStart w then some b else none
  | none => none

/-- Whether a route map holds a route from a switch. -/
def routesFrom (m : List Route) (w : Switch) : Bool := m.any fun r => decide (r.switch = w)

/-- A charge of `k` units opened: the draw, the gate in PAYING with the numbers of the new units (R68 step 5). -/
def State.openCharge (s : State) (b : Bay) (w : Switch) (k : Nat) : State :=
  let before := (s.feeder b).queue.length
  let s := s.drawUnits b .gate k
  let numbers := ((s.feeder b).queue.drop before).map CoinUnit.number
  (s.setGate { s.gate with state := .paying, bay := some b, switch := some w, owed := k, units := numbers,
                           confirmed := 0 }).arbitrate

/-- A press of a start switch taken by the gate, judged in the order of R68; it is ignored in PAYING and FIRING
(R70). -/
def State.startPress (s : State) (b : Bay) (w : Switch) : State :=
  match s.gate.state with
  | .paying => s
  | .firing => s
  | .idle =>
    let k := (s.profile b).play.price - s.gate.carry
    if !(s.isRunning b && routesFrom (s.routeMap b) w) then s
    else if s.store.poolCount < s.drawSize b k then
      s.notify (.gateNeedCredit b w k (s.drawSize b k) s.store.poolCount s.gate.carry)
    else if (s.feeder b).free < k then
      s.notify (.gateQueueFull b w k (s.feeder b).queue.length s.gate.carry)
    else s.openCharge b w k

end Sys2Proof.Machine
end

