-- ==== Sys2Proof/Machine/Routing.lean ====
section
/-! DEFINITION. The Panel Scanner's debounce and the Route Engine (06): the pressed set and the held-over mask, route
pulse timers, the menu-hold timer and the quiet wait. -/

namespace Sys2Proof.Machine

/-- A switch added to a set of switches, kept ascending. -/
def insertSwitch (w : Switch) : List Switch → List Switch
  | [] => [w]
  | k :: rest => if w.val < k.val then w :: k :: rest else if w = k then k :: rest else k :: insertSwitch w rest

/-- A switch removed from a set of switches. -/
def removeSwitch (w : Switch) (l : List Switch) : List Switch := l.filter fun k => decide (k ≠ w)

/-- A set of switches with all of another added. -/
def uniteSwitches (l m : List Switch) : List Switch := m.foldl (fun acc w => insertSwitch w acc) l

/-- A switch's sample in a scan: pressed when its bit is set. -/
def sampleOf (scan : BitVec 64) (w : Switch) : Bool := scan.getLsbD w.val

/-- One sample of a switch against its debounced state (R99). -/
def debounceCount (count : Nat) (raw debounced : Bool) : Nat := if raw = debounced then 0 else count + 1

/-- A switch's debounce count after the scans that went before the first complete debounce (R100). -/
def countAfter (scans : List (BitVec 64)) (w : Switch) : Nat :=
  scans.foldl (fun n scan => debounceCount n (sampleOf scan w) false) 0

/-- The first complete debounce: switches read pressed in all four scans enter the pressed set and the held-over
mask, without an event; every other keeps the count its samples left (R100). -/
def State.firstDebounce (s : State) (scans : List (BitVec 64)) : State :=
  let entered := allSwitches.filter fun w => decide (countAfter scans w = Config.debounceSamples)
  s.setPanel { s.panel with
    scan := 0
    samples := []
    settled := true
    counts := Vector.ofFn fun w => if countAfter scans w = Config.debounceSamples then 0 else countAfter scans w
    pressed := entered
    mask := entered }

/-- A switch's role, P1 before P2 where one switch is both (R101, R102, log entry 14). -/
def PanelGroup.role (g : PanelGroup) (w : Switch) : Option Role :=
  if g.menu = w then some .menu else if g.p1 = some w then some .p1 else if g.p2 = some w then some .p2 else none

/-- The pressed set, the mask and the debounce count after a switch event (R99, R109). -/
def State.notePress (s : State) (w : Switch) (e : Edge) : State :=
  let p := s.panel
  s.setPanel { p with
    counts := p.counts.set w 0
    pressed := match e with
      | .press => insertSwitch w p.pressed
      | .release => removeSwitch w p.pressed
    mask := match e with
      | .press => p.mask
      | .release => removeSwitch w p.mask }

/-- The menu-hold timer stopped (R103). -/
def State.stopMenuHold (s : State) : State := s.setPanel { s.panel with menuHold := none }

/-- The menu switch's event in PLAY or HANDOVER (R103). -/
def State.menuSwitchEvent (s : State) (e : Edge) : State :=
  match e with
  | .press => s.setPanel { s.panel with menuHold := some (Timer.start Config.menuHoldTime) }
  | .release => s.stopMenuHold

/-- Whether a route's pulse timer runs. -/
def Routing.runs (g : Routing) (r : Route) : Bool :=
  g.pulses.any fun p => decide (p.switch = r.switch) && decide (p.line = r.line)

/-- The timers of every PULSE route from a switch whose timer is stopped start, when the active bay is RUNNING
(R106, R107). -/
def State.startRoutePulses (s : State) (b : Bay) (w : Switch) : State :=
  if s.isRunning b then
    let starts := (s.routeMap b).filter fun r =>
      decide (r.switch = w) && decide (r.mode = .pulse) && !s.routing.runs r
    s.setRouting { s.routing with
      pulses := s.routing.pulses ++ starts.map fun r =>
        { switch := r.switch, line := r.line, timer := Timer.start r.width } }
  else s

/-- Every route pulse timer stopped without expiry (R107, R110). -/
def State.stopRoutePulses (s : State) : State := s.setRouting { s.routing with pulses := [] }

/-- An unmasked switch's event in PLAY, by its role (R101). -/
def State.playEvent (s : State) (b : Bay) (w : Switch) (e : Edge) : State :=
  if s.tables.cabinet.panel.menu = w then s.menuSwitchEvent e
  else
    match e, s.gateTakes w with
    | .press, some g => s.startPress g w
    | .release, some _ => s
    | .press, none => s.startRoutePulses b w
    | .release, none => s

/-- An unmasked switch's event, by the stage (R101, R102). -/
def State.dealSwitch (s : State) (w : Switch) (e : Edge) : State :=
  match s.stage with
  | .menu => s.notifyOn .selector (.panel e w (s.tables.cabinet.panel.role w))
  | .handover _ => if s.tables.cabinet.panel.menu = w then s.menuSwitchEvent e else s
  | .play b => s.playEvent b w e

/-- A quiet wait ends when a RELEASE leaves the pressed set empty (R111). -/
def State.quietCheck (s : State) (e : Edge) : State :=
  if e = .release ∧ s.routing.quiet.isSome ∧ s.panel.pressed = [] then
    (s.setRouting { s.routing with quiet := none }).report .quietGrant
  else s

/-- A switch event taken by the Route Engine (R99, R101, R109, R111). -/
def State.takeSwitch (s : State) (w : Switch) (e : Edge) : State :=
  let masked := s.panel.mask.contains w
  let s := s.notePress w e
  (if masked then s else s.dealSwitch w e).quietCheck e

/-- The held-over mask at the expiry of a quiet wait: every pressed switch enters it, and the menu-hold timer stops
when the menu switch does; the Route Engine grants (R112). -/
def State.quietExpires (s : State) : State :=
  let hold := if s.panel.pressed.contains s.tables.cabinet.panel.menu then none else s.panel.menuHold
  let s := s.setPanel { s.panel with mask := uniteSwitches s.panel.mask s.panel.pressed, menuHold := hold }
  (s.setRouting { s.routing with quiet := none }).report .quietGrant

/-- A quiet request: a grant at once, an expiry at once, or a quiet wait (R111). -/
def State.quietRequest (s : State) : State :=
  if s.panel.pressed = [] then s.report .quietGrant
  else if s.tables.cabinet.panel.quiet = 0 then s.quietExpires
  else s.setRouting { s.routing with quiet := some (Timer.start s.tables.cabinet.panel.quiet) }

end Sys2Proof.Machine
end

