-- ==== Sys2Proof/Machine/Settling.lean ====
section
/-! DEFINITION. Settlement of the slot unit (03), and a feeder's part of a power loss and of RELEASE (R43, R45). -/

namespace Sys2Proof.Machine

/-- A confirmation: the unit retired as SPENT with TOKENS_SPENT and CONFIRMED, POOL (SPENT), then the outcome to the
gate (R52). -/
def State.confirmUnit (s : State) (b : Bay) (k : CoinUnit) : State :=
  let moved := s.store.live - (s.store.retire b k.number).live
  let s := ((s.retireTokens .spent b k.number).bump (confirmedIx b) 1).storeChanged .spent moved (some b)
  s.handOutcome b k .confirmed

/-- A FEEDER notice about a unit, with the feeder as it stands (R48). -/
def State.notifyFeeder (s : State) (e : FeederEvent) (b : Bay) (k : CoinUnit) : State :=
  s.notify (.feeder e b k.number k.tokens.length k.cause (s.feeder b).state (s.feeder b).queue.length)

/-- A feeder's slot emptied: it goes on to WAITING or IDLE (R33). -/
def State.emptySlot (s : State) (b : Bay) : State :=
  s.putFeeder b { s.feeder b with slot := none, held := none, window := none }

/-- The end of a pulse's TRAIL: the pulse unit is released and the slot unit dealt with by its status (R32). -/
def State.trailEnd (s : State) (u : PulseId) (p : Pulse) : State :=
  let s := s.setPulse u none
  let f := s.feeder p.bay
  match f.slot with
  | none => (s.setFeeder p.bay { f with held := none }).arbitrate
  | some k =>
    match k.status with
    | .confirmedInTrail => ((s.emptySlot p.bay).confirmUnit p.bay k).arbitrate
    | .sending => ((s.emptySlot p.bay).confirmUnit p.bay k).arbitrate
    | .doubt => ((s.setFeeder p.bay { f with held := none }).notifyFeeder .held p.bay k).arbitrate
    | .echoWait => (s.setFeeder p.bay { f with held := none }).arbitrate
    | .queued => (s.setFeeder p.bay { f with held := none }).arbitrate

/-! ## Echoes (R51, R54, R55, R58, R62) -/

/-- A stray: STRAY advances and a STRAY notice is sent (R62). -/
def State.stray (s : State) (b : Bay) (m : CoinLine) (r : StrayReason) : State :=
  (s.bump (strayIx b) 1).notify (.stray b m r (s.feeder b).state)

/-- The slot unit confirmed within its pulse: CONFIRMED_IN_TRAIL, and the window timer stops (R54, R58). -/
def State.confirmInTrail (s : State) (b : Bay) (k : CoinUnit) : State :=
  s.setFeeder b { s.feeder b with slot := some { k with status := .confirmedInTrail }, window := none }

/-- An echo judged against the feeder: the first row of R51's table that applies. -/
def State.judgeEcho (s : State) (b : Bay) (m : CoinLine) : State :=
  if (s.profile b).coin.echoMode = .none then s.stray b m .echoNone
  else
    match (s.feeder b).slot with
    | none => s.stray b m .noUnit
    | some k =>
      if m ≠ k.line then s.stray b m .otherLine
      else
        match k.status with
        | .queued => s.stray b m .notOpen
        | .sending => s.stray b m .notOpen
        | .confirmedInTrail => s.stray b m .settled
        | .echoWait =>
          if (s.feeder b).held.isSome then s.confirmInTrail b k
          else ((s.emptySlot b).confirmUnit b k).arbitrate
        | .doubt =>
          if (s.feeder b).held.isSome then s.confirmInTrail b k
          else (((s.emptySlot b).confirmUnit b k).notifyFeeder .resumed b k).arbitrate

/-- The echo window's expiry with the slot unit in ECHO_WAIT: DOUBT, HELD at once after the pulse, and the outcome to
the gate (R56). The HELD notice counts the queued units before an abandonment by that outcome returns any, which is the
model's choice (log entry 33). -/
def State.windowExpires (s : State) (b : Bay) : State :=
  let f := s.feeder b
  match f.slot, f.window with
  | some k, some _ =>
    if k.status = .echoWait then
      let d := { k with status := .doubt }
      let s := s.setFeeder b { f with slot := some d, window := none }
      let s := if f.held.isSome then s else s.notifyFeeder .held b d
      s.handOutcome b d .doubt
    else s
  | _, _ => s

/-! ## Rulings (R59, R60) -/

/-- A doubt unit voided: retired as VOIDED with TOKENS_VOIDED and VOIDED (R59). -/
def State.voidUnit (s : State) (b : Bay) (k : CoinUnit) : State :=
  let moved := s.store.live - (s.store.retire b k.number).live
  let s := s.emptySlot b
  let s := ((s.retireTokens .voided b k.number).bump (voidedIx b) 1).storeChanged .voided moved (some b)
  ((s.notifyFeeder .resumed b k).handOutcome b k .voided).arbitrate

/-- A doubt unit refunded: returned, with REFUNDED (R60). -/
def State.refundUnit (s : State) (b : Bay) (k : CoinUnit) : State :=
  let s := ((s.emptySlot b).bump (refundedIx b) 1).returnUnits b [k.number]
  ((s.notifyFeeder .resumed b k).handOutcome b k .refunded).arbitrate

/-! ## RELEASE and power loss (R43, R45) -/

/-- The leave policy at the start of RELEASE: with RETURN every queued unit goes back in one return (R43). -/
def State.leavePolicy (s : State) (b : Bay) : State :=
  match (s.profile b).coin.leavePolicy with
  | .keep => s
  | .giveBack =>
    let queued := (s.feeder b).queue
    (s.returnQueued b fun _ => true).handReturned b queued

/-- What a feeder keeps over a power loss: its next-unit counter (R26, R45). -/
def Feeder.emptied (f : Feeder) : Feeder := { Feeder.fresh with nextUnit := f.nextUnit }

/-- The units a power loss returns: the queued ones and a slot unit that is not CONFIRMED_IN_TRAIL (R45). -/
def Feeder.unsettled (f : Feeder) : List CoinUnit :=
  (f.slot.toList.filter fun k => decide (k.status ≠ .confirmedInTrail)) ++ f.queue

/-- The slot unit a power loss retires as SPENT (R45). -/
def Feeder.counted (f : Feeder) : List CoinUnit :=
  f.slot.toList.filter fun k => decide (k.status = .confirmedInTrail)

/-- A feeder's part of a power loss: the pulse cut, a counted unit retired, the rest returned (R45). -/
def State.feederPowerLoss (s : State) (b : Bay) : State :=
  let f := s.feeder b
  if f.state = .idle then s
  else
    let s := (s.cutPulse f.held).putFeeder b f.emptied
    let s := f.counted.foldl (fun s k => s.confirmUnit b k) s
    let s := s.returnUnits b (f.unsettled.map CoinUnit.number)
    (s.handReturned b f.unsettled).arbitrate

end Sys2Proof.Machine
end

