-- ==== Sys2Proof/Machine/Monitoring.lean ====
section
/-! DEFINITION. The sync checkers' judgement of a field and the Crosspoint (08): blanking, ramps, class steps and
cuts. -/

namespace Sys2Proof.Machine

/-! ## Fields (R139) -/

/-- The line class of a field of `lines` line sync pulses and `length` ns, by the class table; both ends of a range
are in it (R139, 00 Conventions). -/
def fieldClass (lines length : Nat) : MeasuredClass :=
  if lines = 0 then .out
  else if 15000 * length ≤ lines * 1000000000 ∧ lines * 1000000000 ≤ 16600 * length then .inClass .low
  else if 23500 * length ≤ lines * 1000000000 ∧ lines * 1000000000 ≤ 25500 * length then .inClass .medium
  else if 30000 * length ≤ lines * 1000000000 ∧ lines * 1000000000 ≤ 32500 * length then .inClass .high
  else .out

/-- Whether a field rate lies from 47 to 63 Hz (R139). -/
def rateGood (length : Nat) : Bool := decide (47 * length ≤ 1000000000) && decide (1000000000 ≤ 63 * length)

/-- A good field: of the profile's line class, its field rate in range (R139). -/
def fieldGood (k : LineClass) (lines length : Nat) : Bool :=
  decide (fieldClass lines length = .inClass k) && rateGood length

/-- A checker whose bay's power is cut; the measurements are kept (R140). -/
def Checker.cut (c : Checker) : Checker :=
  { c with state := .dark, good := 0, bad := 0, gap := 0, begun := false }

/-- A checker whose bay enters STARTING (R140). -/
def Checker.seek : Checker := { Checker.fresh with state := .seeking }

/-! ## Audio (R147, R148) -/

/-- A rising ramp from the present gain; it ends at once when nothing remains of it (R147). -/
def Crosspoint.rampUp (x : Crosspoint) (length : Nat) : Crosspoint :=
  if length = 0 ∨ Config.gainFull ≤ x.gain then { x with audio := .full, gain := Config.gainFull, ramp := length }
  else { x with audio := .rising, ramp := length }

/-- A rising ramp brought to full (R147). -/
def Crosspoint.rampFull (x : Crosspoint) : Crosspoint := { x with audio := .full, gain := Config.gainFull }

/-- A falling ramp from the present gain; it ends at once when nothing remains of it (R147, R148). -/
def Crosspoint.rampDown (x : Crosspoint) (length : Nat) : Crosspoint :=
  if length = 0 ∨ x.gain = 0 then { x with audio := .muted, gain := 0, ramp := length }
  else { x with audio := .falling, ramp := length }

/-- The audio muted at once (R147). -/
def Crosspoint.mute (x : Crosspoint) : Crosspoint := { x with audio := .muted, gain := 0 }

/-- The source BLANK with the audio MUTED (R145). -/
def Crosspoint.blank (x : Crosspoint) : Crosspoint := { x.mute with source := .blank }

/-- The audio muted; a falling ramp ends by that, and RAMP_DONE is reported (R148, R151). -/
def State.reportFall (s : State) : State :=
  if s.monitor.audio = .falling then s.report .rampDone else s

/-- The source becomes BLANK and the audio MUTED at once (R149, R151). -/
def State.blankSource (s : State) : State := s.reportFall.setMonitor s.monitor.blank

/-- The audio ramp of the cabinet record, read as a ramp starts (R147). -/
def State.rampLength (s : State) : Nat := s.tables.cabinet.system.ramp

/-- A ramp-down request (R148). -/
def State.rampDownRequest (s : State) : State :=
  match s.monitor.audio with
  | .muted => s.report .rampDone
  | .falling => s
  | .full | .rising =>
    let x := s.monitor.rampDown s.rampLength
    if x.audio = .muted then (s.setMonitor x).report .rampDone else s.setMonitor x

/-! ## Presenting a source (R146, R149, R150, R151) -/

/-- The class of a target: the menu line class, or the line class of the bay's profile (R149). -/
def State.targetClass (s : State) : Target → LineClass
  | .menu => s.tables.cabinet.system.menuClass
  | .bay b => (s.profile b).general.lineClass

/-- The source a cut selects: a bay that is not RUNNING is not selected (R149). -/
def State.cutSource (s : State) : Target → Source
  | .menu => .menu
  | .bay b => if s.isRunning b then .bay b else .blank

/-- A crosspoint that takes the source a cut selects: BLANK mutes, any other starts a rising ramp; the cut request
becomes none (R149). -/
def Crosspoint.take (x : Crosspoint) (src : Source) (ramp : Nat) : Crosspoint :=
  if src = .blank then { x.blank with cut := none }
  else Crosspoint.rampUp { x with source := src, cut := none } ramp

/-- A falling ramp that a cut to BLANK ends is reported (R151). -/
def State.reportFallIfBlank (s : State) (src : Source) : State := if src = .blank then s.reportFall else s

/-- The cut, with its report CUT_DONE (R149 step 3). -/
def State.makeCut (s : State) (t : Target) : State :=
  ((s.reportFallIfBlank (s.cutSource t)).setMonitor
    (s.monitor.take (s.cutSource t) s.rampLength)).report (.cutDone (s.cutSource t))

/-- A class step: BLANK, the class lines changed, the settle timer restarted with the length read now; a length of 0
stops it at the change (R146, R149 step 1). -/
def Crosspoint.step (x : Crosspoint) (k : LineClass) (settle : Nat) : Crosspoint :=
  { x.blank with lineClass := k, settle := if settle = 0 then none else some (Timer.start settle) }

/-- The class step of a cut request, where the target's class differs from the monitor class (R149 step 1). -/
def State.classStep (s : State) (t : Target) : State :=
  if s.targetClass t = s.monitor.lineClass then s
  else s.reportFall.setMonitor (s.monitor.step (s.targetClass t) s.tables.cabinet.system.settle)

/-- A cut request: recorded, the class step made, and the cut made at once when the settle timer is stopped
(R149). -/
def State.cutRequest (s : State) (t : Target) : State :=
  let s := (s.setMonitor { s.monitor with cut := some t }).classStep t
  if s.monitor.settle.isSome then s else s.makeCut t

/-- A cut request withdrawn (R150). -/
def State.withdrawCut (s : State) : State := s.setMonitor { s.monitor with cut := none }

/-- The settle timer stops, and a recorded cut is made (R146, R149). -/
def State.settleStops (s : State) : State :=
  let s := s.setMonitor { s.monitor with settle := none }
  match s.monitor.cut with
  | some t => s.makeCut t
  | none => s

/-- The Crosspoint's part of a power cut: the selected bay leaving RUNNING blanks and mutes (R151). -/
def State.crosspointLoss (s : State) (b : Bay) : State :=
  if s.monitor.source = .bay b then s.blankSource else s

end Sys2Proof.Machine
end

