-- ==== Sys2Proof/Machine/Powering.lean ====
section
/-! DEFINITION. Bay power and the load budget (07): cutting power and handing the cut on, entering STARTING, BOOTING
and RUNNING, the budget, evictions, the end of COOLING, crashes, the warm list and the protected set. -/

namespace Sys2Proof.Machine

/-! ## Notices and reports (R135, R136) -/

/-- A bay's position in a list counted from 1 at the head, or none (R131). -/
def positionIn (b : Bay) : List Bay → Option Nat
  | [] => none
  | k :: rest => if k = b then some 1 else (positionIn b rest).map (· + 1)

/-- A bay's warm-list position (R131). -/
def State.warmPosition (s : State) (b : Bay) : Option Nat := positionIn b s.power.warm

/-- A BAY notice about an event, with the bay as it stands after it (R136). -/
def State.notifyBay (s : State) (e : BayEvent) (b : Bay) : State :=
  s.notify (.bay e b (s.bay b).state (s.bay b).attempts (s.warmPosition b))

/-- The LOSS report of the active bay in PLAY, or of the origin of a handover before its release (R135, R155). -/
def State.reportLoss (s : State) (b : Bay) (c : LossCause) : State :=
  if s.isActive b || s.isOrigin b then s.report (.loss b c) else s

/-- What a stop of the current target reports: FAILED with its reason, or the cut that leaves it COOLING (R135,
R154). -/
def State.reportTarget (s : State) (b : Bay) (r : Option FailReason) : State :=
  if s.isTarget b then
    match r with
    | some r => s.report (.failed b r)
    | none => s.report (.cutToCooling b)
  else s

/-! ## Cutting power (R118) -/

/-- A bay's filters set together (R49). -/
def State.setBayFilters (s : State) (b : Bay) (f : BayFilters) : State := s.setFilters (s.filters.set b f)

/-- The Start Gate's and the feeder's parts of a power loss; in PAYING on the bay either may act first (R76). -/
def State.creditLoss (s : State) (b : Bay) : State :=
  if s.gate.state = .paying ∧ s.gate.bay = some b then
    inFreeOrder (fun s => s.gateLeaves b .powerLoss) (fun s => s.feederPowerLoss b) s
  else (s.gateLeaves b .powerLoss).feederPowerLoss b

/-- The route pulse timers of an active bay stop at its power loss (R107). -/
def State.routingLoss (s : State) (b : Bay) : State := if s.isActive b then s.stopRoutePulses else s

/-- The meter lines whose filter counts. -/
def BayFilters.counting (f : BayFilters) : List CoinLine :=
  [CoinLine.one, CoinLine.two].filter fun m =>
    match m, f.one, f.two with
    | .one, .counting _, _ => true
    | .two, _, .counting _ => true
    | _, _, _ => false

/-- A bay's filters at its power loss: both DARK at once, an echo that falls together with it left to be taken (R46,
R49). -/
def BayFilters.cut (f : BayFilters) : BayFilters where
  one := .dark
  two := .dark
  late := f.late ++ f.counting

/-- A cut from a powered state handed on to the blocks that depend on the board being powered (R118). -/
def State.handOnCut (s : State) (b : Bay) : State :=
  let s := (s.creditLoss b).setBayFilters b s.filters[b].cut
  let s := s.routingLoss b
  (s.setChecker b (s.checker b).cut).crosspointLoss b

/-- The bay timer of a state entered by a cut: COOLING counts its off time (R118, R119). -/
def cutTimer (into : PowerState) : Option Timer :=
  match into with
  | .cooling => some (Timer.start Config.coolingTime)
  | .disabled | .off | .starting | .booting | .running | .tripped | .faulted => none

/-- A bay that leaves the warm list and enters an unpowered state, its timer, deferred request and release-pending
mark as R118 and R119 leave them. -/
def State.enterCut (s : State) (b : Bay) (into : PowerState) : State :=
  s.setPower { s.power with
    bays := s.power.bays.set b
      { s.bay b with state := into, deferred := none, releasePending := false, timer := cutTimer into }
    warm := s.power.warm.filter fun k => decide (k ≠ b) }

/-- A bay's power cut, with the state it then enters (R118). -/
def State.cutPower (s : State) (b : Bay) (into : PowerState) : State :=
  if (s.bay b).state.powered then (s.enterCut b into).handOnCut b else s.enterCut b into

/-- A trip: the power cut, TRIPPED, its BAY notice and its reports (R125). -/
def State.trip (s : State) (b : Bay) : State :=
  let s := (s.cutPower b .tripped).notifyBay .tripped b
  (s.reportLoss b .tripped).reportTarget b (some .tripped)

/-! ## STARTING, BOOTING, RUNNING (R117) -/

/-- Entry to STARTING: the reset hold starts, the checker seeks, and an active overcurrent input trips at once
(R117, R125). -/
def State.enterStarting (s : State) (b : Bay) : State :=
  let s := (s.setBay b { s.bay b with
    state := .starting, timer := some (Timer.start (s.profile b).general.resetHold) }).setChecker b Checker.seek
  if s.pins.overcurrent[b] then s.trip b else s

/-- Where a bay goes on entering RUNNING: READY for the current target, the warm list's head for a bay in no role
(R131, R135). -/
def State.runningJoins (s : State) (b : Bay) : State :=
  if s.isTarget b then s.report (.ready b)
  else if s.isActive b || s.isOrigin b then s
  else s.setWarm (b :: s.power.warm)

/-- Entry to RUNNING from BOOTING, with its BAY notice (R117). -/
def State.bayRunning (s : State) (b : Bay) : State :=
  ((s.setBay b { s.bay b with state := .running, timer := none }).notifyBay .running b).runningJoins b

/-- A LOCKED report: it moves a BOOTING bay to RUNNING (R117, R141). -/
def State.lockedReport (s : State) (b : Bay) : State :=
  if (s.bay b).state = .booting then s.bayRunning b else s

/-- The level at which a bay's meter line is active (R49). -/
def State.meterActive (s : State) (b : Bay) (m : CoinLine) : Bool :=
  let high := match m with
    | .one => s.pins.meter[b].one
    | .two => s.pins.meter[b].two
  match (s.profile b).coin.polarity with
  | .activeLow => !high
  | .activeHigh => high

/-- What a filter finds when it samples its line (R49). -/
def sampledFilter (active : Bool) : EchoFilter := if active then .waitRelease else .ready

/-- A bay's filters as it enters BOOTING (R49). -/
def State.sampledFilters (s : State) (b : Bay) : BayFilters where
  one := sampledFilter (s.meterActive b .one)
  two := sampledFilter (s.meterActive b .two)
  late := []

/-- The end of the reset hold: BOOTING, the filters sample, and a checker already LOCKED takes the bay to RUNNING
(R117). -/
def State.resetHoldEnds (s : State) (b : Bay) : State :=
  let s := s.setBay b { s.bay b with
    state := .booting, timer := some (Timer.start (1000 * (s.profile b).general.bootLimit)) }
  let s := s.setBayFilters b (s.sampledFilters b)
  if (s.checker b).state = .locked then s.bayRunning b else s

/-! ## The load budget (R120) -/

/-- A bay's load units. -/
def State.load (s : State) (b : Bay) : Nat := (s.profile b).general.load

/-- The load units a bay commits: none while it is unpowered. -/
def State.committedBy (s : State) (b : Bay) : Nat := if (s.bay b).state.powered then s.load b else 0

/-- The committed load (R120). -/
def State.committedLoad (s : State) : Nat := (allBays.map s.committedBy).sum

/-- The load budget. -/
def State.budget (s : State) : Nat := s.tables.cabinet.system.budget

/-- A budget check for a bay (R120). -/
def State.fits (s : State) (b : Bay) : Bool := decide (s.committedLoad + s.load b ≤ s.budget)

/-! ## Handover power requests and evictions (R121, R122) -/

/-- The eviction candidates, in list order (R121). -/
def State.candidates (s : State) : List Bay :=
  s.power.warm.filter fun k => decide ((s.feeder k).state = .idle) && !s.power.protectedSet.contains k

/-- A bay evicted for a target (R122). -/
def State.evict (s : State) (target b : Bay) : State := (s.cutPower b .cooling).notifyBay (.evicted target) b

/-- Candidates evicted one by one until the load units evicted are at least the excess (R121). -/
def State.evictFor (s : State) (target : Bay) : List Bay → Nat → State
  | [], _ => s
  | _ :: _, 0 => s
  | k :: rest, excess + 1 => (s.evict target k).evictFor target rest (excess + 1 - s.load k)

/-- An OFF target, or one whose COOLING ends with HANDOVER, judged against the budget with evictions; a bay that
cannot be powered stays OFF and is reported (R121). -/
def State.judgeHandover (s : State) (b : Bay) : State :=
  let excess := s.committedLoad + s.load b - s.budget
  if excess = 0 then s.enterStarting b
  else if excess ≤ (s.candidates.map s.load).sum then (s.evictFor b s.candidates excess).enterStarting b
  else s.report (.failed b .budget)

/-- A handover power request (R121). -/
def State.powerRequest (s : State) (b : Bay) : State :=
  match (s.bay b).state with
  | .running => s.report (.ready b)
  | .starting => s
  | .booting => s
  | .cooling => s.setBay b { s.bay b with deferred := some .handover }
  | .off => s.judgeHandover b
  | .tripped => s.report (.failed b .tripped)
  | .faulted => s.report (.failed b .faulted)
  | .disabled => s.report (.failed b .disabled)

/-! ## The end of COOLING (R119) -/

/-- A deferred PREHEAT or RECOVERY judged without eviction (R119). -/
def State.judgeDeferred (s : State) (b : Bay) (k : Deferred) : State :=
  if s.fits b then s.enterStarting b else s.notifyBay (.refused k) b

/-- The end of COOLING: OFF, and the deferred request judged against the budget at that moment (R119). -/
def State.coolingEnds (s : State) (b : Bay) : State :=
  let deferred := (s.bay b).deferred
  let s := s.setBay b { s.bay b with state := .off, deferred := none, timer := none }
  match deferred with
  | none => s
  | some .preheat => s.judgeDeferred b .preheat
  | some .recovery => s.judgeDeferred b .recovery
  | some .handover => s.judgeHandover b

/-! ## Crashes (R127) -/

/-- The deferred request a crash with an attempt left sets (R127). -/
def State.crashDeferred (s : State) (b : Bay) : Deferred := if s.isTarget b then .handover else .recovery

/-- A crash (R127). -/
def State.crash (s : State) (b : Bay) : State :=
  let p := s.bay b
  if p.releasePending then
    let s := (s.cutPower b .cooling).notifyBay .crashed b
    (s.reportLoss b .lost).reportTarget b none
  else if p.attempts = 0 then
    let s := ((s.cutPower b .faulted).notifyBay .crashed b).notifyBay .faulted b
    (s.reportLoss b .lost).reportTarget b (some .faulted)
  else
    let s := s.cutPower b .cooling
    let s := s.setBay b { s.bay b with attempts := p.attempts - 1, deferred := some (s.crashDeferred b) }
    ((s.notifyBay .crashed b).reportLoss b .lost).reportTarget b none

/-- A LOST report: a crash of a RUNNING bay, and nothing in any other state (R117, R143). -/
def State.lostReport (s : State) (b : Bay) : State := if s.isRunning b then s.crash b else s

/-! ## Roles left and taken (R128, R131 to R134) -/

/-- A bay named target: it leaves the warm list, its release-pending mark is cleared, and its attempts are reloaded
where the naming is by a SELECT (R128, R131, R133). -/
def State.nameTarget (s : State) (b : Bay) (reload : Bool) : State :=
  let p := s.bay b
  s.setPower { s.power with
    bays := s.power.bays.set b { p with
      releasePending := false
      attempts := if reload then (s.profile b).general.attempts else p.attempts }
    warm := s.power.warm.filter fun k => decide (k ≠ b) }

/-- A bay's deferred request dropped (R119). -/
def State.dropDeferred (s : State) (b : Bay) : State := s.setBay b { s.bay b with deferred := none }

/-- The origin released at the cut-over (R132). -/
def State.releaseOrigin (s : State) (b : Bay) : State :=
  let warm := (s.profile b).general.keepWarm
  match (s.bay b).state with
  | .running =>
    if warm then s.setWarm (s.power.warm ++ [b])
    else if (s.feeder b).state = .idle then s.cutPower b .cooling
    else (s.setWarm (s.power.warm ++ [b])).setBay b { s.bay b with releasePending := true }
  | .starting => if warm then s else s.cutPower b .cooling
  | .booting => if warm then s else s.cutPower b .cooling
  | .cooling => if warm then s else s.dropDeferred b
  | .off => s
  | .tripped => s
  | .faulted => s
  | .disabled => s

/-- A former target retargeted away (R134). -/
def State.retargetedAway (s : State) (b : Bay) : State :=
  let warm := (s.profile b).general.keepWarm
  match (s.bay b).state with
  | .starting => if warm then s else s.cutPower b .cooling
  | .booting => if warm then s else s.cutPower b .cooling
  | .running => if warm then s.setWarm (b :: s.power.warm) else s.cutPower b .cooling
  | .cooling => s.dropDeferred b
  | .off => s
  | .tripped => s
  | .faulted => s
  | .disabled => s

/-- A feeder has become IDLE: a release-pending RUNNING bay is cut (R133). -/
def State.feederIdle (s : State) (b : Bay) : State :=
  if (s.bay b).releasePending && s.isRunning b && decide ((s.feeder b).state = .idle) then s.cutPower b .cooling else s

/-! ## Requests (R123, R124, R126, R128 to R130) -/

/-- POWER_BAY on (R123). -/
def State.askPowerOn (s : State) (b : Bay) : State × Answer :=
  let p := s.bay b
  let reloaded := s.setBay b { p with attempts := (s.profile b).general.attempts }
  match p.state with
  | .tripped => (s, .nak .state)
  | .faulted => (s, .nak .state)
  | .disabled => (s, .nak .state)
  | .off => if s.fits b then (reloaded.enterStarting b, .ack []) else (s, .nak .budget)
  | .cooling =>
    (s.setBay b { p with
      attempts := (s.profile b).general.attempts
      deferred := if p.deferred = some .handover then some .handover else some .preheat }, .ack [])
  | .starting => (reloaded, .ack [])
  | .booting => (reloaded, .ack [])
  | .running => (reloaded, .ack [])

/-- Whether POWER_BAY off is refused with BUSY (R124). -/
def State.inRole (s : State) (b : Bay) : Bool := s.isActive b || s.isOrigin b || s.isTarget b

/-- The effect of POWER_BAY off on a bay (R124). -/
def State.powerOff (s : State) (b : Bay) : State :=
  match (s.bay b).state with
  | .starting => s.cutPower b .cooling
  | .booting => s.cutPower b .cooling
  | .running => s.cutPower b .cooling
  | .cooling => s.dropDeferred b
  | .off => s
  | .tripped => s
  | .faulted => s
  | .disabled => s

/-- POWER_BAY off (R124). -/
def State.askPowerOff (s : State) (b : Bay) : State × Answer :=
  if s.inRole b then (s, .nak .busy)
  else if (s.feeder b).state ≠ .idle then (s, .nak .state)
  else (s.powerOff b, .ack [])

/-- ARM_BAY (R126). -/
def State.askArm (s : State) (b : Bay) : State × Answer :=
  if (s.bay b).state ≠ .tripped then (s, .nak .state)
  else if s.pins.overcurrent[b] then (s, .nak .faultPresent)
  else ((s.setBay b { s.bay b with state := .off }).notifyBay .armed b, .ack [])

/-- CLEAR_FAULT (R128). -/
def State.askClear (s : State) (b : Bay) : State × Answer :=
  if (s.bay b).state ≠ .faulted then (s, .nak .state)
  else ((s.setBay b { s.bay b with state := .off }).notifyBay .cleared b, .ack [])

/-- A bay's enabled flag replaced (R85). -/
def State.setEnabled (s : State) (b : Bay) (v : Bool) : State :=
  s.setFlags { s.flags with enabled := s.flags.enabled.set b v }

/-- Whether a disable of the current target is a failure: it is powered, or it holds a deferred HANDOVER request
(R129). -/
def BayPower.failsDisabled (p : BayPower) : Bool := p.state.powered || decide (p.deferred = some .handover)

/-- A bay that is not DISABLED taken out of service (R129). -/
def State.disable (s : State) (b : Bay) : State :=
  let p := s.bay b
  let s := ((s.setEnabled b false).cutPower b .disabled).notifyBay .disabled b
  let s := if p.state.powered then s.reportLoss b .disabled else s
  if p.failsDisabled then s.reportTarget b (some .disabled) else s

/-- DISABLE_BAY (R129). -/
def State.askDisable (s : State) (b : Bay) : State × Answer :=
  if (s.bay b).state = .disabled then (s, .ack []) else (s.disable b, .ack [])

/-- ENABLE_BAY (R130). -/
def State.askEnable (s : State) (b : Bay) : State × Answer :=
  if (s.bay b).state ≠ .disabled then (s, .nak .state)
  else (((s.setEnabled b true).setBay b { s.bay b with state := .off }).notifyBay .enabled b, .ack [])

end Sys2Proof.Machine
end

