-- ==== Sys2Proof/Machine/Handing.lean ====
section
/-! DEFINITION. The Handover Controller (09): beginning, phases, cut-over and completion, retargets and collapses,
failures and losses, menu requests and SELECT; and the taking of the reports the blocks hand on within an event. -/

namespace Sys2Proof.Machine

/-- The handover record replaced. -/
def State.setRecord (s : State) (r : HandoverRecord) : State := s.setStage (.handover r)

/-- The bay a target names. -/
def Target.bay? : Target → Option Bay
  | .menu => none
  | .bay b => some b

/-! ## Beginning (R156, R157) -/

/-- The origin of a handover that begins now (R156). -/
def State.beginOrigin (s : State) : Target :=
  match s.activeBay with
  | some b => .bay b
  | none => .menu

/-- The record of a handover that begins (R156). -/
def HandoverRecord.begun (origin target : Target) (c : Cause) : HandoverRecord where
  origin := origin
  released := false
  target := target
  phase := .release
  cause := c
  failedBay := none
  failReason := none
  followOn := none

/-- A target bay named to the Bay Power Controller; only a SELECT names one, and it reloads the attempts (R128,
R156, R164 step 3). -/
def State.nameIfBay (s : State) (t : Target) : State :=
  match t with
  | .menu => s
  | .bay b => s.nameTarget b true

/-- Whether the gate and the feeder of an origin both ask for returns at RELEASE (R44). -/
def State.bothReturn (s : State) (b : Bay) : Bool :=
  decide (s.gate.state = .paying) && decide (s.gate.bay = some b)
    && decide ((s.profile b).coin.leavePolicy = .giveBack)

/-- The Start Gate's and the feeder's parts of RELEASE; where both ask for returns either may act first (R44). -/
def State.releaseCredit (s : State) (b : Bay) : State :=
  if s.bothReturn b then inFreeOrder (fun s => s.gateLeaves b .release) (fun s => s.leavePolicy b) s
  else (s.gateLeaves b .release).leavePolicy b

/-- The release of an origin at the start of RELEASE (R157, R110). -/
def State.releaseParts (s : State) (origin : Target) : State :=
  match origin with
  | .menu => s
  | .bay b => s.stopRoutePulses.releaseCredit b

/-- A handover begins and RELEASE starts (R156, R157). -/
def State.begin (s : State) (target : Target) (c : Cause) : State :=
  let origin := s.beginOrigin
  let s := (s.setRecord (.begun origin target c)).setProtected target.bay?.toList
  let s := (s.nameIfBay target).notify (.stageBegun origin target c)
  (s.releaseParts origin).rampDownRequest

/-! ## Phases (R157 to R161) -/

/-- POWER begins with a power request for the target bay (R158). -/
def State.startPower (s : State) (r : HandoverRecord) (b : Bay) : State :=
  (s.setRecord { r with phase := .power }).powerRequest b

/-- CLASS begins with a cut request for the target (R159). -/
def State.startClass (s : State) (r : HandoverRecord) : State :=
  (s.setRecord { r with phase := .classChange }).cutRequest r.target

/-- What RELEASE leads to: POWER for a bay, CLASS for MENU (R157). -/
def State.afterRelease (s : State) (r : HandoverRecord) : State :=
  match r.target with
  | .bay b => s.startPower r b
  | .menu => s.startClass r

/-- RAMP_DONE ends a RELEASE in progress (R157). -/
def State.rampDone (s : State) : State :=
  match s.stage with
  | .handover r => if r.phase = .release then s.afterRelease r else s
  | .menu => s
  | .play _ => s

/-- READY of the current target ends a POWER in progress (R158). -/
def State.ready (s : State) (b : Bay) : State :=
  match s.stage with
  | .handover r => if r.phase = .power ∧ r.target = .bay b then s.startClass r else s
  | .menu => s
  | .play _ => s

/-- The origin released at the cut-over, unless it is MENU or the target (R160). -/
def State.cutOverRelease (s : State) (r : HandoverRecord) : State :=
  match r.origin with
  | .menu => s
  | .bay b => if r.target = .bay b then s else (s.setRecord { r with released := true }).releaseOrigin b

/-- The phase of a handover in progress replaced. -/
def State.setPhase (s : State) (p : Phase) : State :=
  match s.stage with
  | .handover r => s.setRecord { r with phase := p }
  | .menu => s
  | .play _ => s

/-- The source a target is presented as. -/
def Target.source : Target → Source
  | .menu => .menu
  | .bay b => .bay b

/-- CUT_DONE naming the target in CLASS is the cut-over: the origin is released and QUIET begins (R159 to R161). -/
def State.cutDone (s : State) (src : Source) : State :=
  match s.stage with
  | .handover r =>
    if r.phase = .classChange ∧ src = r.target.source then ((s.cutOverRelease r).setPhase .quiet).quietRequest else s
  | .menu => s
  | .play _ => s

/-! ## Completion (R162) -/

/-- A bay that becomes active in COOLING with a deferred HANDOVER request: it becomes RECOVERY (R162). -/
def State.enterActive (s : State) (b : Bay) : State :=
  if (s.bay b).deferred = some .handover then s.setBay b { s.bay b with deferred := some .recovery } else s

/-- The stage a completed handover enters, with what the change stops (R103, R106, R162). -/
def State.enterStage (s : State) (t : Target) : State :=
  match t with
  | .menu => (s.setStage .menu).stopMenuHold
  | .bay b => ((s.setStage (.play b)).enterActive b).stopRoutePulses

/-- The cause of a follow-on (R154). -/
def FollowOn.cause : FollowOn → Cause
  | .menuSwitch => .menuSwitch
  | .loss c => .loss c

/-- The follow-on of a handover completed into PLAY begins at once (R162). -/
def State.followOn (s : State) (r : HandoverRecord) : State :=
  match r.target, r.followOn with
  | .bay _, some f => s.begin .menu f.cause
  | .bay _, none => s
  | .menu, _ => s

/-- The grant of the quiet wait completes the handover (R162). -/
def State.quietGrant (s : State) : State :=
  match s.stage with
  | .handover r =>
    if r.phase = .quiet then
      let s := ((s.enterStage r.target).setProtected []).notify (.stageEntered r.target r.cause)
      s.followOn r
    else s
  | .menu => s
  | .play _ => s

/-! ## Retargets and collapses (R164, R165) -/

/-- The phase of a handover goes on for its new target, as the table of R164 and the list of R165 give. -/
def State.redirect (s : State) (r : HandoverRecord) : State :=
  match r.phase with
  | .release => s
  | .power => s.afterRelease r
  | .classChange => s.withdrawCut.afterRelease r
  | .quiet => s

/-- A former target that is a bay and not the origin is handed to the Bay Power Controller (R164 step 2); the origin of
a collapsed handover keeps what its crash deferred (R165, log entry 35). -/
def State.leaveTarget (s : State) (former origin : Target) : State :=
  match former with
  | .menu => s
  | .bay b => if former = origin then s else s.retargetedAway b

/-- A bay added to the protected set (R134, R164 step 3). -/
def State.protect (s : State) (t : Target) : State :=
  match t with
  | .menu => s
  | .bay b =>
    if s.power.protectedSet.contains b then s else s.setProtected (s.power.protectedSet ++ [b])

/-- A retarget of the handover in progress, or its collapse when the new target is the origin (R164, R165). -/
def State.retarget (s : State) (r : HandoverRecord) (target : Target) (c : Cause) : State :=
  let q := { r with target := target, cause := c, failedBay := none, failReason := none }
  let s := (s.setRecord q).leaveTarget r.target r.origin
  let s := ((s.protect target).nameIfBay target).notify (.stageRetargeted r.origin target r.target c r.phase)
  s.redirect q

/-! ## Failures and losses (R167 to R170) -/

/-- A FAILED report turns the handover to MENU (R167); in CLASS it may come behind a settle expiry that has made the cut to
BLANK (log entry 39). -/
def State.turnToMenu (s : State) (r : HandoverRecord) (b : Bay) (why : FailReason) : State :=
  let q := { r with target := .menu, cause := .failed, failedBay := some b, failReason := some why }
  ((s.setRecord q).notify (.handoverFailed b why r.origin)).redirect q

/-- A loss of the target in QUIET: the first loss cause stays, and it replaces MENU_SWITCH (R170). -/
def HandoverRecord.lose (r : HandoverRecord) (c : LossCause) : HandoverRecord :=
  match r.followOn with
  | some (.loss _) => r
  | some .menuSwitch => { r with followOn := some (.loss c) }
  | none => { r with followOn := some (.loss c) }

/-- The loss cause a failure reason stands for in QUIET (R170). -/
def FailReason.loss : FailReason → LossCause
  | .tripped => .tripped
  | .disabled => .disabled
  | .faulted => .lost
  | .budget => .lost

/-- A FAILED report (R167, R170). -/
def State.targetFailed (s : State) (b : Bay) (why : FailReason) : State :=
  match s.stage with
  | .handover r =>
    if r.target = .bay b then
      if r.phase = .quiet then s.setRecord (r.lose why.loss) else s.turnToMenu r b why
    else s
  | .menu => s
  | .play _ => s

/-- A LOSS report: of the active bay it begins a handover to MENU, of the target in QUIET it sets the follow-on, and
of an origin it changes nothing (R168 to R170). -/
def State.bayLost (s : State) (b : Bay) (c : LossCause) : State :=
  match s.stage with
  | .menu => s
  | .play k => if k = b then s.begin .menu (.loss c) else s
  | .handover r => if r.target = .bay b ∧ r.phase = .quiet then s.setRecord (r.lose c) else s

/-- The cut of the current target to COOLING by a crash (R157 to R159, R170); in CLASS the report may come behind a settle
expiry that has made the cut to BLANK (log entry 39). -/
def State.targetCools (s : State) (b : Bay) : State :=
  match s.stage with
  | .menu => s
  | .play _ => s
  | .handover r =>
    if r.target = .bay b then
      match r.phase with
      | .release => s
      | .power => s
      | .classChange => s.withdrawCut.setRecord { r with phase := .power }
      | .quiet => s.setRecord (r.lose .lost)
    else s

/-! ## Menu requests and SELECT (R163, R166) -/

/-- A follow-on asked for by the menu switch in QUIET; a loss cause is kept (R166). -/
def HandoverRecord.askMenu (r : HandoverRecord) : HandoverRecord :=
  match r.followOn with
  | some (.loss _) => r
  | some .menuSwitch => r
  | none => { r with followOn := some .menuSwitch }

/-- A menu request (R166). -/
def State.menuRequest (s : State) : State :=
  match s.stage with
  | .menu => s
  | .play _ => s.begin .menu .menuSwitch
  | .handover r =>
    match r.target with
    | .menu => s
    | .bay _ => if r.phase = .quiet then s.setRecord r.askMenu else s.retarget r .menu .menuSwitch

/-- Whether a SELECT's target is a bay that cannot be named (R163 test 2). -/
def State.unselectable (s : State) (t : Target) : Bool :=
  match t with
  | .menu => false
  | .bay b =>
    match (s.bay b).state with
    | .disabled | .faulted | .tripped => true
    | .off | .cooling | .starting | .booting | .running => false

/-- Whether a SELECT names the origin bay of a handover while it is not RUNNING (R163 test 6). -/
def State.deadOrigin (s : State) (r : HandoverRecord) (t : Target) : Bool :=
  match t with
  | .menu => false
  | .bay b => decide (r.origin = .bay b) && !s.isRunning b

/-- A SELECT, by the tests of R163 from the second on. -/
def State.askSelect (s : State) (l : Link) (t : Target) : State × Answer :=
  if s.unselectable t then (s, .nak .state)
  else
    match s.stage with
    | .menu => if t = .menu then (s, .nak .already) else (s.begin t (.select l), .ack [])
    | .play b => if t = .bay b then (s, .nak .already) else (s.begin t (.select l), .ack [])
    | .handover r =>
      if t = r.target then (s, .ack [])
      else if r.phase = .quiet then (s, .nak .busy)
      else if s.deadOrigin r t then (s, .nak .state)
      else (s.retarget r t (.select l), .ack [])

/-! ## Reports taken (R154, R155) -/

/-- A report taken by the block it is handed to. -/
def State.takeReport (s : State) (r : Report) : State :=
  match r with
  | .rampDone => s.rampDone
  | .cutDone src => s.cutDone src
  | .ready b => s.ready b
  | .failed b why => s.targetFailed b why
  | .loss b c => s.bayLost b c
  | .cutToCooling b => s.targetCools b
  | .quietGrant => s.quietGrant
  | .feederIdle b => s.feederIdle b

/-- Whether a bay is the target of a handover in CLASS. -/
def State.isCutTarget (s : State) (b : Bay) : Bool :=
  match s.stage with
  | .handover r => decide (r.phase = .classChange) && decide (r.target = .bay b)
  | .menu => false
  | .play _ => false

/-- Whether another event that falls together with a report's may be taken between the two: with the LOSS of the active bay
in PLAY (R107, R171), and with the cut of a target's power in CLASS (R152, R159). R155 has each report taken in the event
that makes it: that both orders are runs is the model's choice (log entry 39). -/
def State.mayWait (s : State) (r : Report) : Bool :=
  match r with
  | .loss b _ => s.isActive b
  | .failed b _ => s.isCutTarget b
  | .cutToCooling b => s.isCutTarget b
  | .rampDone => false
  | .cutDone _ => false
  | .ready _ => false
  | .quietGrant => false
  | .feederIdle _ => false

/-- A report taken in the event that makes it, or left for the next event where another may come between (log entry 39). -/
def State.takeOrLeave (s : State) (r : Report) : State :=
  if s.mayWait r then
    if Config.firstActsFirst s.choices then s.drawn.takeReport r else s.drawn.setLate (some r)
  else s.takeReport r

/-- The reports of an event taken one after another, first in first out (log entry 7). -/
def State.drainWith (s : State) : Nat → State
  | 0 => s.setReports []
  | fuel + 1 =>
    match s.reports with
    | [] => s
    | r :: rest => ((s.setReports rest).takeOrLeave r).drainWith fuel

/-- The report that an earlier event has left taken (log entry 39). -/
def State.takeLate (s : State) : State :=
  match s.late with
  | none => s
  | some r => (s.setLate none).takeReport r

/-- The end of an event: a report left by an earlier one is taken, then the event's own (R155, log entries 7 and 39). -/
def State.drain (s : State) : State := s.takeLate.drainWith Config.reportFuel

end Sys2Proof.Machine
end

