-- ==== Sys2Proof/Machine/Requests.lean ====
section
/-! DEFINITION. What each request does when it is taken, by its owning rule's tests and effects, with its answer
(R189): credit, rulings, settings, the audit, STATUS and QUERY_BAY. -/

namespace Sys2Proof.Machine

/-- A request whose first argument is a bay: RANGE for a byte that names none (R189). -/
def State.withBay (s : State) (bay : Byte) (ask : Bay → State × Answer) : State × Answer :=
  match bayArg bay with
  | some b => ask b
  | none => (s, .nak .range)

/-! ## Coin intake and credit (R16, R21 to R23) -/

/-- The intake-open flag replaced. -/
def State.setIntakeOpen (s : State) (v : Bool) : State := s.setFlags { s.flags with intakeOpen := v }

/-- SET_INTAKE (R16). -/
def State.askSetIntake (s : State) (value : Byte) : State × Answer :=
  match boolArg value with
  | none => (s, .nak .range)
  | some v => if s.flags.intakeOpen = v then (s, .ack []) else ((s.setIntakeOpen v).evalClosure, .ack [])

/-- A TRIPPED coil let go by ARM_COILS (R21). -/
def Coil.armed (k : Coil) : Coil :=
  match k with
  | .tripped => .off
  | .off => .off
  | .pullIn n => .pullIn n
  | .hold => .hold

/-- The coil fault latch cleared, with the coils leaving TRIPPED (R21). -/
def State.armCoils (s : State) : State :=
  ((s.setIntake { s.intake with faultLatch := false, coils := s.intake.coils.map Coil.armed }).followCoils).notifyIntake
    .coilsArmed none

/-- ARM_COILS (R21). -/
def State.askArmCoils (s : State) : State × Answer :=
  if s.pins.coilFault then (s, .nak .faultPresent)
  else if s.intake.faultLatch then (s.armCoils, .ack [])
  else (s, .ack [])

/-- GRANT (R22). -/
def State.askGrant (s : State) (n : Byte) : State × Answer :=
  match numberArg 1 16 n with
  | none => (s, .nak .range)
  | some k =>
    if s.store.free < k then (s, .nak .noRoom)
    else (((s.mint .grant none k).bump tokensGrantedIx k).storeChanged .grant k none, .ack [])

/-- WITHDRAW (R23). -/
def State.askWithdraw (s : State) (n : Byte) : State × Answer :=
  match numberArg 1 64 n with
  | none => (s, .nak .range)
  | some k =>
    if s.store.poolCount < k then (s, .nak .noCredit)
    else ((s.withdrawTokens k).storeChanged .withdraw k none, .ack [])

/-! ## TRANSFER and rulings (R34, R59, R60) -/

/-- TRANSFER of a number in range to a bay, by the tests of R34 from the second on. -/
def State.transfer (s : State) (b : Bay) (k : Nat) : State × Answer :=
  if !s.isRunning b then (s, .nak .state)
  else if (s.profile b).play.payMode = .freePlay then (s, .nak .state)
  else if s.store.poolCount < s.drawSize b k then (s, .nak .noCredit)
  else if (s.feeder b).free < k then (s, .nak .queueFull)
  else ((s.drawUnits b .transfer k).arbitrate, .ack [])

/-- TRANSFER (R34). -/
def State.askTransfer (s : State) (bay n : Byte) : State × Answer :=
  match bayArg bay, numberArg 1 8 n with
  | some b, some k => s.transfer b k
  | _, _ => (s, .nak .range)

/-- A ruling on a bay's doubt unit (R59, R60): taken in HELD, BUSY while its pulse is in TRAIL. -/
def State.rule (s : State) (b : Bay) (settle : CoinUnit → State) : State × Answer :=
  match (s.feeder b).slot with
  | none => (s, .nak .noDoubt)
  | some k =>
    if k.status = .doubt then
      if (s.feeder b).held.isSome then (s, .nak .busy) else (settle k, .ack [])
    else (s, .nak .noDoubt)

/-- VOID_DOUBT (R59). -/
def State.askVoid (s : State) (bay : Byte) : State × Answer := s.withBay bay fun b => s.rule b fun k => s.voidUnit b k

/-- REFUND_DOUBT (R60). -/
def State.askRefund (s : State) (bay : Byte) : State × Answer :=
  s.withBay bay fun b => s.rule b fun k => s.refundUnit b k

/-! ## Bay profiles (R79 to R83) -/

/-- A profile with one group replaced by the fields supplied; none when one is out of range or the group's cross-field
condition fails (R81). -/
def Profile.withGroup (p : Profile) (g : ProfileGroup) (fields : List Byte) : Option Profile :=
  match g with
  | .general => ((generalArg fields).filter GeneralGroup.valid).map fun x => { p with general := x }
  | .coin => ((coinArg fields).filter CoinGroup.valid).map fun x => { p with coin := x }
  | .play => ((playArg fields).filter PlayGroup.valid).map fun x => { p with play := x }
  | .lines => (linesArg fields).map fun x => { p with lines := x }

/-- The fields of one group of a profile (R83). -/
def Profile.groupBytes (p : Profile) (g : ProfileGroup) : List Byte :=
  match g with
  | .general => p.general.bytes
  | .coin => p.coin.bytes
  | .play => p.play.bytes
  | .lines => linesBytes p.lines

/-- Whether a bay's profile and route map may be written: OFF, DISABLED or FAULTED, its feeder IDLE (R80, R87). -/
def State.writable (s : State) (b : Bay) : Bool :=
  (match (s.bay b).state with
    | .off | .disabled | .faulted => true
    | .cooling | .starting | .booting | .running | .tripped => false) && decide ((s.feeder b).state = .idle)

/-- A bay's profile replaced. -/
def State.setProfile (s : State) (b : Bay) (p : Profile) : State :=
  s.setTables { s.tables with profiles := s.tables.profiles.set b p }

/-- WRITE_PROFILE to a bay and a group, by the tests of R80 from the second on. -/
def State.writeProfile (s : State) (b : Bay) (g : ProfileGroup) (fields : List Byte) : State × Answer :=
  if s.tables.lock ≠ .opened then (s, .nak .locked)
  else if !s.writable b then (s, .nak .busy)
  else
    match (s.profile b).withGroup g fields with
    | some p => (s.setProfile b p, .ack [])
    | none => (s, .nak .range)

/-- WRITE_PROFILE (R79, R80). -/
def State.askWriteProfile (s : State) (bay group : Byte) (fields : List Byte) : State × Answer :=
  match bayArg bay, profileGroupArg group with
  | some b, some g => s.writeProfile b g fields
  | _, _ => (s, .nak .range)

/-- READ_PROFILE (R83). -/
def State.askReadProfile (s : State) (bay group : Byte) : State × Answer :=
  match bayArg bay, profileGroupArg group with
  | some b, some g => (s, .ack ((s.profile b).groupBytes g))
  | _, _ => (s, .nak .range)

/-! ## Route maps (R86 to R88) -/

/-- The list a WRITE_ROUTES results in (R87). -/
def writtenRoutes (old : List Route) (start : Nat) (truncate : Bool) (entries : List Route) : List Route :=
  old.take start ++ entries ++ (if truncate then [] else old.drop (start + entries.length))

/-- A bay's route map replaced. -/
def State.setRoutes (s : State) (b : Bay) (m : List Route) : State :=
  s.setTables { s.tables with routes := s.tables.routes.set b m }

/-- WRITE_ROUTES to a bay, by the tests of R87 from the second on. -/
def State.writeRoutes (s : State) (b : Bay) (start : Nat) (truncate : Bool) (entries : List Byte) : State × Answer :=
  if s.tables.lock ≠ .opened then (s, .nak .locked)
  else if !s.writable b then (s, .nak .busy)
  else if (s.routeMap b).length < start then (s, .nak .range)
  else
    match routesArg entries with
    | none => (s, .nak .range)
    | some es =>
      let m := writtenRoutes (s.routeMap b) start truncate es
      if routeMapValid m then (s.setRoutes b m, .ack []) else (s, .nak .range)

/-- WRITE_ROUTES (R87). -/
def State.askWriteRoutes (s : State) (bay start truncate count : Byte) (entries : List Byte) : State × Answer :=
  match bayArg bay, boolArg truncate, numberArg 1 18 count with
  | some b, some t, some _ => s.writeRoutes b start.toNat t entries
  | _, _, _ => (s, .nak .range)

/-- The bytes of `count` entries of a list from `start` on, going round (R88). -/
def readRoutes (m : List Route) (start count : Nat) : List Byte :=
  (List.range count).flatMap fun k => ((m[(start + k) % m.length]?).map Route.bytes).getD []

/-- READ_ROUTES (R88). -/
def State.askReadRoutes (s : State) (bay start count : Byte) : State × Answer :=
  match bayArg bay, numberArg 1 18 count with
  | some b, some n =>
    let m := s.routeMap b
    if m.length ≤ start.toNat then (s, .nak .range)
    else (s, .ack (byteOf m.length :: readRoutes m start.toNat n))
  | _, _ => (s, .nak .range)

/-! ## The cabinet record and the lock (R89 to R94) -/

/-- The cabinet record replaced. -/
def State.setCabinet (s : State) (c : Cabinet) : State := s.setTables { s.tables with cabinet := c }

/-- The cabinet record with one group replaced by the fields supplied, none when they fail the group's conditions
(R90 to R92). -/
def Cabinet.withGroup (c : Cabinet) (g : CabinetGroup) (fields : List Byte) : Option Cabinet :=
  match g with
  | .chutes => ((chutesArg fields).filter chutesValid).map fun x => { c with chutes := x }
  | .panel => ((panelArg fields).filter PanelGroup.valid).map fun x => { c with panel := x }
  | .system => ((systemArg fields).filter SystemGroup.valid).map fun x => { c with system := x }

/-- Every chute's part of a chutes-group write, `was` being the configuration before it (R6). -/
def State.applyChutes (s : State) (was : Vector ChuteConfig 4) : State :=
  allChutes.foldl (fun s c => s.applyChute was[c].enabled c) s

/-- What a taken write of a group does beyond the record, closure and notices (R6, R19, R91). -/
def State.applyCabinet (s : State) (g : CabinetGroup) (was : Cabinet) : State :=
  match g with
  | .chutes => s.applyChutes was.chutes
  | .panel => s
  | .system => s.setIntake { s.intake with pendingDuty := s.tables.cabinet.system.holdDuty }

/-- INTAKE (JAMMED) for each chute that a chutes-group write jams, A first (R17, log entry 32). That these notices are sent
at all is the model's choice: R17 has them, and R89 has every INTAKE notice of a write come from the closure evaluation (log
entry 38). -/
def State.tellJams (s : State) (g : CabinetGroup) (was : Cabinet) : State :=
  match g with
  | .chutes =>
    (allChutes.filter fun c => s.jamsAtWrite was.chutes[c].enabled c).foldl (fun s c => s.notifyIntake .jammed (some c)) s
  | .panel => s
  | .system => s

/-- The cabinet record replaced by a taken write: the chutes and the duty take it, closure is re-evaluated, and the
INTAKE notices, which all give intake as the write leaves it, are JAMMED before CLOSED or OPENED (R6, R15, R17, log entry
32). -/
def State.takeCabinet (s : State) (g : CabinetGroup) (c : Cabinet) : State :=
  ((((s.setCabinet c).applyCabinet g s.tables.cabinet).settleClosure).tellJams g s.tables.cabinet).tellClosure
    s.intake.closed

/-- WRITE_CABINET of a group, by the tests of R89 from the second on. -/
def State.writeCabinet (s : State) (g : CabinetGroup) (fields : List Byte) : State × Answer :=
  if s.tables.lock ≠ .opened then (s, .nak .locked)
  else if s.stage ≠ .menu then (s, .nak .busy)
  else
    match s.tables.cabinet.withGroup g fields with
    | none => (s, .nak .range)
    | some c =>
      if c.system.budget < s.committedLoad ∧ g = .system then (s, .nak .state)
      else (s.takeCabinet g c, .ack [])

/-- WRITE_CABINET (R89). -/
def State.askWriteCabinet (s : State) (group : Byte) (fields : List Byte) : State × Answer :=
  match cabinetGroupArg group with
  | some g => s.writeCabinet g fields
  | none => (s, .nak .range)

/-- The fields of one group of the cabinet record; those of the system group are followed by the intake-open flag
(R93). -/
def State.cabinetBytes (s : State) (g : CabinetGroup) : List Byte :=
  match g with
  | .chutes => chutesBytes s.tables.cabinet.chutes
  | .panel => s.tables.cabinet.panel.bytes
  | .system => s.tables.cabinet.system.bytes ++ [boolByte s.flags.intakeOpen]

/-- READ_CABINET (R93). -/
def State.askReadCabinet (s : State) (group : Byte) : State × Answer :=
  match cabinetGroupArg group with
  | some g => (s, .ack (s.cabinetBytes g))
  | none => (s, .nak .range)

/-- SET_LOCK (R94). -/
def State.askSetLock (s : State) (lock : Byte) : State × Answer :=
  match lockArg lock with
  | none => (s, .nak .range)
  | some k =>
    if s.tables.lock = .fixed then (s, .nak .locked) else (s.setTables { s.tables with lock := k }, .ack [])

/-! ## The audit (R177 to R179) -/

/-- The snapshot a LATCH takes (R177). -/
def State.snapshotNow (s : State) (l : Link) : Snapshot where
  owner := l
  counters := s.audit.counters
  live := s.store.live
  pool := s.store.poolCount

/-- LATCH; the indication is COPIED as 00h or IGNORED as 01h (R177). -/
def State.askLatch (s : State) (l : Link) : State × Answer :=
  match s.snapshot with
  | none => (s.setSnapshot (some (s.snapshotNow l)), .ack [0x00])
  | some k => if k.owner = l then (s, .ack [0x01]) else (s, .nak .snapshotBusy)

/-- The counters of a range, three bytes each in index order. -/
def counterBytes (counters : Vector Nat 50) (first last : Nat) : List Byte :=
  ((counters.toList.drop first).take (last + 1 - first)).flatMap threeBytes

/-- The snapshot a read on a link is answered from: its own (R178). -/
def State.ownSnapshot (s : State) (l : Link) : Option Snapshot := s.snapshot.filter fun k => decide (k.owner = l)

/-- The reply data of a counter read; the source is SNAPSHOT as 00h or LIVE as 01h (R178). -/
def State.counterRecord (s : State) (l : Link) (first last : Nat) : List Byte :=
  match s.ownSnapshot l with
  | some k => 0x00 :: byteOf k.live :: byteOf k.pool :: counterBytes k.counters first last
  | none => 0x01 :: byteOf s.store.live :: byteOf s.store.poolCount :: counterBytes s.audit.counters first last

/-- Whether READ_COUNTERS takes a range (R178). -/
def counterRange (first last : Byte) : Bool :=
  decide (first.toNat ≤ last.toNat) && decide (last.toNat ≤ 49) && decide (last.toNat - first.toNat ≤ 11)

/-- READ_COUNTERS (R178). -/
def State.askReadCounters (s : State) (l : Link) (first last : Byte) : State × Answer :=
  if counterRange first last then (s, .ack (s.counterRecord l first.toNat last.toNat)) else (s, .nak .range)

/-- FREE_SNAPSHOT (R179). -/
def State.askFreeSnapshot (s : State) (l : Link) : State × Answer :=
  match s.ownSnapshot l with
  | some _ => (s.setSnapshot none, .ack [])
  | none => (s, .nak .state)

/-! ## STATUS and QUERY_BAY (R191, R192) -/

/-- The stage's fields of the status record: the stage, the active bay, the target and the phase (R191). -/
def Stage.bytes (g : Stage) : List Byte :=
  match g with
  | .menu => [0x00, 0xFF, 0xFF, 0xFF]
  | .handover r => [0x01, 0xFF, r.target.code, r.phase.code]
  | .play b => [0x02, bayByte b, 0xFF, 0xFF]

/-- The snapshot's fields of the status record: EMPTY or FULL, and the owner (R191). -/
def snapshotBytes (k : Option Snapshot) : List Byte :=
  match k with
  | none => [0x00, 0xFF]
  | some k => [0x01, linkByte k.owner]

/-- The status record (R191). -/
def State.statusRecord (s : State) (l : Link) : List Byte :=
  s.stage.bytes
    ++ [byteOf s.store.live, byteOf s.store.poolCount, byteOf s.store.free]
    ++ s.intakeView.bytes
    ++ [s.monitor.source.code, s.monitor.lineClass.code, boolByte s.monitor.settle.isSome]
    ++ snapshotBytes s.snapshot
    ++ [boolByte s.audit.full, boolByte (s.link l).overrun, s.tables.lock.code, boolByte (!s.key.closed)]

/-- STATUS: the record, with the requesting link's overrun flag cleared (R191). -/
def State.askStatus (s : State) (l : Link) : State × Answer := (s.clearOverrun l, .ack (s.statusRecord l))

/-- The carry the gate holds for a bay (R77). -/
def State.carryFor (s : State) (b : Bay) : Nat := if s.gate.bay = some b then s.gate.carry else 0

/-- The bay record (R192). -/
def State.bayRecord (s : State) (b : Bay) : List Byte :=
  let p := s.bay b
  let c := s.checker b
  let f := s.feeder b
  [boolByte s.flags.enabled[b], p.state.code, byteOf p.attempts, optByte byteOf (s.warmPosition b),
    c.state.code, optByte MeasuredClass.code c.measured]
    ++ twoBytes (rateTenths c.rate)
    ++ [f.state.code, byteOf f.queue.length, boolByte f.hasDoubt, byteOf (s.carryFor b)]

/-- QUERY_BAY (R192). -/
def State.askQueryBay (s : State) (bay : Byte) : State × Answer := s.withBay bay fun b => (s, .ack (s.bayRecord b))

/-! ## Every request -/

/-- POWER_BAY: RANGE for a second argument that is neither on nor off (R189, R123, R124). -/
def State.askPower (s : State) (bay onOff : Byte) : State × Answer :=
  match bayArg bay, boolArg onOff with
  | some b, some v => if v then s.askPowerOn b else s.askPowerOff b
  | _, _ => (s, .nak .range)

/-- SELECT (R163). -/
def State.askSelectByte (s : State) (l : Link) (target : Byte) : State × Answer :=
  match targetArg target with
  | some t => s.askSelect l t
  | none => (s, .nak .range)

/-- A request handed to the block that owns the state it names (R185, R189); RESTART is only acknowledged here
(R193). -/
def State.perform (s : State) (l : Link) (r : Request) : State × Answer :=
  match r with
  | .status => s.askStatus l
  | .select t => s.askSelectByte l t
  | .transfer b n => s.askTransfer b n
  | .voidDoubt b => s.askVoid b
  | .queryBay b => s.askQueryBay b
  | .latch => s.askLatch l
  | .readCounters x y => s.askReadCounters l x y
  | .freeSnapshot => s.askFreeSnapshot l
  | .readProfile b g => s.askReadProfile b g
  | .writeProfile b g f => s.askWriteProfile b g f
  | .readRoutes b start n => s.askReadRoutes b start n
  | .writeRoutes b start t n e => s.askWriteRoutes b start t n e
  | .readCabinet g => s.askReadCabinet g
  | .writeCabinet g f => s.askWriteCabinet g f
  | .setLock k => s.askSetLock k
  | .enableBay b => s.withBay b s.askEnable
  | .disableBay b => s.withBay b s.askDisable
  | .powerBay b v => s.askPower b v
  | .armBay b => s.withBay b s.askArm
  | .clearFault b => s.withBay b s.askClear
  | .armCoils => s.askArmCoils
  | .setIntake v => s.askSetIntake v
  | .grant n => s.askGrant n
  | .withdraw n => s.askWithdraw n
  | .refundDoubt b => s.askRefund b
  | .restart => (s, .ack [])

end Sys2Proof.Machine
end

