-- ==== Sys2Proof/WellFormed.lean ====
section
/-! DEFINITION. When a request suits the frame that would carry it: the payload lengths of R184 and R185. -/

namespace Sys2Proof

/-- The length of the arguments that come before the run whose length varies. -/
def lengthSuits (required : Option Nat) (actual fixed : Nat) : Bool :=
  match required with
  | some n => actual == n
  | none => decide (actual + fixed ≤ Config.payloadMax)

/-- A request that some frame can carry: its varying run has the length that test 4 of R185 requires, or, where that
test is passed unread, its payload is at most 60 bytes long (R181). -/
def Request.wf : Request → Bool
  | .writeProfile _ g fields => lengthSuits (profileGroupLength g) fields.length 2
  | .writeRoutes _ _ _ n entries => lengthSuits (routeEntriesLength n) entries.length 4
  | .writeCabinet g fields => lengthSuits (cabinetGroupLength g) fields.length 1
  | .status | .select _ | .transfer _ _ | .voidDoubt _ | .queryBay _ | .latch | .readCounters _ _ | .freeSnapshot
  | .readProfile _ _ | .readRoutes _ _ _ | .readCabinet _ | .setLock _ | .enableBay _ | .disableBay _
  | .powerBay _ _ | .armBay _ | .clearFault _ | .armCoils | .setIntake _ | .grant _ | .withdraw _
  | .refundDoubt _ | .restart => true

/-- The link and the request of a command that is one, and none of any other command. -/
def Instr.request? : Instr → Option (Link × Request)
  | .setIntake l v => some (l, .setIntake v)
  | .armCoils l => some (l, .armCoils)
  | .grant l n => some (l, .grant n)
  | .withdraw l n => some (l, .withdraw n)
  | .transfer l b n => some (l, .transfer b n)
  | .voidDoubt l b => some (l, .voidDoubt b)
  | .refundDoubt l b => some (l, .refundDoubt b)
  | .writeProfile l b g f => some (l, .writeProfile b g f)
  | .readProfile l b g => some (l, .readProfile b g)
  | .writeRoutes l b s t n e => some (l, .writeRoutes b s t n e)
  | .readRoutes l b s n => some (l, .readRoutes b s n)
  | .writeCabinet l g f => some (l, .writeCabinet g f)
  | .readCabinet l g => some (l, .readCabinet g)
  | .setLock l v => some (l, .setLock v)
  | .powerBayOn l b => some (l, .powerBay b 1)
  | .powerBayOff l b => some (l, .powerBay b 0)
  | .armBay l b => some (l, .armBay b)
  | .clearFault l b => some (l, .clearFault b)
  | .disableBay l b => some (l, .disableBay b)
  | .enableBay l b => some (l, .enableBay b)
  | .select l t => some (l, .select t)
  | .latch l => some (l, .latch)
  | .readCounters l x y => some (l, .readCounters x y)
  | .freeSnapshot l => some (l, .freeSnapshot)
  | .status l => some (l, .status)
  | .queryBay l b => some (l, .queryBay b)
  | .restart l => some (l, .restart)
  | .partReset _ | .coinActiveEdge _ | .coinRelease _ _ | .maxTimerExpiry _ | .jamReleaseExpiry _ | .pullInExpiry _
  | .pwmPeriodBoundary | .coilFault _ | .leadEnd _ | .activeEnd _ | .trailEnd _ | .meterActiveEdge _ _
  | .meterRelease _ _ | .echo _ _ | .echoWindowExpiry _ | .startWidthExpiry | .firstCompleteDebounce _ _ _ _
  | .switchEvent _ _ | .menuHoldExpiry | .routePulseExpiry _ _ | .quietExpiry | .resetHoldExpiry _
  | .bootLimitExpiry _ | .coolingExpiry _ | .overcurrent _ _ | .fieldSyncPulse _ _ _ | .fieldGapExpiry _
  | .settleExpiry | .audioRampEnd | .frameEnd _ _ | .frameGapTimeout _ | .stopBitError _ | .replySent _ _
  | .noticeSent _ | .serviceKeyChange _ | .byteReceived _ _ => none

/-- A command is well formed when it is an event, or a request that a frame can carry. -/
def Instr.wf (i : Instr) : Bool :=
  match i.request? with
  | some (_, r) => r.wf
  | none => true

end Sys2Proof
end

