-- ==== Sys2Proof/Machine/Linking.lean ====
section
/-! DEFINITION. The part reset (R97 and the Part Reset sections of the chapters) and the two links (11): receiving a
byte, judging a frame, the pending request and its reply, the busy refusal and the transmitter. -/

namespace Sys2Proof.Machine

/-! ## Part reset -/

/-- A chute as a part reset sets it (R1). -/
def State.resetChute (s : State) (t : Tables) (c : Chute) : ChuteRecord :=
  .fresh (chuteStart t.cabinet.chutes[c].enabled s.pins.coin[c])

/-- Coin intake before closure is evaluated: every coil OFF, the latch clear, the duty the retained one (R1, R18 to
R20, R24). -/
def State.resetIntake (s : State) (t : Tables) : Intake where
  chutes := Vector.ofFn (s.resetChute t)
  coils := Vector.replicate 4 .off
  faultLatch := false
  activeDuty := t.cabinet.system.holdDuty
  pendingDuty := t.cabinet.system.holdDuty
  closed := false

/-- A bay as a part reset sets it (R137). -/
def resetBay (t : Tables) (f : RetainedFlags) (b : Bay) : BayPower where
  state := if f.enabled[b] then .off else .disabled
  attempts := t.profiles[b].general.attempts
  deferred := none
  releasePending := false
  timer := none

/-- The Crosspoint after a part reset: MENU at the menu class, the gain rising from 0 (R145, R147). -/
def resetMonitor (t : Tables) : Crosspoint :=
  Crosspoint.rampUp
    { source := .menu, lineClass := t.cabinet.system.menuClass, settle := none, audio := .muted, gain := 0, ramp := 0,
      cut := none } t.cabinet.system.ramp

/-- Every block at its reset values over the retained items given; the lines, the free-order counter and the commands
that wait are not the part's to reset (R24, R47, R65, R67, R97, R114, R137, R140, R173, R177, R193). -/
def State.blocksReset (s : State) (t : Tables) (f : RetainedFlags) (k : TokenStore) (a : Audit) : State where
  pins := s.pins
  intake := s.resetIntake t
  store := k
  feeders := Vector.replicate 8 Feeder.fresh
  pulses := PulseBank.fresh
  filters := Vector.replicate 8 BayFilters.fresh
  gate := Gate.fresh
  tables := t
  flags := f
  panel := Panel.fresh
  routing := Routing.fresh
  power := { bays := Vector.ofFn (resetBay t f), warm := [], protectedSet := [] }
  checkers := Vector.replicate 8 Checker.fresh
  monitor := resetMonitor t
  stage := .menu
  audit := a
  snapshot := none
  links := { selector := LinkState.fresh, service := LinkState.fresh }
  key := { closed := false, count := 0 }
  reports := []
  late := none
  choices := s.choices
  pending := s.pending

/-- The retained items a part reset starts from: the ones kept with every token back in the pool, or the factory
defaults together (R24, R25, R97, R175). -/
def State.retainedReset (s : State) (valid : Bool) : State :=
  if valid then s.blocksReset s.tables s.flags s.store.allToPool s.audit
  else s.blocksReset Tables.factory RetainedFlags.factory TokenStore.factory Audit.factory

/-- A part reset; `intact` is what the retained store's own integrity check finds (R97). Closure is evaluated without
a notice, STAGE (RESTART) is the first notice, and a coil fault present trips at once (R20, R24, R173, R193). The notice is
queued and begun within this event, so that no frame comes before it, as R193 would allow (log entry 41). -/
def State.partReset (s : State) (intact : Bool) : State :=
  let valid := intact && s.tables.valid
  ((s.retainedReset valid).settleClosure.notify (.stageRestart valid)).coilFaultTrip

/-! ## The receiver (R182) -/

/-- A link's receiver replaced. -/
def State.setRx (s : State) (l : Link) (r : Receiver) : State := s.setLink l { s.link l with rx := r }

/-! ## Pending requests and replies (R186 to R188) -/

/-- Whether a link holds a pending request, the busy-refusal mark counted (R186). -/
def LinkState.busy (k : LinkState) : Bool := k.pending.isSome || k.mark.isSome

/-- A frame that ends on a busy link: discarded, with the mark set when it is clear (R186). -/
def State.busyDiscard (s : State) (l : Link) (typ : Byte) : State :=
  match (s.link l).mark with
  | some _ => s
  | none => s.setLink l { s.link l with mark := some typ }

/-- A frame that has ended becomes the link's pending request (R185). -/
def State.setPendingRequest (s : State) (l : Link) (typ : Byte) : State :=
  s.setLink l { s.link l with pending := some { typ := typ, waiting := none, after := .nothing } }

/-- The reply frame of an answer (R188). -/
def Answer.reply (a : Answer) (typ : Byte) : Reply :=
  match a with
  | .ack data => .ack typ data
  | .nak r => .nak typ r

/-- The reply to a pending request, taken by the transmitter when it is idle (R188). -/
def State.reply (s : State) (l : Link) (typ : Byte) (a : Answer) (after : AfterReply) : State :=
  s.setLink l
    { s.link l with pending := some { typ := typ, waiting := some (a.reply typ), after := after } }.txNext

/-- A frame refused by the tests of R185. -/
def State.refuse (s : State) (l : Link) (typ : Byte) (r : NakReason) : State :=
  (s.setPendingRequest l typ).reply l typ (.nak r) .nothing

/-- Whether a link holds operator level: the service link while the service key is closed (R187). -/
def State.operatorLevel (s : State) (l : Link) : Bool := decide (l = .service) && s.key.closed

/-- Test 5 of R185. -/
def State.holdsLevel (s : State) (l : Link) (r : Request) : Bool := !r.operator || s.operatorLevel l

/-- What the end of a request's reply brings: an owner's read through index 49 empties the snapshot, and the ACK of a
RESTART is followed by a part reset (R178, R193). -/
def State.afterReply (s : State) (l : Link) (r : Request) : AfterReply :=
  match r with
  | .readCounters first last =>
    if counterRange first last && decide (last.toNat = 49) && (s.ownSnapshot l).isSome then .freeSnapshot else .nothing
  | .restart => .restart
  | .status | .select _ | .transfer _ _ | .voidDoubt _ | .queryBay _ | .latch | .freeSnapshot | .readProfile _ _
  | .readRoutes _ _ _ | .readCabinet _ | .writeProfile _ _ _ | .writeRoutes _ _ _ _ _ | .writeCabinet _ _ | .setLock _
  | .enableBay _ | .disableBay _ | .powerBay _ _ | .armBay _ | .clearFault _ | .armCoils | .setIntake _ | .grant _
  | .withdraw _ | .refundDoubt _ => .nothing

/-- A request taken: its change is made, with all it causes, before its reply is formed (R188). -/
def State.takeRequest (s : State) (l : Link) (r : Request) : State :=
  let done := (s.setPendingRequest l r.typ).perform l r
  done.1.drain.reply l r.typ done.2 (s.afterReply l r)

/-- A request that has passed tests 1 to 4, judged by test 5 (R185). -/
def State.judgeLevel (s : State) (l : Link) (r : Request) : State :=
  if s.holdsLevel l r then s.takeRequest l r else s.refuse l r.typ .level

/-- A request that arrives whole on a link, its receiver passed by (log entry 15): the busy rule, then tests 4 and 5
(R185, R186). -/
def State.command (s : State) (l : Link) (r : Request) : State :=
  if (s.link l).busy then s.busyDiscard l r.typ
  else if r.wf then s.judgeLevel l r
  else s.refuse l r.typ .format

/-! ## Frames (R182, R185) -/

/-- A frame that ends at its length byte (R182, R185 test 1). -/
def State.lengthError (s : State) (l : Link) : State :=
  if (s.link l).busy then s.busyDiscard l 0 else s.refuse l 0 .format

/-- Tests 3 to 5 on a frame whose check is right (R185). -/
def State.judgeFrame (s : State) (l : Link) (typ : Byte) (payload : List Byte) : State :=
  match decodeRequest typ payload with
  | .unknown => s.refuse l typ .unknown
  | .format => s.refuse l typ .format
  | .request r => s.judgeLevel l r

/-- A frame complete with its check byte (R185, R186). -/
def State.frameComplete (s : State) (l : Link) (n typ : Byte) (payload : List Byte) (x : Byte) : State :=
  if (s.link l).busy then s.busyDiscard l typ
  else if x = frameCheck n typ payload then s.judgeFrame l typ payload
  else s.refuse l typ .check

/-- A byte received with its stop bit (R182). -/
def State.receive (s : State) (l : Link) (x : Byte) : State :=
  match (s.link l).rx with
  | .hunt => if x = 0xD5 then s.setRx l (.length 0) else s
  | .length _ => if x.toNat ≤ Config.payloadMax then s.setRx l (.typ x 0) else (s.setRx l .hunt).lengthError l
  | .typ n _ => s.setRx l (if n = 0 then .check n x [] 0 else .payload n x [] 0)
  | .payload n typ got _ =>
    s.setRx l (if got.length + 1 < n.toNat then .payload n typ (got ++ [x]) 0 else .check n typ (got ++ [x]) 0)
  | .check n typ got _ => (s.setRx l .hunt).frameComplete l n typ got x

/-- Whether a byte ends a frame in a receiver's state: the check byte, or a length byte above 60 (R185). -/
def Receiver.endsFrame (r : Receiver) (x : Byte) : Bool :=
  match r with
  | .check _ _ _ _ => true
  | .length _ => decide (Config.payloadMax < x.toNat)
  | .hunt => false
  | .typ _ _ => false
  | .payload _ _ _ _ => false

/-- A partial frame abandoned silently (R182). -/
def State.abandonFrame (s : State) (l : Link) : State := s.setRx l .hunt

/-! ## The transmitter (R186, R188, R190) -/

/-- The snapshot emptied if it is still the link's own (R178, R180). -/
def State.emptySnapshot (s : State) (l : Link) : State :=
  match s.ownSnapshot l with
  | some _ => s.setSnapshot none
  | none => s

/-- The pending request has had its reply, and the transmitter goes on (R186, R190). -/
def State.requestDone (s : State) (l : Link) : State :=
  s.setLink l { s.link l with tx := none, pending := none }.txNext

/-- The end of a reply's last byte, with what it brings (R178, R186, R193). -/
def State.replyDone (s : State) (l : Link) (p : PendingRequest) (intact : Bool) : State :=
  match p.after with
  | .nothing => s.requestDone l
  | .freeSnapshot => (s.emptySnapshot l).requestDone l
  | .restart => s.partReset intact

/-- The last byte of a reply or of a BUSY_LINK refusal has been sent (R186). -/
def State.replySent (s : State) (l : Link) (intact : Bool) : State :=
  match (s.link l).tx with
  | some (.reply _) =>
    match (s.link l).pending with
    | some p => s.replyDone l p intact
    | none => s.requestDone l
  | some (.busyLink _) => s.setLink l { s.link l with tx := none, mark := none }.txNext
  | some (.notice _) => s
  | none => s

/-- A notice frame has finished; a waiting reply or the oldest notice follows (R190). -/
def State.noticeSent (s : State) (l : Link) : State :=
  match (s.link l).tx with
  | some (.notice _) => s.setLink l { s.link l with tx := none }.txNext
  | some (.reply _) => s
  | some (.busyLink _) => s
  | none => s

/-! ## The service key (R187) -/

/-- The service key's debounced level changes to the level its input has held (R187). -/
def State.keyChange (s : State) (closed : Bool) : State :=
  (s.setPins { s.pins with key := closed }).setKey { closed := closed, count := 0 }

end Sys2Proof.Machine
end

