-- ==== Sys2Proof/Machine/Audit.lean ====
section
/-! DEFINITION. The meanings of the audit requests (10). -/

namespace Sys2Proof.Machine

/-- LATCH (R177). -/
def execLatch (l : Link) (s : State) : Result := .next (s.command l (.latch))

/-- READ_COUNTERS (R178). -/
def execReadCounters (l : Link) (first last : Byte) (s : State) : Result := .next (s.command l (.readCounters first last))

/-- FREE_SNAPSHOT (R179). -/
def execFreeSnapshot (l : Link) (s : State) : Result := .next (s.command l (.freeSnapshot))

end Sys2Proof.Machine
end

