-- ==== Sys2Proof/Machine/Coin.lean ====
section
/-! DEFINITION. The meanings of the coin intake commands (01). -/

namespace Sys2Proof.Machine

/-- A coin input set to a level. -/
def State.setCoinPin (s : State) (c : Chute) (v : Bool) : State := s.setPins { s.pins with coin := s.pins.coin.set c v }

/-- A pulse that begins in IDLE: the limits and the weight captured, the width count 0 (R2). -/
def State.startCoin (s : State) (c : Chute) : State :=
  let g := s.chuteConfig c
  s.setChute c { s.chute c with
    state := .inCoin, width := 0, minWidth := g.minWidth, maxWidth := g.maxWidth, weight := g.weight }

/-- An active edge of a coin input, by the chute's state (R2, R5). -/
def State.coinEdge (s : State) (c : Chute) : State :=
  match (s.chute c).state with
  | .idle => s.startCoin c
  | .jammed => s.setChute c { s.chute c with jamCount := 0 }
  | .inCoin => s
  | .disabled => s

/-- COIN_ACTIVE_EDGE (R2, R5). -/
def execCoinActiveEdge (c : Chute) (s : State) : Result := .next ((s.setCoinPin c true).coinEdge c)

/-- A pulse of the given width that ends by the release: noise below the captured min width, else a valid coin (R3). -/
def State.judgeCoin (s : State) (c : Chute) (r : ChuteRecord) (width : Nat) : State :=
  if width < r.minWidth then s else s.validCoin c r.weight

/-- The release of an IN_COIN chute's input after `held` ms more; a pulse held past its max width has jammed before
(R3, R4, log entry 12). -/
def State.coinReleased (s : State) (c : Chute) (held : Nat) : State :=
  let r := s.chute c
  if r.maxWidth < r.width + held then s.jam c
  else (s.setChute c { r with state := .idle, width := r.width + held }).judgeCoin c r (r.width + held)

/-- COIN_RELEASE (R3). -/
def execCoinRelease (c : Chute) (held : Nat) (s : State) : Result :=
  let s := s.setCoinPin c false
  .next (if (s.chute c).state = .inCoin then s.coinReleased c held else s)

/-- MAX_TIMER_EXPIRY: an IN_COIN chute jams (R4). -/
def execMaxTimerExpiry (c : Chute) (s : State) : Result :=
  .next (if (s.chute c).state = .inCoin then s.jam c else s)

/-- A jam cleared (R5). -/
def State.clearJam (s : State) (c : Chute) : State :=
  ((s.setChute c { s.chute c with state := .idle, jamCount := 0 }).followCoils).notifyIntake .jamCleared (some c)

/-- JAM_RELEASE_EXPIRY: a JAMMED chute whose input is inactive returns to IDLE (R5). -/
def execJamReleaseExpiry (c : Chute) (s : State) : Result :=
  .next (if (s.chute c).state = .jammed ∧ s.pins.coin[c] = false then s.clearJam c else s)

/-- A coil whose PULL_IN has ended (R18). -/
def Coil.pulledIn (k : Coil) : Coil :=
  match k with
  | .pullIn _ => .hold
  | .off => .off
  | .hold => .hold
  | .tripped => .tripped

/-- PULL_IN_EXPIRY: HOLD at the start of a PWM period (R18). -/
def execPullInExpiry (c : Chute) (s : State) : Result :=
  .next (s.setIntake { s.intake with coils := s.intake.coils.set c s.intake.coils[c].pulledIn })

/-- PWM_PERIOD_BOUNDARY: the active hold duty takes the pending one (R19). -/
def execPwmPeriodBoundary (s : State) : Result :=
  .next (s.setIntake { s.intake with activeDuty := s.intake.pendingDuty })

/-- COIL_FAULT: the input takes a level, and an active one trips the coils while the latch is clear (R20). -/
def execCoilFault (active : Bool) (s : State) : Result :=
  .next (s.setPins { s.pins with coilFault := active }).coilFaultTrip

/-- SET_INTAKE (R16). -/
def execSetIntake (l : Link) (value : Byte) (s : State) : Result := .next (s.command l (.setIntake value))

/-- ARM_COILS (R21). -/
def execArmCoils (l : Link) (s : State) : Result := .next (s.command l (.armCoils))

/-- GRANT (R22). -/
def execGrant (l : Link) (n : Byte) (s : State) : Result := .next (s.command l (.grant n))

/-- WITHDRAW (R23). -/
def execWithdraw (l : Link) (n : Byte) (s : State) : Result := .next (s.command l (.withdraw n))

end Sys2Proof.Machine
end

