-- ==== Sys2Proof/Machine/Handover.lean ====
section
/-! DEFINITION. The meaning of SELECT (09). -/

namespace Sys2Proof.Machine

/-- SELECT (R163). -/
def execSelect (l : Link) (target : Byte) (s : State) : Result := .next (s.command l (.select target))

end Sys2Proof.Machine
end

