-- ==== Sys2Proof/Machine/Links.lean ====
section
/-! DEFINITION. The meanings of the link commands (11). -/

namespace Sys2Proof.Machine

/-- FRAME_END: the byte that ends a frame; a byte that ends none has no effect here (R185). -/
def execFrameEnd (l : Link) (x : Byte) (s : State) : Result :=
  .next (if (s.link l).rx.endsFrame x then s.receive l x else s)

/-- FRAME_GAP_TIMEOUT: a partial frame is abandoned silently (R182). -/
def execFrameGapTimeout (l : Link) (s : State) : Result := .next (s.abandonFrame l)

/-- STOP_BIT_ERROR: a partial frame is abandoned silently, and in HUNT the byte is discarded (R182). -/
def execStopBitError (l : Link) (s : State) : Result := .next (s.abandonFrame l)

/-- REPLY_SENT (R186). -/
def execReplySent (l : Link) (intact : Bool) (s : State) : Result := .next (s.replySent l intact)

/-- NOTICE_SENT (R190). -/
def execNoticeSent (l : Link) (s : State) : Result := .next (s.noticeSent l)

/-- SERVICE_KEY_CHANGE (R187). -/
def execServiceKeyChange (closed : Bool) (s : State) : Result := .next (s.keyChange closed)

/-- STATUS (R191). -/
def execStatus (l : Link) (s : State) : Result := .next (s.command l (.status))

/-- QUERY_BAY (R192). -/
def execQueryBay (l : Link) (bay : Byte) (s : State) : Result := .next (s.command l (.queryBay bay))

/-- RESTART (R193). -/
def execRestart (l : Link) (s : State) : Result := .next (s.command l (.restart))

/-- BYTE_RECEIVED (R182); the byte that ends a frame ends it here too (R185). -/
def execByteReceived (l : Link) (x : Byte) (s : State) : Result := .next (s.receive l x)

end Sys2Proof.Machine
end

