-- ==== Sys2Proof/Machine/Meter.lean ====
section
/-! DEFINITION. The meanings of the meter line commands and of the rulings on doubt (03). -/

namespace Sys2Proof.Machine

/-- A meter line set to a level. -/
def State.setMeterPin (s : State) (b : Bay) (m : CoinLine) (high : Bool) : State :=
  s.setPins { s.pins with
    meter := s.pins.meter.set b (match m with
      | .one => { s.pins.meter[b] with one := high }
      | .two => { s.pins.meter[b] with two := high }) }

/-- The level of a bay's meter line that is active, or inactive (R49). -/
def State.meterLevel (s : State) (b : Bay) (active : Bool) : Bool :=
  match (s.profile b).coin.polarity with
  | .activeLow => !active
  | .activeHigh => active

/-- A filter at an active edge of its line (R50). -/
def EchoFilter.edge (f : EchoFilter) : EchoFilter :=
  match f with
  | .ready => .counting 0
  | .dark => .dark
  | .counting n => .counting n
  | .waitRelease => .waitRelease

/-- A filter at an inactive level of its line (R50). -/
def EchoFilter.release (f : EchoFilter) : EchoFilter :=
  match f with
  | .ready => .ready
  | .dark => .dark
  | .counting _ => .ready
  | .waitRelease => .ready

/-- METER_ACTIVE_EDGE (R50). -/
def execMeterActiveEdge (b : Bay) (m : CoinLine) (s : State) : Result :=
  .next ((s.setMeterPin b m (s.meterLevel b true)).setFilter b m (s.filter b m).edge)

/-- METER_RELEASE (R50). -/
def execMeterRelease (b : Bay) (m : CoinLine) (s : State) : Result :=
  .next ((s.setMeterPin b m (s.meterLevel b false)).setFilter b m (s.filter b m).release)

/-- An echo behind the power loss it fell together with: the filter stays DARK, and the feeder, IDLE by then, judges it
(R46, R51). -/
def State.echoAfterLoss (s : State) (b : Bay) (m : CoinLine) : State :=
  let f := s.filters[b]
  if f.late.contains m then (s.setBayFilters b { f with late := f.late.erase m }).judgeEcho b m else s

/-- ECHO: a COUNTING filter gives its echo, which the feeder judges (R50, R51). -/
def execEcho (b : Bay) (m : CoinLine) (s : State) : Result :=
  match s.filter b m with
  | .counting _ => .next ((s.setFilter b m .waitRelease).judgeEcho b m).drain
  | .dark => .next (s.echoAfterLoss b m).drain
  | .ready => .next s
  | .waitRelease => .next s

/-- ECHO_WINDOW_EXPIRY (R56). -/
def execEchoWindowExpiry (b : Bay) (s : State) : Result := .next (s.windowExpires b).drain

/-- VOID_DOUBT (R59). -/
def execVoidDoubt (l : Link) (bay : Byte) (s : State) : Result := .next (s.command l (.voidDoubt bay))

/-- REFUND_DOUBT (R60). -/
def execRefundDoubt (l : Link) (bay : Byte) (s : State) : Result := .next (s.command l (.refundDoubt bay))

end Sys2Proof.Machine
end

