-- ==== Sys2Proof/Machine/Monitor.lean ====
section
/-! DEFINITION. The meanings of the sync checker and crosspoint commands (08). -/

namespace Sys2Proof.Machine

/-- A field measured (R139). -/
def Checker.measure (c : Checker) (lines length : Nat) : Checker :=
  { c with measured := some (fieldClass lines length), rate := some length, gap := 0 }

/-- A measured field judged in SEEKING: eight good ones in a row lock (R141). -/
def Checker.seekField (c : Checker) (good : Bool) : Checker :=
  if good then
    if Config.lockFields ≤ c.good + 1 then { c with state := .locked, good := Config.lockFields, bad := 0, gap := 0 }
    else { c with good := c.good + 1 }
  else { c with good := 0 }

/-- A measured field judged in LOCKED: four bad ones in a row lose lock (R142). -/
def Checker.holdField (c : Checker) (good : Bool) : Checker :=
  if good then { c with bad := 0 }
  else if Config.lostFields ≤ c.bad + 1 then { c with state := .lost, bad := Config.lostFields }
  else { c with bad := c.bad + 1 }

/-- A field that ends, judged by the checker's state (R139, R141 to R143). -/
def Checker.field (c : Checker) (k : LineClass) (lines length : Nat) : Checker :=
  match c.state with
  | .dark => c
  | .seeking => (c.measure lines length).seekField (fieldGood k lines length)
  | .locked => (c.measure lines length).holdField (fieldGood k lines length)
  | .lost => c.measure lines length

/-- What a checker that changes state reports (R141, R142). -/
def State.checkerReport (s : State) (b : Bay) (was : CheckerState) : State :=
  match was, (s.checker b).state with
  | .seeking, .locked => s.lockedReport b
  | .locked, .lost => s.lostReport b
  | _, _ => s

/-- A field sync pulse at a checker that examines sync: the first one begins a field, any other ends one (R139). -/
def State.fieldSync (s : State) (b : Bay) (lines length : Nat) : State :=
  let c := s.checker b
  if c.begun then (s.setChecker b (c.field (s.profile b).general.lineClass lines length)).checkerReport b c.state
  else s.setChecker b { c with begun := true, gap := 0 }

/-- FIELD_SYNC_PULSE (R139): it has no effect on a DARK checker (R140). -/
def execFieldSyncPulse (b : Bay) (lines length : Nat) (s : State) : Result :=
  .next (if (s.checker b).state = .dark then s else (s.fieldSync b lines length).drain)

/-- FIELD_GAP_EXPIRY: a LOCKED checker enters LOST and reports it (R142). -/
def execFieldGapExpiry (b : Bay) (s : State) : Result :=
  .next (if (s.checker b).state = .locked then
      ((s.setChecker b { s.checker b with state := .lost }).lostReport b).drain
    else s)

/-- SETTLE_EXPIRY: a running settle timer stops (R146, R149). -/
def execSettleExpiry (s : State) : Result :=
  .next (if s.monitor.settle.isSome then s.settleStops.drain else s)

/-- AUDIO_RAMP_END: a rising ramp reaches full, a falling ramp reaches 0 with RAMP_DONE (R147, R148). -/
def execAudioRampEnd (s : State) : Result :=
  match s.monitor.audio with
  | .rising => .next (s.setMonitor s.monitor.rampFull)
  | .falling => .next ((s.setMonitor s.monitor.mute).report .rampDone).drain
  | .muted => .next s
  | .full => .next s

end Sys2Proof.Machine
end

