-- ==== Sys2Proof/Machine/Panel.lean ====
section
/-! DEFINITION. The meanings of the panel scanner and route engine commands (06). -/

namespace Sys2Proof.Machine

/-- The contacts as the fourth scan read them; they stand where the scans are the part's own, for a contact may have
changed since its strobe's slot (log entry 3). -/
def State.debouncedContacts (s : State) (scans : List (BitVec 64)) (scan4 : BitVec 64) : BitVec 64 :=
  if s.panel.samples = scans then s.pins.panel else scan4

/-- FIRST_COMPLETE_DEBOUNCE, once after each part reset (R100). -/
def execFirstCompleteDebounce (scan1 scan2 scan3 scan4 : BitVec 64) (s : State) : Result :=
  let scans := [scan1, scan2, scan3, scan4]
  .next (if s.panel.settled then s
    else (s.setPins { s.pins with panel := s.debouncedContacts scans scan4 }).firstDebounce scans)

/-- A panel contact set. -/
def State.setContact (s : State) (w : Switch) (pressed : Bool) : State :=
  s.setPins { s.pins with
    panel := if pressed then s.pins.panel ||| BitVec.twoPow 64 w.val else s.pins.panel &&& ~~~(BitVec.twoPow 64 w.val) }

/-- Whether an edge leaves its switch pressed. -/
def edgePresses (e : Edge) : Bool :=
  match e with
  | .press => true
  | .release => false

/-- Whether a switch event changes a debounced state: not before the first complete debounce (R99, R100). -/
def State.eventCounts (s : State) (w : Switch) (e : Edge) : Bool :=
  s.panel.settled && decide (s.panel.pressed.contains w ≠ edgePresses e)

/-- SWITCH_EVENT (R99): the contact stands at the new level, and the Route Engine takes the event. -/
def execSwitchEvent (w : Switch) (e : Edge) (s : State) : Result :=
  let s := s.setContact w (edgePresses e)
  .next (if s.eventCounts w e then (s.takeSwitch w e).drain else s)

/-- MENU_HOLD_EXPIRY: a running menu-hold timer stops with one menu request (R103). -/
def execMenuHoldExpiry (s : State) : Result :=
  .next (if s.panel.menuHold.isSome then s.stopMenuHold.menuRequest.drain else s)

/-- ROUTE_PULSE_EXPIRY: the route's pulse timer expires (R106). -/
def execRoutePulseExpiry (w : Switch) (n : GeneralLine) (s : State) : Result :=
  .next (s.setRouting { s.routing with
    pulses := s.routing.pulses.filter fun p => !(decide (p.switch = w) && decide (p.line = n)) })

/-- QUIET_EXPIRY: a quiet wait that is WAITING expires (R112). -/
def execQuietExpiry (s : State) : Result :=
  .next (if s.routing.quiet.isSome then s.quietExpires.drain else s)

end Sys2Proof.Machine
end

