-- ==== Sys2Proof/Machine/Power.lean ====
section
/-! DEFINITION. The meanings of the bay power commands (07). -/

namespace Sys2Proof.Machine

/-- RESET_HOLD_EXPIRY: a STARTING bay enters BOOTING, or RUNNING (R117). -/
def execResetHoldExpiry (b : Bay) (s : State) : Result :=
  .next (if (s.bay b).state = .starting then (s.resetHoldEnds b).drain else s)

/-- BOOT_LIMIT_EXPIRY: a BOOTING bay crashes (R127). -/
def execBootLimitExpiry (b : Bay) (s : State) : Result :=
  .next (if (s.bay b).state = .booting then (s.crash b).drain else s)

/-- COOLING_EXPIRY (R119). -/
def execCoolingExpiry (b : Bay) (s : State) : Result :=
  .next (if (s.bay b).state = .cooling then (s.coolingEnds b).drain else s)

/-- OVERCURRENT: the input takes a level, and an active one trips a powered bay (R125). -/
def execOvercurrent (b : Bay) (active : Bool) (s : State) : Result :=
  let s := s.setPins { s.pins with overcurrent := s.pins.overcurrent.set b active }
  .next (if active && (s.bay b).state.powered then (s.trip b).drain else s)

/-- POWER_BAY on (R123). -/
def execPowerBayOn (l : Link) (bay : Byte) (s : State) : Result := .next (s.command l (.powerBay bay 0x01))

/-- POWER_BAY off (R124). -/
def execPowerBayOff (l : Link) (bay : Byte) (s : State) : Result := .next (s.command l (.powerBay bay 0x00))

/-- ARM_BAY (R126). -/
def execArmBay (l : Link) (bay : Byte) (s : State) : Result := .next (s.command l (.armBay bay))

/-- CLEAR_FAULT (R128). -/
def execClearFault (l : Link) (bay : Byte) (s : State) : Result := .next (s.command l (.clearFault bay))

/-- DISABLE_BAY (R129). -/
def execDisableBay (l : Link) (bay : Byte) (s : State) : Result := .next (s.command l (.disableBay bay))

/-- ENABLE_BAY (R130). -/
def execEnableBay (l : Link) (bay : Byte) (s : State) : Result := .next (s.command l (.enableBay bay))

end Sys2Proof.Machine
end

