-- ==== Sys2Proof/Machine/Pulse.lean ====
section
/-! DEFINITION. The meanings of TRANSFER and of the pulse units (02). -/

namespace Sys2Proof.Machine

/-- TRANSFER (R34). -/
def execTransfer (l : Link) (bay n : Byte) (s : State) : Result := .next (s.command l (.transfer bay n))


/-- LEAD_END: a pulse unit in LEAD enters ACTIVE (R36, R38). -/
def execLeadEnd (u : PulseId) (s : State) : Result :=
  match s.pulse u with
  | some p => .next (if p.phase = .lead then s.activeEdge u else s)
  | none => .next s

/-- ACTIVE_END: a pulse unit in ACTIVE enters TRAIL (R36). -/
def execActiveEnd (u : PulseId) (s : State) : Result :=
  match s.pulse u with
  | some p => .next (if p.phase = .active then s.setPulse u (some { p with phase := .trail, count := 0 }) else s)
  | none => .next s

/-- TRAIL_END: a pulse in TRAIL is complete (R32, R39). -/
def execTrailEnd (u : PulseId) (s : State) : Result :=
  match s.pulse u with
  | some p => .next (if p.phase = .trail then (s.trailEnd u p).drain else s)
  | none => .next s

end Sys2Proof.Machine
end

