-- ==== Sys2Proof/Machine/Reset.lean ====
section
/-! DEFINITION. The meaning of the part reset, and of a power failure within an event. -/

namespace Sys2Proof.Machine

/-- An event that may confirm a unit, taken whole. -/
def State.confirming (s : State) (c : Confirming) : Result :=
  match c with
  | .trailEnd u => execTrailEnd u s
  | .echo b m => execEcho b m s

/-- The audit as the record of a unit's confirmation leaves it: TOKENS_SPENT and CONFIRMED together, `t` being the state
after the event (R52, R175). -/
def State.confirmationRecord (s t : State) (b : Bay) : Audit :=
  (s.audit.advance tokensSpentIx (s.store.live - t.store.live)).advance (confirmedIx b) 1

/-- What an event that confirms a unit leaves when the power fails right after its confirmation's record: PLAYS, which is
retained on its own, has not advanced (R78, R175). -/
def State.withoutPlay (s t : State) : State :=
  match s.gate.state, t.gate.state, t.gate.bay with
  | .paying, .firing, some b => t.setAudit (s.confirmationRecord t b)
  | _, _, _ => t

/-- The state whose retained items a part reset finds when the power has failed within an event (R78, log entry 29). -/
def State.tornBy (s : State) (c : Confirming) : State :=
  match s.confirming c with
  | .next t => s.withoutPlay t
  | .fault _ => s
  | .refused _ => s

/-- PART_RESET: power-on, the external reset pin or a completed RESTART (R97). -/
def execPartReset (found : Found) (s : State) : Result :=
  .next (match found with
    | .corrupt => s.partReset false
    | .whole => s.partReset true
    | .torn c => (s.tornBy c).partReset true)

end Sys2Proof.Machine
end

