-- ==== Sys2Proof/Machine/Settings.lean ====
section
/-! DEFINITION. The meanings of the settings requests (05). -/

namespace Sys2Proof.Machine

/-- WRITE_PROFILE (R79). -/
def execWriteProfile (l : Link) (bay group : Byte) (fields : List Byte) (s : State) : Result := .next (s.command l (.writeProfile bay group fields))

/-- READ_PROFILE (R83). -/
def execReadProfile (l : Link) (bay group : Byte) (s : State) : Result := .next (s.command l (.readProfile bay group))

/-- WRITE_ROUTES (R87). -/
def execWriteRoutes (l : Link) (bay start truncate count : Byte) (entries : List Byte) (s : State) : Result := .next (s.command l (.writeRoutes bay start truncate count entries))

/-- READ_ROUTES (R88). -/
def execReadRoutes (l : Link) (bay start count : Byte) (s : State) : Result := .next (s.command l (.readRoutes bay start count))

/-- WRITE_CABINET (R89). -/
def execWriteCabinet (l : Link) (group : Byte) (fields : List Byte) (s : State) : Result := .next (s.command l (.writeCabinet group fields))

/-- READ_CABINET (R93). -/
def execReadCabinet (l : Link) (group : Byte) (s : State) : Result := .next (s.command l (.readCabinet group))

/-- SET_LOCK (R94). -/
def execSetLock (l : Link) (lock : Byte) (s : State) : Result := .next (s.command l (.setLock lock))

end Sys2Proof.Machine
end

