-- ==== Sys2Proof/Machine/Start.lean ====
section
/-! DEFINITION. The meaning of the start width expiry (04). -/

namespace Sys2Proof.Machine

/-- START_WIDTH_EXPIRY: a FIRING gate returns to IDLE (R73). -/
def execStartWidthExpiry (s : State) : Result :=
  .next (if s.gate.state = .firing then s.setGate Gate.fresh else s)

end Sys2Proof.Machine
end

