-- ==== Sys2Proof/Machine/Dispatch.lean ====
section
/-! DEFINITION. Which meaning each command has. -/

namespace Sys2Proof.Machine

def exec (i : Instr) (s : State) : Host.Outcome State Fault Refusal :=
  match i with
  | .partReset found => Sys2Proof.Machine.execPartReset found s
  | .coinActiveEdge c => Sys2Proof.Machine.execCoinActiveEdge c s
  | .coinRelease c held => Sys2Proof.Machine.execCoinRelease c held s
  | .maxTimerExpiry c => Sys2Proof.Machine.execMaxTimerExpiry c s
  | .jamReleaseExpiry c => Sys2Proof.Machine.execJamReleaseExpiry c s
  | .pullInExpiry c => Sys2Proof.Machine.execPullInExpiry c s
  | .pwmPeriodBoundary => Sys2Proof.Machine.execPwmPeriodBoundary s
  | .coilFault active => Sys2Proof.Machine.execCoilFault active s
  | .setIntake l value => Sys2Proof.Machine.execSetIntake l value s
  | .armCoils l => Sys2Proof.Machine.execArmCoils l s
  | .grant l n => Sys2Proof.Machine.execGrant l n s
  | .withdraw l n => Sys2Proof.Machine.execWithdraw l n s
  | .transfer l bay n => Sys2Proof.Machine.execTransfer l bay n s
  | .leadEnd u => Sys2Proof.Machine.execLeadEnd u s
  | .activeEnd u => Sys2Proof.Machine.execActiveEnd u s
  | .trailEnd u => Sys2Proof.Machine.execTrailEnd u s
  | .meterActiveEdge b m => Sys2Proof.Machine.execMeterActiveEdge b m s
  | .meterRelease b m => Sys2Proof.Machine.execMeterRelease b m s
  | .echo b m => Sys2Proof.Machine.execEcho b m s
  | .echoWindowExpiry b => Sys2Proof.Machine.execEchoWindowExpiry b s
  | .voidDoubt l bay => Sys2Proof.Machine.execVoidDoubt l bay s
  | .refundDoubt l bay => Sys2Proof.Machine.execRefundDoubt l bay s
  | .startWidthExpiry => Sys2Proof.Machine.execStartWidthExpiry s
  | .writeProfile l bay group fields => Sys2Proof.Machine.execWriteProfile l bay group fields s
  | .readProfile l bay group => Sys2Proof.Machine.execReadProfile l bay group s
  | .writeRoutes l bay start truncate count entries => Sys2Proof.Machine.execWriteRoutes l bay start truncate count entries s
  | .readRoutes l bay start count => Sys2Proof.Machine.execReadRoutes l bay start count s
  | .writeCabinet l group fields => Sys2Proof.Machine.execWriteCabinet l group fields s
  | .readCabinet l group => Sys2Proof.Machine.execReadCabinet l group s
  | .setLock l lock => Sys2Proof.Machine.execSetLock l lock s
  | .firstCompleteDebounce scan1 scan2 scan3 scan4 => Sys2Proof.Machine.execFirstCompleteDebounce scan1 scan2 scan3 scan4 s
  | .switchEvent w e => Sys2Proof.Machine.execSwitchEvent w e s
  | .menuHoldExpiry => Sys2Proof.Machine.execMenuHoldExpiry s
  | .routePulseExpiry w n => Sys2Proof.Machine.execRoutePulseExpiry w n s
  | .quietExpiry => Sys2Proof.Machine.execQuietExpiry s
  | .resetHoldExpiry b => Sys2Proof.Machine.execResetHoldExpiry b s
  | .bootLimitExpiry b => Sys2Proof.Machine.execBootLimitExpiry b s
  | .coolingExpiry b => Sys2Proof.Machine.execCoolingExpiry b s
  | .overcurrent b active => Sys2Proof.Machine.execOvercurrent b active s
  | .powerBayOn l bay => Sys2Proof.Machine.execPowerBayOn l bay s
  | .powerBayOff l bay => Sys2Proof.Machine.execPowerBayOff l bay s
  | .armBay l bay => Sys2Proof.Machine.execArmBay l bay s
  | .clearFault l bay => Sys2Proof.Machine.execClearFault l bay s
  | .disableBay l bay => Sys2Proof.Machine.execDisableBay l bay s
  | .enableBay l bay => Sys2Proof.Machine.execEnableBay l bay s
  | .fieldSyncPulse b lines length => Sys2Proof.Machine.execFieldSyncPulse b lines length s
  | .fieldGapExpiry b => Sys2Proof.Machine.execFieldGapExpiry b s
  | .settleExpiry => Sys2Proof.Machine.execSettleExpiry s
  | .audioRampEnd => Sys2Proof.Machine.execAudioRampEnd s
  | .select l target => Sys2Proof.Machine.execSelect l target s
  | .latch l => Sys2Proof.Machine.execLatch l s
  | .readCounters l first last => Sys2Proof.Machine.execReadCounters l first last s
  | .freeSnapshot l => Sys2Proof.Machine.execFreeSnapshot l s
  | .frameEnd l x => Sys2Proof.Machine.execFrameEnd l x s
  | .frameGapTimeout l => Sys2Proof.Machine.execFrameGapTimeout l s
  | .stopBitError l => Sys2Proof.Machine.execStopBitError l s
  | .replySent l intact => Sys2Proof.Machine.execReplySent l intact s
  | .noticeSent l => Sys2Proof.Machine.execNoticeSent l s
  | .serviceKeyChange closed => Sys2Proof.Machine.execServiceKeyChange closed s
  | .status l => Sys2Proof.Machine.execStatus l s
  | .queryBay l bay => Sys2Proof.Machine.execQueryBay l bay s
  | .restart l => Sys2Proof.Machine.execRestart l s
  | .byteReceived l x => Sys2Proof.Machine.execByteReceived l x s

end Sys2Proof.Machine
end

