-- ==== Sys2Proof/Machine/Tick.lean ====
section
/-! DEFINITION. One 125 us strobe slot of the panel scan, which `step` takes when no command waits (log entry 3): its
switches are sampled and their events taken. The last slot of a scan ends with a tick of the 1 ms time base: every
running count advances, and the expiries that fall due are taken as commands. -/

namespace Sys2Proof.Machine

/-! ## Counts -/

/-- A chute one tick on: a pulse's width while the input is active, a jam's release count while it is not (R2, R5). -/
def ChuteRecord.tick (r : ChuteRecord) (active : Bool) : ChuteRecord :=
  match r.state with
  | .inCoin => if active then { r with width := r.width + 1 } else r
  | .jammed => if active then r else { r with jamCount := r.jamCount + 1 }
  | .idle => r
  | .disabled => r

/-- A coil one tick on (R18). -/
def Coil.tick (k : Coil) : Coil :=
  match k with
  | .pullIn n => .pullIn (n + 1)
  | .off => .off
  | .hold => .hold
  | .tripped => .tripped

/-- A pulse one tick on (R36). -/
def Pulse.tick (p : Pulse) : Pulse := { p with count := p.count + 1 }

/-- A filter one tick on (R50). -/
def EchoFilter.tick (f : EchoFilter) : EchoFilter :=
  match f with
  | .counting n => .counting (n + 1)
  | .dark => .dark
  | .ready => .ready
  | .waitRelease => .waitRelease

/-- The field-gap count one tick on, in LOCKED (R142). -/
def Checker.tick (c : Checker) : Checker := if c.state = .locked then { c with gap := c.gap + 1 } else c

/-- The share of full gain that one tick of a ramp moves (R147, log entry 9). -/
def Crosspoint.share (x : Crosspoint) : Nat := Config.gainFull / x.ramp

/-- The settle timer and the audio gain one tick on (R146, R147). -/
def Crosspoint.tick (x : Crosspoint) : Crosspoint :=
  { x with
    settle := x.settle.map Timer.advance
    gain := match x.audio with
      | .rising => min Config.gainFull (x.gain + x.share)
      | .falling => x.gain - x.share
      | .muted => x.gain
      | .full => x.gain }

/-- A receiver's gap count one tick on (R182). -/
def Receiver.tick (r : Receiver) : Receiver :=
  match r with
  | .hunt => .hunt
  | .length g => .length (g + 1)
  | .typ n g => .typ n (g + 1)
  | .payload n t got g => .payload n t got (g + 1)
  | .check n t got g => .check n t got (g + 1)

/-- A bay's filters one tick on (R50); an echo cut off before this tick is past (log entry 30). -/
def BayFilters.tick (f : BayFilters) : BayFilters where
  one := f.one.tick
  two := f.two.tick
  late := []

/-- A link one tick on. -/
def LinkState.tick (k : LinkState) : LinkState := { k with rx := k.rx.tick }

/-- The service key sampled (R187). -/
def ServiceKey.sample (k : ServiceKey) (level : Bool) : ServiceKey :=
  { k with count := debounceCount k.count level k.closed }

/-- Every running count of milliseconds one tick on. -/
def State.tickCounts (s : State) : State :=
  { s with
    intake := { s.intake with
      chutes := Vector.ofFn fun c => s.intake.chutes[c].tick s.pins.coin[c]
      coils := s.intake.coils.map Coil.tick }
    feeders := s.feeders.map fun f => { f with window := f.window.map Timer.advance }
    pulses := { s.pulses with a := s.pulses.a.map Pulse.tick, b := s.pulses.b.map Pulse.tick }
    filters := s.filters.map BayFilters.tick
    gate := { s.gate with timer := s.gate.timer.map Timer.advance }
    panel := { s.panel with menuHold := s.panel.menuHold.map Timer.advance }
    routing := {
      pulses := s.routing.pulses.map fun p => { p with timer := p.timer.advance }
      quiet := s.routing.quiet.map Timer.advance }
    power := { s.power with bays := s.power.bays.map fun p => { p with timer := p.timer.map Timer.advance } }
    checkers := s.checkers.map Checker.tick
    monitor := s.monitor.tick
    links := { selector := s.links.selector.tick, service := s.links.service.tick }
    key := s.key.sample s.pins.key }

/-! ## Expiries that fall due -/

/-- The command of an expiry, when it is due. -/
def whenDue (due : Bool) (i : Instr) : List Instr := if due then [i] else []

/-- Whether a timer runs and has reached its length. -/
def timerDue (t : Option Timer) : Bool :=
  match t with
  | some t => t.due
  | none => false

/-- A chute's expiries (R4, R5). -/
def State.dueChute (s : State) (c : Chute) : List Instr :=
  let r := s.chute c
  match r.state with
  | .inCoin => whenDue (s.pins.coin[c] && decide (r.maxWidth ≤ r.width)) (.maxTimerExpiry c)
  | .jammed => whenDue (!s.pins.coin[c] && decide (Config.jamReleaseTime ≤ r.jamCount)) (.jamReleaseExpiry c)
  | .idle => []
  | .disabled => []

/-- A coil's PULL_IN that has lasted its time (R18). -/
def State.dueCoil (s : State) (c : Chute) : List Instr :=
  match s.intake.coils[c] with
  | .pullIn n => whenDue (decide (Config.pullInTime ≤ n)) (.pullInExpiry c)
  | .off => []
  | .hold => []
  | .tripped => []

/-- A pulse unit's phase end (R36). -/
def State.duePulse (s : State) (u : PulseId) : List Instr :=
  match s.pulse u with
  | none => []
  | some p =>
    match p.phase with
    | .lead => whenDue (decide (p.lead ≤ p.count)) (.leadEnd u)
    | .active => whenDue (decide (p.active ≤ p.count)) (.activeEnd u)
    | .trail => whenDue (decide (p.trail ≤ p.count)) (.trailEnd u)

/-- A filter's echo (R50), or the echo that a power loss at this tick has been taken before (R46). -/
def State.dueEcho (s : State) (b : Bay) (m : CoinLine) : List Instr :=
  match s.filter b m with
  | .counting n => whenDue (decide (Config.echoWidth ≤ n)) (.echo b m)
  | .dark => whenDue (s.filters[b].late.contains m) (.echo b m)
  | .ready => []
  | .waitRelease => []

/-- A bay timer's expiry, by the power state it counts for (R117, R119, R127). -/
def State.dueBay (s : State) (b : Bay) : List Instr :=
  if timerDue (s.bay b).timer then
    match (s.bay b).state with
    | .starting => [.resetHoldExpiry b]
    | .booting => [.bootLimitExpiry b]
    | .cooling => [.coolingExpiry b]
    | .disabled => []
    | .off => []
    | .running => []
    | .tripped => []
    | .faulted => []
  else []

/-- What falls due at one bay (R50, R53, R142). -/
def State.dueAtBay (s : State) (b : Bay) : List (List Instr) :=
  [whenDue (timerDue (s.feeder b).window) (.echoWindowExpiry b), s.dueEcho b .one, s.dueEcho b .two, s.dueBay b,
    whenDue (decide ((s.checker b).state = .locked) && decide (Config.fieldGapTime ≤ (s.checker b).gap))
      (.fieldGapExpiry b)]

/-- The gain's end of a ramp (R147). -/
def Crosspoint.rampDue (x : Crosspoint) : Bool :=
  match x.audio with
  | .rising => decide (Config.gainFull ≤ x.gain)
  | .falling => decide (x.gain = 0)
  | .muted => false
  | .full => false

/-- The gap count of a receiver, none in HUNT. -/
def Receiver.gap : Receiver → Nat
  | .hunt => 0
  | .length g => g
  | .typ _ g => g
  | .payload _ _ _ g => g
  | .check _ _ _ g => g

/-- A link's gap count past its limit (R182). -/
def State.dueGap (s : State) (l : Link) : List Instr :=
  whenDue (decide (Config.byteGapTime < (s.link l).rx.gap)) (.frameGapTimeout l)

/-- The switch events a strobe's sample makes, in ascending switch number, or the first complete debounce, when the
fourth scan has ended (R99, R100). -/
def State.duePanel (s : State) : List Instr :=
  if s.panel.settled then
    allSwitches.flatMap fun w =>
      whenDue (decide (Config.debounceSamples ≤ s.panel.counts[w]))
        (.switchEvent w (if s.panel.pressed.contains w then .release else .press))
  else
    match s.panel.samples with
    | [s1, s2, s3, s4] => [.firstCompleteDebounce s1 s2 s3 s4]
    | _ => []

/-- The events due at a tick, in groups that may be taken in any order. The switch events of strobe 7 keep the order R99
gives them and are one group: that no other event due at the tick (a quiet expiry, R112) is taken between two of them is
the model's choice (log entry 40). -/
def State.dueGroups (s : State) : List (List Instr) :=
  (allChutes.map s.dueChute ++ [s.duePulse .a, s.duePulse .b] ++ allBays.flatMap s.dueAtBay
    ++ [whenDue (timerDue s.gate.timer) .startWidthExpiry, s.duePanel,
        whenDue (timerDue s.panel.menuHold) .menuHoldExpiry, whenDue (timerDue s.routing.quiet) .quietExpiry,
        whenDue (timerDue s.monitor.settle) .settleExpiry, whenDue s.monitor.rampDue .audioRampEnd,
        s.dueGap .selector, s.dueGap .service,
        whenDue (decide (Config.debounceSamples ≤ s.key.count)) (.serviceKeyChange s.pins.key)]
    ++ s.routing.pulses.map fun p => whenDue p.timer.due (.routePulseExpiry p.switch p.line)).filter fun g => !g.isEmpty

/-! ## A tick -/

/-- A ranked group put in its place among ranked groups. -/
def insertRanked (x : Nat × List Instr) : List (Nat × List Instr) → List (Nat × List Instr)
  | [] => [x]
  | y :: rest => if x.1 < y.1 then x :: y :: rest else y :: insertRanked x rest

/-- Groups in the free order that the counter draws (log entry 8), each kept together (log entry 40). -/
def inFreeRank (choice : Nat) (gs : List (List Instr)) : List (List Instr) :=
  ((gs.zipIdx.map fun g => (Config.eventRank choice g.2, g.1)).foldr insertRanked []).map Prod.snd

/-- The events that are due. -/
def State.due (s : State) : List Instr := s.dueGroups.flatten

/-- An event of a tick taken as its command, if it is still due when its turn comes (R13, R35, R46, R138). -/
def State.takeDue (s : State) (i : Instr) : Result := if s.due.contains i then exec i s else .next s

/-- Events taken one after another. -/
def takeAllDue : List Instr → State → Result
  | [], s => .next s
  | i :: rest, s =>
    match s.takeDue i with
    | .next t => takeAllDue rest t
    | .fault f => .fault f
    | .refused r => .refused r

/-- The PWM period boundary, which the time base marks: the duty, then the coils whose PULL_IN has ended (R18, R19). -/
def State.periodBoundary (s : State) : Result :=
  match exec .pwmPeriodBoundary s with
  | .next t =>
    (allChutes.flatMap t.dueCoil).foldl (fun r i =>
      match r with
      | .next u => exec i u
      | .fault f => .fault f
      | .refused q => .refused q) (.next t)
  | .fault f => .fault f
  | .refused q => .refused q

/-- One tick of the 1 ms time base (log entry 3). -/
def State.tick (s : State) : Result :=
  match s.tickCounts.periodBoundary with
  | .next t => takeAllDue (inFreeRank t.choices t.dueGroups).flatten t.drawn
  | .fault f => .fault f
  | .refused q => .refused q

/-! ## A strobe slot (R98) -/

/-- The strobe on which a switch lies (06, the switch matrix). -/
def strobeOf (w : Switch) : Strobe := ⟨w.val / 8, by omega⟩

/-- The eight contacts a strobe reads, as bits of the scan (06, the switch matrix). -/
def strobeMask (k : Strobe) : BitVec 64 := 0xFF#64 <<< (8 * k.val)

/-- The samples of the scan under way with those of the strobe being driven. -/
def Panel.scanned (p : Panel) (contacts : BitVec 64) : BitVec 64 := p.scan ||| (contacts &&& strobeMask p.strobe)

/-- The eight switches of the strobe being driven sampled against their debounced states (R99). -/
def Panel.debounced (p : Panel) (contacts : BitVec 64) : Panel :=
  { p with counts := Vector.ofFn fun w =>
      if strobeOf w = p.strobe then debounceCount p.counts[w] (sampleOf contacts w) (p.pressed.contains w)
      else p.counts[w] }

/-- The samples of the strobe being driven kept for the first complete debounce; strobe 7 ends a full scan (R98,
R100). -/
def Panel.gathered (p : Panel) (contacts : BitVec 64) : Panel :=
  if p.strobe = 7 then { p with scan := 0, samples := p.samples ++ [p.scanned contacts] }
  else { p with scan := p.scanned contacts }

/-- The end of a strobe's slot: its eight returns are sampled, and the next strobe is driven, strobe 0 after strobe 7
(R98). -/
def Panel.slotEnd (p : Panel) (contacts : BitVec 64) : Panel :=
  { (if p.settled then p.debounced contacts else p.gathered contacts) with strobe := p.strobe + 1 }

/-- One strobe slot of the panel scan, in which a report still left is taken first; the eighth ends with a tick of the time
base (R98, log entries 3 and 39). -/
def State.slot (s : State) : Result :=
  let s := s.drain
  let t := s.setPanel (s.panel.slotEnd s.pins.panel)
  if s.panel.strobe = 7 then t.tick else takeAllDue t.duePanel t

end Sys2Proof.Machine
end

