-- ==== Sys2Proof/Machine/Step.lean ====
section
/-! DEFINITION. One step of the block: the command at the front of the queue, or a strobe slot of the panel scan. -/

namespace Sys2Proof.Machine

/-- One step: the command at the front of the queue is taken with the queue's rest; on an empty queue the panel
scan goes on by one strobe slot, and the time base with it (log entries 2 and 3). -/
def step (s : State) : Host.Outcome State Fault Refusal :=
  match s.pending with
  | [] => s.slot
  | i :: rest => exec i (s.setPending rest)

/-- The command a word spells put at the front of the queue; no row of the table gives bits, so none is. -/
def State.withFetchWord (s : State) (nbits w : Nat) : State :=
  match decodeTableWord nbits w with
  | some i => s.setPending (i :: s.pending)
  | none => s

end Sys2Proof.Machine
end

