-- ==== Sys2Proof/Machine/Outputs.lean ====
section
/-! DEFINITION. What the part drives on its lines, read from the state: coils, coin lines, strobes, general lines, power
switches, reset lines and the monitor. No command reads any of it. -/

namespace Sys2Proof.Machine

/-- The level that is active at a polarity: high, or low (R37, R104). -/
def Polarity.activeLevel : Polarity → Bool
  | .activeLow => false
  | .activeHigh => true

/-! ## Coils (01) -/

/-- A coil's drive in sixteenths of the PWM period (01, the coil table). -/
def State.coilDrive (s : State) (c : Chute) : Nat :=
  match s.intake.coils[c] with
  | .off => 0
  | .pullIn _ => 16
  | .hold => s.intake.activeDuty
  | .tripped => 0

/-! ## Coin lines (R37) -/

/-- Whether a pulse drives a coin line active. -/
def Pulse.drives (p : Pulse) (b : Bay) (m : CoinLine) : Bool :=
  decide (p.bay = b) && decide (p.line = m) && decide (p.phase = .active)

/-- Whether a coin line is at its active level (R37). -/
def State.coinLineActive (s : State) (b : Bay) (m : CoinLine) : Bool :=
  s.pulses.a.any (fun p => p.drives b m) || s.pulses.b.any (fun p => p.drives b m)

/-- The level of a coin line, true when high; the captured polarity is that of the profile (R36, R37). -/
def State.coinLineHigh (s : State) (b : Bay) (m : CoinLine) : Bool :=
  s.coinLineActive b m == (s.profile b).coin.polarity.activeLevel

/-! ## Strobes (R98) -/

/-- Whether a strobe of the switch matrix is driven: one at a time (R98). -/
def State.strobeDriven (s : State) (k : Strobe) : Bool := decide (s.panel.strobe = k)

/-! ## General lines (R104 to R108) -/

/-- Whether a DIRECT route of the active bay drives its line (R101, R105). -/
def State.directDrives (s : State) (r : Route) : Bool :=
  decide (r.mode = .direct) && s.panel.pressed.contains r.switch && !s.panel.mask.contains r.switch
    && decide (s.tables.cabinet.panel.menu ≠ r.switch) && (s.gateTakes r.switch).isNone

/-- Whether a PULSE route of the active bay drives its line (R106). -/
def State.pulseDrives (s : State) (r : Route) : Bool := decide (r.mode = .pulse) && s.routing.runs r

/-- Whether a route of the firing bay carries the start pulse (R72, R108). -/
def State.startDrives (s : State) (b : Bay) (r : Route) : Bool :=
  decide (s.gate.state = .firing) && decide (s.gate.bay = some b) && decide (s.gate.switch = some r.switch)

/-- Whether a general line of a bay is active (R104). -/
def State.lineActive (s : State) (b : Bay) (n : GeneralLine) : Bool :=
  s.isActive b && s.isRunning b
    && (s.routeMap b).any fun r =>
      decide (r.line = n) && (s.directDrives r || s.pulseDrives r || s.startDrives b r)

/-- The level of a general line of a bay, true when high (R104). -/
def State.lineHigh (s : State) (b : Bay) (n : GeneralLine) : Bool :=
  s.lineActive b n == ((s.profile b).lines[n]).activeLevel

/-! ## Bay power (R116) -/

/-- Whether a bay's power switch is on (07, the state table). -/
def State.powerSwitchOn (s : State) (b : Bay) : Bool := (s.bay b).state.powered

/-- Whether a bay's reset line is active: in every state but BOOTING and RUNNING (07, the state table). -/
def State.resetLineActive (s : State) (b : Bay) : Bool :=
  match (s.bay b).state with
  | .booting => false
  | .running => false
  | .disabled => true
  | .off => true
  | .cooling => true
  | .starting => true
  | .tripped => true
  | .faulted => true

/-! ## The monitor (R145, R146) -/

/-- The class on the monitor class lines (R146). -/
def State.classLines (s : State) : LineClass := s.monitor.lineClass

/-- The line rate of the blank sync of a class, in hertz (08, the class table). -/
def LineClass.blankRate : LineClass → Nat
  | .low => 15700
  | .medium => 24800
  | .high => 31500

/-- The line rate of the sync the part generates, none while it passes a source's own (R145). -/
def State.blankSync (s : State) : Option Nat :=
  match s.monitor.source with
  | .blank => some s.monitor.lineClass.blankRate
  | .menu => none
  | .bay _ => none

/-- The field rate of the sync the part generates, in hertz (R145). -/
def State.blankFieldRate (s : State) : Option Nat :=
  match s.monitor.source with
  | .blank => some Config.blankFieldRate
  | .menu => none
  | .bay _ => none

/-- The audio gain applied to the source, in shares of full; none is passed from BLANK (R145, R147). -/
def State.audioGain (s : State) : Nat :=
  match s.monitor.source with
  | .blank => 0
  | .menu => s.monitor.gain
  | .bay _ => s.monitor.gain

end Sys2Proof.Machine
end

