-- ==== Sys2Proof/Safety.lean ====
section
/-! DEFINITION. What must stay true of the block from one event to the next: the invariants the statements name, and the
words they are stated in. -/

namespace Sys2Proof.Machine

/-- No report waits to be taken (log entries 7 and 39). -/
def State.Settled (s : State) : Prop := s.reports = [] ∧ s.late = none

/-- Every report of an event has been taken at its end, but for the report of a power cut, which may be left for the next
event (log entries 7 and 39). -/
def State.ReportsOk (s : State) : Prop :=
  s.reports = [] ∧ ∀ r, s.late = some r →
    (∃ b c, r = .loss b c) ∨ (∃ b w, r = .failed b w) ∨ ∃ b, r = .cutToCooling b

/-- Every audit counter is at most 16,777,215 (R174). -/
def State.Bounded (s : State) : Prop := ∀ i : CounterIx, s.counter i ≤ Config.counterMax

/-- The token counters account for the Token Store, unless one of the four has reached its maximum (R176). -/
def State.Balanced (s : State) : Prop :=
  s.counter tokensInIx < Config.counterMax → s.counter tokensSpentIx < Config.counterMax →
    s.counter tokensVoidedIx < Config.counterMax → s.counter tokensWithdrawnIx < Config.counterMax →
    s.counter tokensInIx
      = s.store.live + s.counter tokensSpentIx + s.counter tokensVoidedIx + s.counter tokensWithdrawnIx

/-- The store holds at most 64 live tokens, and no two carry the same sequence number (R8). -/
def State.StoreOk (s : State) : Prop :=
  s.store.live ≤ Config.storeCapacity ∧ (s.store.arrival.map Token.seq).Nodup

/-- While the settle timer runs the source is BLANK (R149). -/
def State.SettlesBlank (s : State) : Prop := s.monitor.settle.isSome = true → s.monitor.source = .blank

/-- Every profile, route map and cabinet group lies within its ranges and meets its cross-field conditions (R97). -/
def State.TablesOk (s : State) : Prop := s.tables.valid = true

/-- The summed load of the powered bays is at most the load budget (R120). -/
def State.WithinBudget (s : State) : Prop := s.committedLoad ≤ s.budget

/-- Both notice queues hold at most 16 notices (R190). -/
def State.QueuesOk (s : State) : Prop :=
  s.links.selector.queue.length ≤ Config.noticeCapacity ∧ s.links.service.queue.length ≤ Config.noticeCapacity

/-- A feeder that is not IDLE belongs to a RUNNING bay, and no feeder holds more than eight queued units (R28). -/
def State.FeedersOk (s : State) : Prop :=
  ∀ b : Bay, (s.feeder b).queue.length ≤ Config.feederCapacity ∧ ((s.feeder b).state ≠ .idle → s.isRunning b = true)

/-- The warm list holds RUNNING bays, each once, and none that is the active bay, an origin before its release or the
current target (R131). -/
def State.WarmOk (s : State) : Prop :=
  s.power.warm.Nodup ∧ ∀ b ∈ s.power.warm,
    s.isRunning b = true ∧ s.isActive b = false ∧ s.isOrigin b = false ∧ s.isTarget b = false

/-- The origin of a handover is released at the cut-over, with which QUIET begins (R160, R161). -/
def State.HandoverOk (s : State) : Prop := ∀ r, s.handover = some r → r.released = true → r.phase = .quiet

/-- What holds of the block from one event to the next. -/
structure State.Safe (s : State) : Prop where
  reportsOk : s.ReportsOk
  bounded : s.Bounded
  balanced : s.Balanced
  storeOk : s.StoreOk
  settlesBlank : s.SettlesBlank
  tablesOk : s.TablesOk
  queuesOk : s.QueuesOk
  feedersOk : s.FeedersOk
  warmOk : s.WarmOk
  handoverOk : s.HandoverOk
  withinBudget : s.WithinBudget

/-! ## What a master sees of a request -/

/-- The reply of a link's pending request, while it waits or is being sent (R186, R188). -/
def LinkState.replying (k : LinkState) : Option Reply :=
  match k.pending with
  | none => none
  | some p =>
    match p.waiting with
    | some r => some r
    | none =>
      match k.tx with
      | some (.reply r) => some r
      | some (.busyLink _) => none
      | some (.notice _) => none
      | none => none

/-- A request that a link takes: it suits a frame, the link holds its level and no other request, and no report waits
(R185, R186). -/
structure State.Takes (s : State) (l : Link) (r : Request) : Prop where
  free : (s.link l).busy = false
  wf : r.wf = true
  level : s.holdsLevel l r = true
  settled : s.Settled

/-! ## What a link is given -/

/-- A link that is sent a notice, its transmitter going on if it is idle (R190). -/
def LinkState.told (k : LinkState) (n : Notice) : LinkState := (k.place n).txNext

/-- A link that is sent notices one after another (R190). -/
def LinkState.toldAll (k : LinkState) (ns : List Notice) : LinkState := ns.foldl LinkState.told k

/-- A link's queue after notices placed while a request of the link is being taken (R188, R190). -/
def LinkState.placeAll (k : LinkState) (ns : List Notice) : LinkState := ns.foldl LinkState.place k

/-- A link that owes the reply to a request, its transmitter taking it when it is idle (R186, R188). -/
def LinkState.owes (k : LinkState) (typ : Byte) (r : Reply) (after : AfterReply) : LinkState :=
  { k with pending := some { typ := typ, waiting := some r, after := after } }.txNext

/-- Both links are sent these notices, in this order, and nothing else becomes of them (R190). -/
def State.Tells (s t : State) (ns : List Notice) : Prop := ∀ l, t.link l = (s.link l).toldAll ns

/-- A request acknowledged with the given reply data, after notices sent on both links (R188, R190). -/
structure State.Answers (s t : State) (l : Link) (r : Request) (data : List Byte) (ns : List Notice) : Prop where
  own : t.link l = ((s.link l).placeAll ns).owes r.typ (.ack r.typ data) (s.afterReply l r)
  other : ∀ m, m ≠ l → t.link m = (s.link m).toldAll ns

/-- A request refused with a NAK, which changes nothing but its own link (R185, R188, R189). -/
def State.Refuses (s : State) (i : Instr) (l : Link) (r : Request) (why : NakReason) : Prop :=
  exec i s = .next (s.setLink l ((s.link l).owes r.typ (.nak r.typ why) .nothing))

/-- A request acknowledged with the given reply data that changes nothing but its own link (R188). -/
def State.Reads (s : State) (i : Instr) (l : Link) (r : Request) (data : List Byte) : Prop :=
  exec i s = .next (s.setLink l ((s.link l).owes r.typ (.ack r.typ data) (s.afterReply l r)))

/-! ## What follows a change of the store, the cabinet record or the chutes -/

/-- Every coil follows its condition (R18). -/
def State.CoilsFollow (s t : State) : Prop :=
  ∀ c : Chute, t.intake.coils[c] = s.intake.coils[c].follow (t.coilWanted c)

/-- Closure and the coils as R15 and R18 leave them; the rest of the intake stands. -/
structure State.ClosureFollows (s t : State) : Prop where
  closed : t.intake.closed = t.closureHolds
  coils : s.CoilsFollow t
  rest : t.intake = { s.intake with closed := t.intake.closed, coils := t.intake.coils }

/-- The INTAKE notice a closure evaluation sends, if it changes intake (R15, R17). -/
def State.closureNotices (s t : State) : List Notice :=
  if t.intake.closed = s.intake.closed then []
  else [.intake (if t.intake.closed then .closed else .opened) none t.intakeView]

/-- What follows a store change: the POOL notice, then what the closure evaluation sends (R13, R14, R15). -/
def State.storeNotices (s t : State) (c : PoolCause) (moved : Nat) (bay : Option Bay) : List Notice :=
  .pool c moved bay t.store.poolCount t.store.free :: s.closureNotices t

/-- The units of a feeder, the slot's first, whatever their status. -/
def Feeder.units (f : Feeder) : List CoinUnit := (f.slot.toList ++ f.queue).map fun k => { k with status := .queued }

/-- The feeders of every bay but one hold the units they held (R40). -/
def State.KeepsUnits (s t : State) (b : Bay) : Prop := ∀ k : Bay, k ≠ b → (t.feeder k).units = (s.feeder k).units

/-- The retirement of a bay's slot unit: its tokens leave the arrival list, the feeder goes on with the units behind it, and
closure follows (R12, R15, R33). -/
structure State.Settles (s t : State) (b : Bay) (k : CoinUnit) : Prop where
  arrival : t.store.arrival = s.store.arrival.filter (fun x => decide (x.place ≠ .feeder b k.number))
  allocator : t.store.allocator = s.store.allocator
  units : (t.feeder b).units = (s.feeder b).queue.map (fun x => { x with status := .queued })
  others : s.KeepsUnits t b
  closure : s.ClosureFollows t

/-- The FEEDER notice (RESUMED) of a slot unit that is settled, if it was in doubt (R48, R58). -/
def State.resumedNotices (s : State) (b : Bay) (k : CoinUnit) : List Notice :=
  if k.status = .doubt then
    [.feeder .resumed b k.number k.tokens.length k.cause (if (s.feeder b).queue.isEmpty then .idle else .waiting)
      (s.feeder b).queue.length]
  else []

/-- No pulse request stands (R30). -/
def State.NoRequests (s : State) : Prop := ∀ b : Bay, (s.feeder b).requests = false

/-- What the end of a pulse leaves to the arbiter: `v` has the pulse unit IDLE; it stays so when no feeder asks, and else
a waiting feeder is granted as R41 chooses (R39, R40). -/
structure State.ArbiterTakesUp (s v t : State) (u : PulseId) : Prop where
  pulses : t.pulses = v.arbitrate.pulses
  feeders : t.feeders = v.arbitrate.feeders
  released : v.NoRequests → t.pulse u = none ∧ (∀ x, x ≠ u → t.pulse x = s.pulse x)
    ∧ t.pulses.pointer = s.pulses.pointer ∧ t.feeders = v.feeders
  granted : ∀ b : Bay, v.chosenBay = some b → (∀ x, x ≠ u → (s.pulse x).isSome = true) →
    (t.pulse u).map Pulse.bay = some b

/-- A bay that no handover and no stage names (R131). -/
def State.NoRole (s : State) (b : Bay) : Prop :=
  s.isActive b = false ∧ s.isOrigin b = false ∧ s.isTarget b = false

/-! ## Bays that a handover leaves or names -/

/-- A bay whose loss of power touches no unit, no charge and no picture. -/
def State.Uninvolved (s : State) (b : Bay) : Prop :=
  (s.feeder b).state = .idle ∧ s.gate.bay ≠ some b ∧ s.monitor.source ≠ .bay b

/-- A bay that cannot be named target (R163 test 2). -/
def State.Barred (s : State) (b : Bay) : Prop :=
  (s.bay b).state = .disabled ∨ (s.bay b).state = .faulted ∨ (s.bay b).state = .tripped

/-- A bay as a SELECT that names it target leaves it (R128, R133). -/
def State.named (s : State) (b : Bay) : BayPower :=
  { s.bay b with releasePending := false, attempts := (s.profile b).general.attempts }

/-- Whether a former target is cut when a retarget leaves it (R134). -/
def State.cutWhenLeft (s : State) (a : Bay) : Bool := (s.bay a).state.powered && !(s.profile a).general.keepWarm

/-- A bay that has been cut to COOLING (R118). -/
def BayPower.cooled (p : BayPower) : BayPower :=
  { p with state := .cooling, deferred := none, releasePending := false, timer := some { count := 0, limit := 500 } }

/-- The bays after the cut that ends a bay's release pending (R118, R133). -/
structure State.ReleasedAfter (s t : State) (b : Bay) : Prop where
  bays : ∀ d : Bay, t.bay d = if d = b then (s.bay d).cooled else s.bay d
  power : t.power = { s.power with bays := t.power.bays, warm := s.power.warm.filter (fun x => decide (x ≠ b)) }
  filters : t.filter b .one = .dark ∧ t.filter b .two = .dark
  checker : (t.checker b).state = .dark

/-- The LOSS of the active bay has been taken: a handover to MENU is in CLASS, and no report waits (R168). -/
def State.LossBegun (t : State) (b : Bay) (c : LossCause) : Prop :=
  t.Settled ∧ t.stage = .handover { HandoverRecord.begun (.bay b) .menu (.loss c) with phase := .classChange }

/-- The LOSS of the active bay is left for the next event, the stage being PLAY until then (R107, R171, log entry 39). -/
def State.LossLeft (t : State) (b : Bay) (c : LossCause) : Prop := t.stage = .play b ∧ t.late = some (.loss b c)

/-- A former target as a retarget leaves it, by its state and its keep-warm field (R134). -/
def State.left (s : State) (a : Bay) : BayPower :=
  if s.cutWhenLeft a then (s.bay a).cooled
  else if (s.bay a).state = .cooling then { s.bay a with deferred := none }
  else s.bay a

/-- The warm list as a retarget leaves it: a RUNNING former target that is kept warm joins at its head (R131, R134). -/
def State.leftWarm (s : State) (a : Bay) : List Bay :=
  if s.cutWhenLeft a then s.power.warm.filter (fun k => decide (k ≠ a))
  else if (s.bay a).state = .running then a :: s.power.warm
  else s.power.warm

/-- The bay a handover's cut-over releases: the origin, when it is a bay and not the target (R160). -/
def HandoverRecord.leaves (r : HandoverRecord) : Option Bay :=
  match r.origin with
  | .menu => none
  | .bay a => if r.target = .bay a then none else some a

/-- A handover's record after its cut-over (R160, R161). -/
def HandoverRecord.cutOver (r : HandoverRecord) : HandoverRecord :=
  { r with phase := .quiet, released := r.released || r.leaves.isSome }

/-- A handover's record as a request turns it to a new target (R164). -/
def HandoverRecord.turned (r : HandoverRecord) (t : Target) (c : Cause) : HandoverRecord :=
  { r with target := t, cause := c, failedBay := none, failReason := none }

/-- The stage in which a handover to a target ends (R162). -/
def Target.stage : Target → Stage
  | .menu => .menu
  | .bay b => .play b

/-- A bay as the completion of a handover to a target leaves it (R162). -/
def State.entered (s : State) (t : Target) (b : Bay) : BayPower :=
  if t = .bay b ∧ (s.bay b).deferred = some .handover then { s.bay b with deferred := some .recovery } else s.bay b

/-- Every bay's power record is as given. -/
def State.BaysAre (t : State) (p : Bay → BayPower) : Prop := ∀ d : Bay, t.bay d = p d

/-- The panel after a switch event, but for the menu-hold timer: the pressed set, the mask and the switch's count (R99,
R109). -/
structure State.Notes (s t : State) (w : Switch) (e : Edge) : Prop where
  pressed : ∀ k : Switch, k ∈ t.panel.pressed ↔ (k ∈ s.panel.pressed ∧ k ≠ w) ∨ (k = w ∧ e = .press)
  mask : ∀ k : Switch, k ∈ t.panel.mask ↔ k ∈ s.panel.mask ∧ (k ≠ w ∨ e = .press)
  rest : t.panel = { s.panel with
    pressed := t.panel.pressed, mask := t.panel.mask, menuHold := t.panel.menuHold, counts := s.panel.counts.set w 0 }

/-! ## Handovers that go on, boards that start, crash or lose power -/

/-- The monitor after the power loss of a bay, which blanks and mutes its picture if it is shown (R151). -/
def State.blanked (s : State) (b : Bay) : Crosspoint :=
  if s.monitor.source = .bay b then { s.monitor with source := .blank, audio := .muted, gain := 0 } else s.monitor

/-- Whether a cut request for a target, made with the crosspoint as given, waits for the settle timer (R149). -/
def State.cutWaits (s : State) (x : Crosspoint) (k : Target) : Bool :=
  decide (s.targetClass k ≠ x.lineClass) || x.settle.isSome

/-- The crosspoint behind a cut request for a target: a class step where the classes differ, a cut that waits while the
settle timer runs, and else a cut with a rising ramp at once (R146, R147, R149). -/
def State.cutRequested (s : State) (x : Crosspoint) (k : Target) : Crosspoint :=
  if s.targetClass k ≠ x.lineClass then
    { x with
      source := .blank, audio := .muted, gain := 0, cut := some k, lineClass := s.targetClass k
      settle := some { count := 0, limit := s.tables.cabinet.system.settle } }
  else if x.settle.isSome then { x with cut := some k }
  else { x with cut := none, source := k.source, audio := .rising, ramp := s.rampLength }

/-- A CLASS whose class step, if it makes one, has a settle time; and, if its cut is made at once, whose cut-over releases
nothing, starts a ramp from below full gain and leaves the quiet wait to pressed switches. -/
def State.PlainClass (s : State) (x : Crosspoint) (r : HandoverRecord) : Prop :=
  0 < s.tables.cabinet.system.settle
    ∧ (s.cutWaits x r.target = false → r.leaves = none ∧ x.gain < Config.gainFull ∧ 0 < s.rampLength
        ∧ s.panel.pressed ≠ [] ∧ 0 < s.tables.cabinet.panel.quiet)

/-- CLASS begins with a cut request for the handover's target, and where nothing is to be waited for QUIET follows in the
same event (R149, R159, R161). -/
structure State.ClassBegins (s t : State) (x : Crosspoint) (r : HandoverRecord) : Prop where
  stage : t.stage = .handover { r with phase := if s.cutWaits x r.target then .classChange else .quiet }
  monitor : t.monitor = s.cutRequested x r.target
  routing : t.routing = if s.cutWaits x r.target then s.routing
    else { s.routing with quiet := some { count := 0, limit := s.tables.cabinet.panel.quiet } }

/-- A handover's record turned to MENU by the failure of its target (R167). -/
def HandoverRecord.failed (r : HandoverRecord) (b : Bay) (why : FailReason) : HandoverRecord :=
  { r with target := .menu, cause := .failed, failedBay := some b, failReason := some why }

/-- The failure of the target turns the handover to MENU: in RELEASE the phase stays, and from POWER it becomes CLASS with
a cut request naming MENU (R167). -/
structure State.TurnsToMenu (s t : State) (x : Crosspoint) (r : HandoverRecord) (b : Bay) (why : FailReason) : Prop where
  release : r.phase = .release → t.stage = .handover (r.failed b why) ∧ t.monitor = x ∧ t.routing = s.routing
  power : r.phase = .power → s.ClassBegins t x (r.failed b why)

/-- A bay enters RUNNING, with its BAY notice; no other bay changes (R117). -/
structure State.StartsRunning (s t : State) (b : Bay) : Prop where
  bays : ∀ d : Bay, t.bay d = if d = b then { s.bay b with state := .running, timer := none } else s.bay d
  tells : s.Tells t [.bay .running b .running (s.bay b).attempts (s.warmPosition b)]

/-- A bay as its entry to STARTING leaves it (R117, R119). -/
def State.started (s : State) (b : Bay) : BayPower :=
  { s.bay b with state := .starting, deferred := none
                 timer := some { count := 0, limit := (s.profile b).general.resetHold } }

/-- How far a bay's load overruns the budget (R121). -/
def State.excess (s : State) (b : Bay) : Nat := s.committedLoad + s.load b - s.budget

/-- The summed load units of bays. -/
def State.loads (s : State) (ks : List Bay) : Nat := (ks.map s.load).sum

/-- A bay powered for a handover behind the eviction of the first `n` candidates, no more of them than the excess asks
for, each with its BAY notice (R119, R121, R122). -/
structure State.StartsBehind (s t : State) (b : Bay) (n : Nat) : Prop where
  enough : s.excess b ≤ s.loads (s.candidates.take n)
  least : ∀ m : Nat, m < n → s.loads (s.candidates.take m) < s.excess b
  bays : ∀ d : Bay, t.bay d =
    if d = b then s.started b else if d ∈ s.candidates.take n then (s.bay d).cooled else s.bay d
  power : t.power = { s.power with
    bays := t.power.bays, warm := s.power.warm.filter (fun k => decide (k ∉ s.candidates.take n)) }
  checker : (t.checker b).state = .seeking ∧ (t.checker b).good = 0 ∧ (t.checker b).measured = none
  dark : ∀ k ∈ s.candidates.take n, (t.checker k).state = .dark
  tells : s.Tells t ((s.candidates.take n).map fun k => .bay (.evicted b) k .cooling (s.bay k).attempts none)

/-- The eviction candidates neither hold the gate nor show on the monitor. -/
def State.PlainCandidates (s : State) : Prop :=
  s.WarmOk ∧ ∀ k ∈ s.candidates, s.gate.bay ≠ some k ∧ s.monitor.source ≠ .bay k

/-- A command that makes a bay crash: the boot limit in BOOTING, or in RUNNING the field gap or the fourth bad field in a
row of a LOCKED checker (R127, R142). -/
def State.CrashesBy (s : State) (b : Bay) (i : Instr) : Prop :=
  i = .bootLimitExpiry b ∧ (s.bay b).state = .booting
  ∨ i = .fieldGapExpiry b ∧ (s.checker b).state = .locked ∧ (s.bay b).state = .running
  ∨ ∃ lines length, i = .fieldSyncPulse b lines length ∧ (s.checker b).state = .locked ∧ (s.checker b).begun = true
      ∧ 3 ≤ (s.checker b).bad ∧ (s.bay b).state = .running
      ∧ fieldGood (s.profile b).general.lineClass lines length = false

/-- The bays after a power loss of one of them that leaves it with the record given: it leaves the warm list, and its
filters and its checker are DARK (R49, R118, R140). -/
structure State.LosesPower (s t : State) (b : Bay) (p : BayPower) : Prop where
  bays : ∀ d : Bay, t.bay d = if d = b then p else s.bay d
  power : t.power = { s.power with bays := t.power.bays, warm := s.power.warm.filter (fun k => decide (k ≠ b)) }
  filters : t.filter b .one = .dark ∧ t.filter b .two = .dark
  checker : (t.checker b).state = .dark

/-- A bay that is dark to every block: its feeder IDLE, no charge on it, its picture off the monitor, its filters and its
checker DARK (R118). -/
structure State.Dark (t : State) (b : Bay) : Prop where
  feeder : (t.feeder b).state = .idle
  gate : t.gate.bay ≠ some b
  monitor : t.monitor.source ≠ .bay b
  checker : (t.checker b).state = .dark
  filters : t.filter b .one = .dark ∧ t.filter b .two = .dark

/-- A bay as a cut to an unpowered state other than COOLING leaves it (R118). -/
def BayPower.out (p : BayPower) (into : PowerState) : BayPower :=
  { p with state := into, deferred := none, releasePending := false, timer := none }

/-- A feeder's part of a power loss: its units go back to the pool and no counter moves, but for a slot unit confirmed in
its pulse, which is retired as SPENT (R45). -/
structure State.UnitsLeave (s t : State) (b : Bay) : Prop where
  feeder : t.feeder b = { Feeder.fresh with nextUnit := (s.feeder b).nextUnit }
  others : s.KeepsUnits t b
  returned : (∀ k, (s.feeder b).slot = some k → k.status ≠ .confirmedInTrail) →
    t.store = s.store.giveBack b (s.feeder b).numbers ∧ t.audit = s.audit
  counted : ∀ k, (s.feeder b).slot = some k → k.status = .confirmedInTrail →
    t.store = (s.store.retire b k.number).giveBack b ((s.feeder b).queue.map CoinUnit.number)
    ∧ t.audit = (s.audit.advance tokensSpentIx (s.store.live - (s.store.retire b k.number).live)).advance
        (confirmedIx b) 1

/-- The notices of a power loss that returns every unit of a feeder, if they carry tokens (R11, R14, R45). -/
def State.returnNotices (s t : State) (b : Bay) : List Notice :=
  let moved := s.store.countUnits b (s.feeder b).numbers
  if moved = 0 then [] else s.storeNotices t .giveBack moved (some b)

end Sys2Proof.Machine
end

