-- ==== Sys2Proof/Certificates/Slice0/Obligations.lean ====
section
/-! DEFINITION. The statements about the block: its steps and invariants first, then chapter by chapter; a statement
of several claims joins claims of its own name. -/

section
open Sys2Proof Sys2Proof.Machine

/-! ## Steps and commands -/

/-- A step takes the command at the front of the queue with the queue's rest. -/
def Obligations.StepTakesFrontCommand : Prop :=
  ∀ (c : Instr) (s : State), step (s.setPending (c :: s.pending)) = exec c s

/-- On an empty queue a step is a strobe slot of the panel scan, and it completes (the model's choice, log entry 3). -/
def Sys2Proof.Claims.EmptyQueueStepIsSlot : Prop :=
  ∀ s : State, s.pending = [] → step s = s.slot ∧ ∃ t, step s = .next t ∧ t.pending = []

/-- Every command is answered with a next state, and it leaves the waiting commands as they are. -/
def Sys2Proof.Claims.EveryCommandCompletes : Prop :=
  ∀ (i : Instr) (s : State), ∃ t, exec i s = .next t ∧ t.pending = s.pending

/-- Every step completes: a waiting command is answered with a next state, and an empty queue with a strobe slot of the
panel scan (the slot is the model's choice, log entry 3). -/
def Obligations.StepsComplete : Prop :=
  Claims.EmptyQueueStepIsSlot ∧ Claims.EveryCommandCompletes

/-- At a tick every running count of milliseconds goes on by one, the key is sampled and a ramp moves the gain by its
share (log entry 9); money, settings and notices stand. -/
def Sys2Proof.Claims.TickCountsOn : Prop :=
  ∀ s : State,
    (∀ c : Chute, s.tickCounts.chute c =
      if (s.chute c).state = .inCoin ∧ s.pins.coin[c] = true then { s.chute c with width := (s.chute c).width + 1 }
      else if (s.chute c).state = .jammed ∧ s.pins.coin[c] = false then
        { s.chute c with jamCount := (s.chute c).jamCount + 1 }
      else s.chute c)
    ∧ (∀ (u : PulseId) (p : Pulse), s.pulse u = some p → s.tickCounts.pulse u = some { p with count := p.count + 1 })
    ∧ (∀ (b : Bay) (m : CoinLine) (n : Nat), s.filter b m = .counting n → s.tickCounts.filter b m = .counting (n + 1))
    ∧ (∀ (b : Bay) (w : Timer), (s.feeder b).window = some w →
        (s.tickCounts.feeder b).window = some { w with count := w.count + 1 })
    ∧ (∀ (b : Bay) (w : Timer), (s.bay b).timer = some w →
        (s.tickCounts.bay b).timer = some { w with count := w.count + 1 })
    ∧ (∀ b : Bay, (s.checker b).state = .locked → (s.tickCounts.checker b).gap = (s.checker b).gap + 1)
    ∧ (∀ (c : Chute) (n : Nat), s.intake.coils[c] = .pullIn n → s.tickCounts.intake.coils[c] = .pullIn (n + 1))
    ∧ (∀ w : Timer, s.gate.timer = some w → s.tickCounts.gate.timer = some { w with count := w.count + 1 })
    ∧ (∀ w : Timer, s.panel.menuHold = some w → s.tickCounts.panel.menuHold = some { w with count := w.count + 1 })
    ∧ (∀ w : Timer, s.routing.quiet = some w → s.tickCounts.routing.quiet = some { w with count := w.count + 1 })
    ∧ (∀ w : Timer, s.monitor.settle = some w → s.tickCounts.monitor.settle = some { w with count := w.count + 1 })
    ∧ s.tickCounts.routing.pulses
        = s.routing.pulses.map (fun p => { p with timer := { p.timer with count := p.timer.count + 1 } })
    ∧ (∀ l : Link, (s.link l).rx ≠ .hunt → (s.tickCounts.link l).rx.gap = (s.link l).rx.gap + 1)
    ∧ s.tickCounts.key.closed = s.key.closed
    ∧ s.tickCounts.key.count = (if s.pins.key = s.key.closed then 0 else s.key.count + 1)
    ∧ s.tickCounts.monitor.gain =
      (match s.monitor.audio with
        | .rising => min Config.gainFull (s.monitor.gain + Config.gainFull / s.monitor.ramp)
        | .falling => s.monitor.gain - Config.gainFull / s.monitor.ramp
        | .muted => s.monitor.gain
        | .full => s.monitor.gain)
    ∧ s.tickCounts.store = s.store ∧ s.tickCounts.audit = s.audit ∧ s.tickCounts.tables = s.tables
    ∧ s.tickCounts.flags = s.flags ∧ s.tickCounts.stage = s.stage ∧ s.tickCounts.snapshot = s.snapshot
    ∧ ∀ l : Link, (s.tickCounts.link l).queue = (s.link l).queue ∧ (s.tickCounts.link l).tx = (s.link l).tx

/-- A strobe slot samples the eight switches of the strobe driven, alone, and drives the next; their events, if any, are
taken in ascending switch number (R98 to R100). A report that an earlier event has left is taken first (log entry 39). -/
def Sys2Proof.Claims.SlotSamplesOneStrobe : Prop :=
  ∀ s : State,
    let p := s.panel
    let q := p.slotEnd s.pins.panel
    q.strobe = p.strobe + 1 ∧ q.pressed = p.pressed ∧ q.mask = p.mask ∧ q.menuHold = p.menuHold
    ∧ q.settled = p.settled ∧ (∀ k : Strobe, s.strobeDriven k = true ↔ k = p.strobe)
    ∧ (p.settled = true → q.samples = p.samples ∧ q.scan = p.scan ∧ ∀ w : Switch, q.counts[w] =
        if w.val / 8 ≠ p.strobe.val then p.counts[w]
        else if s.pins.panel.getLsbD w = p.pressed.contains w then 0 else p.counts[w] + 1)
    ∧ (p.settled = false → q.counts = p.counts ∧ ∃ x : BitVec 64,
        (∀ w : Switch, x.getLsbD w =
          (p.scan.getLsbD w || (decide (w.val / 8 = p.strobe.val) && s.pins.panel.getLsbD w)))
        ∧ (p.strobe ≠ 7 → q.scan = x ∧ q.samples = p.samples)
        ∧ (p.strobe = 7 → q.scan = 0 ∧ q.samples = p.samples ++ [x]))
    ∧ (p.settled = true → s.duePanel =
        ((List.finRange 64).filter fun w => decide (4 ≤ p.counts[w])).map fun w =>
          .switchEvent w (if p.pressed.contains w then .release else .press))
    ∧ (s.Settled → s.drain = s)
    ∧ (s.pending = [] → s.drain.panel.strobe ≠ 7 →
        let u : State := { s.drain with panel := s.drain.panel.slotEnd s.drain.pins.panel }
        step s = takeAllDue u.duePanel u)

/-- The events that are due, each at its limit: a timer's own, or the time its rule gives (R4, R5, R36, R50, R53, R72, R99,
R100, R103, R106, R112, R117, R119, R142, R146 to R148, R182, R187). -/
def Sys2Proof.Claims.DueEventsAtLimits : Prop :=
  ∀ s : State,
    let runsOut := fun t : Option Timer => ∃ w : Timer, t = some w ∧ w.limit ≤ w.count
    (∀ c : Chute, (.maxTimerExpiry c ∈ s.due ↔
        (s.chute c).state = .inCoin ∧ s.pins.coin[c] = true ∧ (s.chute c).maxWidth ≤ (s.chute c).width)
      ∧ (.jamReleaseExpiry c ∈ s.due ↔
        (s.chute c).state = .jammed ∧ s.pins.coin[c] = false ∧ 500 ≤ (s.chute c).jamCount))
    ∧ (∀ u : PulseId,
        (.leadEnd u ∈ s.due ↔ ∃ p, s.pulse u = some p ∧ p.phase = .lead ∧ p.lead ≤ p.count)
        ∧ (.activeEnd u ∈ s.due ↔ ∃ p, s.pulse u = some p ∧ p.phase = .active ∧ p.active ≤ p.count)
        ∧ (.trailEnd u ∈ s.due ↔ ∃ p, s.pulse u = some p ∧ p.phase = .trail ∧ p.trail ≤ p.count))
    ∧ (∀ b : Bay,
        (.echoWindowExpiry b ∈ s.due ↔ runsOut (s.feeder b).window)
        ∧ (.resetHoldExpiry b ∈ s.due ↔ (s.bay b).state = .starting ∧ runsOut (s.bay b).timer)
        ∧ (.bootLimitExpiry b ∈ s.due ↔ (s.bay b).state = .booting ∧ runsOut (s.bay b).timer)
        ∧ (.coolingExpiry b ∈ s.due ↔ (s.bay b).state = .cooling ∧ runsOut (s.bay b).timer)
        ∧ (.fieldGapExpiry b ∈ s.due ↔ (s.checker b).state = .locked ∧ 200 ≤ (s.checker b).gap)
        ∧ ∀ m : CoinLine, .echo b m ∈ s.due ↔
            (∃ n, s.filter b m = .counting n ∧ 5 ≤ n) ∨ (s.filter b m = .dark ∧ m ∈ s.filters[b].late))
    ∧ (.startWidthExpiry ∈ s.due ↔ runsOut s.gate.timer)
    ∧ (.menuHoldExpiry ∈ s.due ↔ runsOut s.panel.menuHold) ∧ (.quietExpiry ∈ s.due ↔ runsOut s.routing.quiet)
    ∧ (.settleExpiry ∈ s.due ↔ runsOut s.monitor.settle)
    ∧ (.audioRampEnd ∈ s.due ↔ (s.monitor.audio = .rising ∧ Config.gainFull ≤ s.monitor.gain)
        ∨ (s.monitor.audio = .falling ∧ s.monitor.gain = 0))
    ∧ (∀ (w : Switch) (n : GeneralLine), .routePulseExpiry w n ∈ s.due ↔
        ∃ p ∈ s.routing.pulses, p.switch = w ∧ p.line = n ∧ p.timer.limit ≤ p.timer.count)
    ∧ (∀ l : Link, .frameGapTimeout l ∈ s.due ↔ 20 < (s.link l).rx.gap)
    ∧ (∀ x : Bool, .serviceKeyChange x ∈ s.due ↔ x = s.pins.key ∧ 4 ≤ s.key.count)
    ∧ (∀ s1 s2 s3 s4 : BitVec 64, .firstCompleteDebounce s1 s2 s3 s4 ∈ s.due ↔
        s.panel.settled = false ∧ s.panel.samples = [s1, s2, s3, s4])
    ∧ ∀ (w : Switch) (e : Edge), .switchEvent w e ∈ s.due ↔ .switchEvent w e ∈ s.duePanel

/-- The slot of strobe 7 ends with a tick: the counts go on, the PWM duty takes its pending value and coils that have
lasted 60 ms hold (R18, R19), and the events due are taken as commands, each that is still due at its turn, in an order
that keeps the switch events' own (log entries 3 and 8). -/
def Sys2Proof.Claims.TickTakesDueEvents : Prop :=
  (∀ s : State, s.pending = [] → s.drain.panel.strobe = 7 →
    let v := State.tickCounts { s.drain with panel := s.drain.panel.slotEnd s.drain.pins.panel }
    let u : State := { v with intake := { v.intake with
      activeDuty := v.intake.pendingDuty
      coils := Vector.ofFn fun c =>
        match v.intake.coils[c] with
        | .pullIn n => if 60 ≤ n then .hold else .pullIn n
        | .off => .off
        | .hold => .hold
        | .tripped => .tripped } }
    (u.due = [] → step s = .next u.drawn)
    ∧ ∃ order : List Instr, order.Perm u.due ∧ u.duePanel.Sublist order ∧ step s = takeAllDue order u.drawn)
  ∧ ∀ (s : State) (i : Instr) (rest : List Instr), takeAllDue [] s = .next s
    ∧ (i ∈ s.due → ∀ t, exec i s = .next t → takeAllDue (i :: rest) s = takeAllDue rest t)
    ∧ (i ∉ s.due → takeAllDue (i :: rest) s = takeAllDue rest s)

/-- Time passes by strobe slots and ticks: every running count goes on by one at a tick, each strobe is sampled at its
slot's end, and an event that falls due at its limit is taken as its command (that a step on an empty queue is a slot is
the model's choice, log entry 3). -/
def Obligations.TickAdvancesRunningCounts : Prop :=
  Claims.TickCountsOn ∧ Claims.SlotSamplesOneStrobe ∧ Claims.DueEventsAtLimits ∧ Claims.TickTakesDueEvents

/-! ## Reset and invariants -/

/-- The state right after reset holds the factory defaults (R25, R97), every bay DISABLED (R137) and the stage MENU
(R173); that the store is found invalid is the model's choice (log entry 4). -/
def Sys2Proof.Claims.ResetStateHoldsDefaults : Prop :=
  State.reset.tables = Tables.factory ∧ State.reset.flags = RetainedFlags.factory
    ∧ State.reset.store.arrival = [] ∧ State.reset.store.allocator = 0 ∧ State.reset.store.free = 64
    ∧ (∀ i : CounterIx, State.reset.counter i = 0) ∧ State.reset.audit.full = false
    ∧ State.reset.stage = .menu ∧ State.reset.snapshot = none ∧ State.reset.gate = Gate.fresh
    ∧ (∀ b : Bay, (State.reset.bay b).state = .disabled ∧ (State.reset.bay b).attempts = 2
        ∧ State.reset.feeder b = Feeder.fresh ∧ State.reset.checker b = Checker.fresh
        ∧ State.reset.filter b .one = .dark ∧ State.reset.filter b .two = .dark)
    ∧ State.reset.power.warm = [] ∧ State.reset.monitor.source = .menu ∧ State.reset.monitor.lineClass = .low
    ∧ State.reset.intake.closed = false ∧ State.reset.intake.faultLatch = false ∧ State.reset.pending = []

/-- What holds from one event to the next holds at reset. -/
def Sys2Proof.Claims.ResetStateMeetsInvariants : Prop := State.reset.Safe

/-- The state right after reset: its values, and the invariants the steps keep; that its store is found invalid is the
model's choice (log entry 4). -/
def Obligations.ResetStateIsSafe : Prop :=
  Claims.ResetStateHoldsDefaults ∧ Claims.ResetStateMeetsInvariants

/-- A part reset keeps a retained store found valid, returns every token to the pool, and takes the factory defaults
together otherwise; every other block takes its reset values, and STAGE (RESTART) is the first notice. -/
def Sys2Proof.Claims.PartResetTakesValues : Prop :=
  ∀ (s : State) (intact : Bool), ∃ t, exec (.partReset (if intact then .whole else .corrupt)) s = .next t
    ∧ (let valid := intact && s.tables.valid
       t.tables = (if valid then s.tables else Tables.factory)
       ∧ t.flags = (if valid then s.flags else RetainedFlags.factory)
       ∧ t.audit = (if valid then s.audit else Audit.factory)
       ∧ t.store.allocator = (if valid then s.store.allocator else 0)
       ∧ t.store.arrival = (if valid then s.store.arrival.map fun k => { k with place := .pool } else [])
       ∧ ∀ l : Link, t.link l =
          { LinkState.fresh with
            tx := some (.notice (.stageRestart valid))
            queue := if s.pins.coilFault then [.intake .coilFault none t.intakeView] else [] })
    ∧ t.stage = .menu ∧ t.snapshot = none ∧ t.gate = Gate.fresh ∧ t.panel = Panel.fresh ∧ t.routing = Routing.fresh
    ∧ t.pulses = PulseBank.fresh ∧ t.power.warm = [] ∧ t.power.protectedSet = []
    ∧ (∀ b : Bay, t.feeder b = Feeder.fresh ∧ t.checker b = Checker.fresh ∧ t.filters[b] = BayFilters.fresh
        ∧ t.bay b = { state := if t.flags.enabled[b] then .off else .disabled
                      attempts := (t.profile b).general.attempts
                      deferred := none, releasePending := false, timer := none })
    ∧ (∀ c : Chute, t.chute c = ChuteRecord.fresh (chuteStart (t.chuteConfig c).enabled s.pins.coin[c]))
    ∧ t.intake.closed = t.closureHolds ∧ t.intake.faultLatch = s.pins.coilFault
    ∧ t.intake.activeDuty = t.tables.cabinet.system.holdDuty ∧ t.intake.pendingDuty = t.tables.cabinet.system.holdDuty
    ∧ (∀ c : Chute, t.intake.coils[c] =
        if s.pins.coilFault then .tripped else if t.coilWanted c then .pullIn 0 else .off)
    ∧ (let ramp := t.tables.cabinet.system.ramp
       t.monitor = { source := .menu, lineClass := t.tables.cabinet.system.menuClass, settle := none, cut := none
                     ramp := ramp, audio := if ramp = 0 then .full else .rising
                     gain := if ramp = 0 then Config.gainFull else 0 })
    ∧ t.key = { closed := false, count := 0 }
    ∧ t.pins = s.pins ∧ t.Settled ∧ t.pending = s.pending

/-- A part reset that a power failure brings within an event finds the event's records written, but that a confirmation
which completes a charge may have kept TOKENS_SPENT and CONFIRMED and lost PLAYS (R78, R175; log entry 29). -/
def Sys2Proof.Claims.PowerFailureMayLosePlay : Prop :=
  ∀ (s : State) (c : Confirming),
    let i := match c with
      | .trailEnd u => Instr.trailEnd u
      | .echo b m => Instr.echo b m
    ∃ v, exec i s = .next v
      ∧ (¬(s.gate.state = .paying ∧ v.gate.state = .firing) →
          exec (.partReset (.torn c)) s = exec (.partReset .whole) v)
      ∧ ∀ b : Bay, s.gate.state = .paying → v.gate.state = .firing → v.gate.bay = some b →
          exec (.partReset (.torn c)) s = exec (.partReset .whole)
            { v with audit := (s.audit.advance tokensSpentIx (s.store.live - v.store.live)).advance (confirmedIx b) 1 }

/-- A part reset, by what the integrity check finds and by where a power failure fell (R24, R47, R97, R114, R137, R173,
R175). -/
def Obligations.PartResetKeepsOrDefaults : Prop :=
  Claims.PartResetTakesValues ∧ Claims.PowerFailureMayLosePlay

/-- The token counters go on accounting for the Token Store over every step, the store keeping its form (R8, R174,
R176). -/
def Obligations.StepKeepsTokenAccount : Prop :=
  ∀ s t : State, s.Bounded → s.Balanced → s.StoreOk → step s = .next t → t.Bounded ∧ t.Balanced ∧ t.StoreOk

/-- While the settle timer runs the source is BLANK, over every step (R149). -/
def Obligations.StepKeepsSettlingBlank : Prop :=
  ∀ s t : State, s.SettlesBlank → step s = .next t → t.SettlesBlank

/-- The settings stay within their ranges and conditions over every step (R81, R86, R90 to R92, R97). -/
def Obligations.StepKeepsTablesInRange : Prop :=
  ∀ s t : State, s.TablesOk → step s = .next t → t.TablesOk

/-- After every step no report is left waiting, but for one report of a power cut that may be left for the next event (log
entry 39), and no notice queue passes 16 (R190). -/
def Obligations.StepKeepsQueuesBounded : Prop :=
  ∀ s t : State, s.ReportsOk → s.QueuesOk → step s = .next t → t.ReportsOk ∧ t.QueuesOk

/-- Feeders hold units for RUNNING bays only, at most eight queued, over every step (R28). -/
def Obligations.StepKeepsFeedersPowered : Prop :=
  ∀ s t : State, s.FeedersOk → step s = .next t → t.FeedersOk

/-- The warm list holds RUNNING bays in no role, each once, and the powered load stays within the budget, over every
step (R120, R131). -/
def Obligations.StepKeepsLoadWithinBudget : Prop :=
  ∀ s t : State, s.HandoverOk → s.WarmOk → s.WithinBudget → step s = .next t →
    t.HandoverOk ∧ t.WarmOk ∧ t.WithinBudget

/-- A counter advanced by `k` grows by `k` up to 16,777,215; only an advance past that sets the counter-full flag, and
no other counter moves (R174; that the first advance after an exact arrival sets it is log entry 42). -/
def Sys2Proof.Claims.CounterStopsAtMaximum : Prop :=
  ∀ (s : State) (i : CounterIx) (k : Nat), s.Bounded →
    (s.bump i k).counter i = min 16777215 (s.counter i + k)
    ∧ (∀ j, j ≠ i → (s.bump i k).counter j = s.counter j)
    ∧ ((s.bump i k).audit.full = true ↔ s.audit.full = true ∨ 16777215 < s.counter i + k)

/-- No counter decreases and the counter-full flag stays set, except that a part reset which finds the retained store
invalid sets every counter to 0 and clears the flag (R174). -/
def Sys2Proof.Claims.CountersNeverDecrease : Prop :=
  ∀ (s t : State) (i : Instr), s.Bounded → exec i s = .next t →
    ((∀ j, s.counter j ≤ t.counter j) ∧ (s.audit.full = true → t.audit.full = true))
    ∨ (t.audit = Audit.factory ∧
        (i = .partReset .corrupt ∨ (∃ found, i = .partReset found ∧ s.tables.valid = false)
          ∨ ∃ l x, i = .replySent l x ∧ (x && s.tables.valid) = false
              ∧ ∃ p, (s.link l).pending = some p ∧ p.after = .restart))

/-- A counter grows by what is counted, stops at its maximum with the counter-full flag set, and never decreases short of a
part reset that finds the retained store invalid (R174). -/
def Obligations.CountersOnlyGrow : Prop :=
  Claims.CounterStopsAtMaximum ∧ Claims.CountersNeverDecrease

/-- While the table lock is FIXED no command changes the tables, except a part reset which finds the retained store
invalid (R94). -/
def Obligations.FixedLockKeepsTables : Prop :=
  ∀ (s t : State) (i : Instr), s.tables.lock = .fixed → exec i s = .next t →
    t.tables = s.tables
    ∨ (t.tables = Tables.factory ∧
        (i = .partReset .corrupt ∨ (∃ found, i = .partReset found ∧ s.tables.valid = false)
          ∨ ∃ l x, i = .replySent l x ∧ (x && s.tables.valid) = false
              ∧ ∃ p, (s.link l).pending = some p ∧ p.after = .restart))

/-! ## Requests, as the links judge them -/

/-- A request on a link that holds one is discarded with the busy-refusal mark set; one that suits no frame is refused
FORMAT, and one above the link's level LEVEL, with nothing else changed (R185 to R187). -/
def Sys2Proof.Claims.LinkJudgesRequestFirst : Prop :=
  ∀ (s : State) (i : Instr) (l : Link) (r : Request), i.request? = some (l, r) →
    ((s.link l).busy = true → exec i s = .next (s.setLink l
        { s.link l with mark := some (((s.link l).mark).getD r.typ) }))
    ∧ ((s.link l).busy = false → r.wf = false → s.Refuses i l r .format)
    ∧ ((s.link l).busy = false → r.wf = true → s.holdsLevel l r = false → s.Refuses i l r .level)

/-- The selector link holds play level at all times, and the service link operator level exactly while the service key
is closed (R187). -/
def Sys2Proof.Claims.AccessLevelFollowsKey : Prop :=
  ∀ (s : State) (l : Link) (r : Request),
    s.holdsLevel l r = true ↔ r.operator = false ∨ (l = .service ∧ s.key.closed = true)

/-- Every request that a free link receives is owed exactly one reply (R185, R188). -/
def Sys2Proof.Claims.EachRequestOwedOneReply : Prop :=
  ∀ (s : State) (i : Instr) (l : Link) (r : Request), i.request? = some (l, r) → (s.link l).busy = false →
    ∃ t p, exec i s = .next t ∧ (t.link l).replying = some p ∧ (t.link l).mark = none

/-- What a link makes of a request before its owning rule judges it, and the one reply it is owed (R185 to R188). -/
def Obligations.LinkJudgesRequests : Prop :=
  Claims.LinkJudgesRequestFirst ∧ Claims.AccessLevelFollowsKey ∧ Claims.EachRequestOwedOneReply

/-! ## Coin intake (01) -/

/-- An active edge of a coin input, by the chute's state (R2, R5). -/
def Sys2Proof.Claims.CoinEdgeActsByChuteState : Prop :=
  ∀ (s : State) (c : Chute), ∃ t, exec (.coinActiveEdge c) s = .next t
    ∧ t = { s with pins := { s.pins with coin := s.pins.coin.set c true }
                   intake := { s.intake with chutes := t.intake.chutes } }
    ∧ (∀ d : Chute, d ≠ c → t.chute d = s.chute d)
    ∧ t.chute c =
      match (s.chute c).state with
      | .idle => { s.chute c with
          state := .inCoin, width := 0, minWidth := (s.chuteConfig c).minWidth, maxWidth := (s.chuteConfig c).maxWidth
          weight := (s.chuteConfig c).weight }
      | .jammed => { s.chute c with jamCount := 0 }
      | .inCoin => s.chute c
      | .disabled => s.chute c

/-- A release ends a pulse: noise below the captured min width, and up to the captured max width a valid coin, whose
tokens are created when the store has room for them all and which is an overflow coin otherwise; one held past the max
width has jammed its chute (R3, R4, R7; log entry 12). -/
def Sys2Proof.Claims.CoinReleaseJudgesPulse : Prop :=
  ∀ (s : State) (c : Chute) (held : Nat), (s.chute c).state = .inCoin →
    let r := s.chute c
    let w := r.width + held
    let u := (s.setPins { s.pins with coin := s.pins.coin.set c false }).setChute c { r with state := .idle, width := w }
    (w < r.minWidth → w ≤ r.maxWidth → exec (.coinRelease c held) s = .next u)
    ∧ (r.minWidth ≤ w → w ≤ r.maxWidth → r.weight ≤ s.store.free →
        ∃ t, exec (.coinRelease c held) s = .next t
          ∧ t.store = s.store.create .coin (some c) r.weight
          ∧ t.audit = (s.audit.advance (coinsIx c) 1).advance tokensInIx r.weight
          ∧ u.ClosureFollows t ∧ s.Tells t (u.storeNotices t .coin r.weight none)
          ∧ t = { u with store := t.store, audit := t.audit, intake := t.intake, links := t.links })
    ∧ (r.minWidth ≤ w → w ≤ r.maxWidth → s.store.free < r.weight →
        ∃ t, exec (.coinRelease c held) s = .next t
          ∧ t.audit = (s.audit.advance (coinsIx c) 1).advance overflowIx 1
          ∧ s.Tells t [.intake .overflow (some c) u.intakeView]
          ∧ t = { u with audit := t.audit, links := t.links })
    ∧ (r.maxWidth < w → ∃ t, exec (.coinRelease c held) s = .next t
          ∧ t.chute c = { r with state := .jammed, jamCount := 0 } ∧ (∀ d : Chute, d ≠ c → t.chute d = s.chute d)
          ∧ s.CoilsFollow t ∧ s.Tells t [.intake .jammed (some c) t.intakeView]
          ∧ t.intake = { s.intake with chutes := t.intake.chutes, coils := t.intake.coils }
          ∧ t = { s with pins := u.pins, intake := t.intake, links := t.links })

/-- A coin pulse from its active edge to its release (R2 to R5, R7). -/
def Obligations.CoinPulseJudged : Prop :=
  Claims.CoinEdgeActsByChuteState ∧ Claims.CoinReleaseJudgesPulse

/-- A chute jams at its max timer's expiry, and its jam clears at its jam release expiry, whatever the counts (log entry
11); the coils follow, an INTAKE notice is sent and nothing is counted (R4, R5, R18). -/
def Obligations.ChuteJamsAndClears : Prop :=
  ∀ (s : State) (c : Chute),
    ((s.chute c).state = .inCoin → ∃ t, exec (.maxTimerExpiry c) s = .next t
      ∧ t.chute c = { s.chute c with state := .jammed, jamCount := 0 }
      ∧ (∀ d : Chute, d ≠ c → t.chute d = s.chute d) ∧ s.CoilsFollow t
      ∧ s.Tells t [.intake .jammed (some c) t.intakeView]
      ∧ t.intake = { s.intake with chutes := t.intake.chutes, coils := t.intake.coils }
      ∧ t = { s with intake := t.intake, links := t.links })
    ∧ ((s.chute c).state = .jammed → s.pins.coin[c] = false → ∃ t, exec (.jamReleaseExpiry c) s = .next t
      ∧ t.chute c = { s.chute c with state := .idle, jamCount := 0 }
      ∧ (∀ d : Chute, d ≠ c → t.chute d = s.chute d) ∧ s.CoilsFollow t
      ∧ s.Tells t [.intake .jamCleared (some c) t.intakeView]
      ∧ t.intake = { s.intake with chutes := t.intake.chutes, coils := t.intake.coils }
      ∧ t = { s with intake := t.intake, links := t.links })

/-- The end of PULL_IN takes one coil to HOLD, and at a PWM period boundary the active hold duty takes the pending
value (R18, R19). -/
def Sys2Proof.Claims.CoilHoldsAtActiveDuty : Prop :=
  ∀ s : State,
    (∀ (c : Chute) (n : Nat), s.intake.coils[c] = .pullIn n → exec (.pullInExpiry c) s = .next
      { s with intake := { s.intake with coils := s.intake.coils.set c .hold } })
    ∧ exec .pwmPeriodBoundary s = .next { s with intake := { s.intake with activeDuty := s.intake.pendingDuty } }
    ∧ ∀ c : Chute, s.intake.coils[c] = .hold → s.coilDrive c = s.intake.activeDuty

/-- The coil fault input acts on its level: active with the latch clear it sets the latch and moves every coil to
TRIPPED with an INTAKE notice, and otherwise it has no effect (R20). -/
def Sys2Proof.Claims.CoilFaultTripsEveryCoil : Prop :=
  ∀ (s : State) (active : Bool),
    let u : State := { s with pins := { s.pins with coilFault := active } }
    ((active = false ∨ s.intake.faultLatch = true) → exec (.coilFault active) s = .next u)
    ∧ (active = true → s.intake.faultLatch = false → ∃ t, exec (.coilFault active) s = .next t
        ∧ t.intake = { s.intake with faultLatch := true, coils := Vector.replicate 4 .tripped }
        ∧ s.Tells t [.intake .coilFault none t.intakeView]
        ∧ t = { u with intake := t.intake, links := t.links })

/-- The coils' PULL_IN end, whatever its count (log entry 11), duty and fault (R18, R19, R20). -/
def Obligations.CoilsFollowAndTrip : Prop :=
  Claims.CoilHoldsAtActiveDuty ∧ Claims.CoilFaultTripsEveryCoil

/-- SET_INTAKE sets the intake-open flag; a change re-evaluates closure, and no change has no further effect (R15,
R16). -/
def Sys2Proof.Claims.SetIntakeSetsFlag : Prop :=
  ∀ (s : State) (l : Link) (v : Byte), s.Takes l (.setIntake v) →
    (1 < v.toNat → s.Refuses (.setIntake l v) l (.setIntake v) .range)
    ∧ ∀ f : Bool, v.toNat = f.toNat →
      (s.flags.intakeOpen = f → s.Reads (.setIntake l v) l (.setIntake v) [])
      ∧ (s.flags.intakeOpen ≠ f → ∃ t, exec (.setIntake l v) s = .next t
          ∧ t.flags = { s.flags with intakeOpen := f } ∧ s.ClosureFollows t
          ∧ s.Answers t l (.setIntake v) [] (s.closureNotices t)
          ∧ t = { s with flags := t.flags, intake := t.intake, links := t.links })

/-- ARM_COILS clears the coil fault latch unless the input is active, and every coil leaves TRIPPED for OFF and then
follows its condition (R21). -/
def Sys2Proof.Claims.ArmCoilsClearsLatch : Prop :=
  ∀ (s : State) (l : Link), s.Takes l .armCoils →
    (s.pins.coilFault = true → s.Refuses (.armCoils l) l .armCoils .faultPresent)
    ∧ (s.pins.coilFault = false → s.intake.faultLatch = false → s.Reads (.armCoils l) l .armCoils [])
    ∧ (s.pins.coilFault = false → s.intake.faultLatch = true → ∃ t, exec (.armCoils l) s = .next t
        ∧ t.intake.faultLatch = false
        ∧ (∀ c : Chute, t.intake.coils[c] =
            (if s.intake.coils[c] = .tripped then Coil.off else s.intake.coils[c]).follow (t.coilWanted c))
        ∧ s.Answers t l .armCoils [] [.intake .coilsArmed none t.intakeView]
        ∧ t.intake = { s.intake with faultLatch := false, coils := t.intake.coils }
        ∧ t = { s with intake := t.intake, links := t.links })

/-- The operator's requests to the intake (R16, R21). -/
def Obligations.IntakeRequestsAct : Prop :=
  Claims.SetIntakeSetsFlag ∧ Claims.ArmCoilsClearsLatch

/-- GRANT creates n tokens of origin GRANT at the pool tail when the store has room for them (R22). -/
def Sys2Proof.Claims.GrantCreatesTokens : Prop :=
  ∀ (s : State) (l : Link) (n : Byte), s.Takes l (.grant n) →
    ((n.toNat < 1 ∨ 16 < n.toNat) → s.Refuses (.grant l n) l (.grant n) .range)
    ∧ (1 ≤ n.toNat → n.toNat ≤ 16 → s.store.free < n.toNat → s.Refuses (.grant l n) l (.grant n) .noRoom)
    ∧ (1 ≤ n.toNat → n.toNat ≤ 16 → n.toNat ≤ s.store.free → ∃ t, exec (.grant l n) s = .next t
        ∧ t.store = s.store.create .grant none n.toNat
        ∧ t.audit = (s.audit.advance tokensInIx n.toNat).advance tokensGrantedIx n.toNat
        ∧ s.ClosureFollows t ∧ s.Answers t l (.grant n) [] (s.storeNotices t .grant n.toNat none)
        ∧ t = { s with store := t.store, audit := t.audit, intake := t.intake, links := t.links })

/-- WITHDRAW, an operator-level request, retires the n oldest pool tokens, and no token in a unit (R23). -/
def Obligations.WithdrawRetiresOldestPool : Prop :=
  ∀ (s : State) (l : Link) (n : Byte), (Request.withdraw n).operator = true ∧ (s.Takes l (.withdraw n) →
    ((n.toNat < 1 ∨ 64 < n.toNat) → s.Refuses (.withdraw l n) l (.withdraw n) .range)
    ∧ (1 ≤ n.toNat → n.toNat ≤ 64 → s.store.poolCount < n.toNat →
        s.Refuses (.withdraw l n) l (.withdraw n) .noCredit)
    ∧ (1 ≤ n.toNat → n.toNat ≤ 64 → n.toNat ≤ s.store.poolCount → ∃ t, exec (.withdraw l n) s = .next t
        ∧ t.store.poolTokens = s.store.poolTokens.drop n.toNat
        ∧ t.store.arrival.Sublist s.store.arrival
        ∧ (t.store.arrival.filter fun k => decide (k.place ≠ .pool))
            = (s.store.arrival.filter fun k => decide (k.place ≠ .pool))
        ∧ t.store.allocator = s.store.allocator
        ∧ t.audit = s.audit.advance tokensWithdrawnIx n.toNat
        ∧ s.ClosureFollows t ∧ s.Answers t l (.withdraw n) [] (s.storeNotices t .withdraw n.toNat none)
        ∧ t = { s with store := t.store, audit := t.audit, intake := t.intake, links := t.links }))

/-- A created token takes the allocator's value, or the first value after it that no live token holds, and stands in
the pool at the end of the arrival list (R9). -/
def Sys2Proof.Claims.CreatedTokenTakesFreeNumber : Prop :=
  ∀ (t : TokenStore) (o : Origin) (c : Option Chute), t.live ≤ 63 →
    ∃ k : Nat, k ≤ 63
      ∧ t.createOne o c =
          { arrival := t.arrival ++ [{ seq := t.allocator + BitVec.ofNat 16 k, chute := c, origin := o, place := .pool }]
            allocator := t.allocator + BitVec.ofNat 16 k + 1 }
      ∧ (∀ x ∈ t.arrival, x.seq ≠ t.allocator + BitVec.ofNat 16 k)
      ∧ ∀ j : Nat, j < k → ∃ x ∈ t.arrival, x.seq = t.allocator + BitVec.ofNat 16 j

/-- Tokens are created one after another, each behind the one before it (R7, R9, R22). -/
def Sys2Proof.Claims.TokensCreatedOneByOne : Prop :=
  ∀ (t : TokenStore) (o : Origin) (c : Option Chute) (n : Nat),
    t.create o c 0 = t ∧ t.create o c (n + 1) = (t.createOne o c).create o c n

/-- GRANT, and the number and place each created token takes (R9, R22). -/
def Obligations.GrantAddsNumberedTokens : Prop :=
  Claims.GrantCreatesTokens ∧ Claims.CreatedTokenTakesFreeNumber ∧ Claims.TokensCreatedOneByOne

/-- A return puts every token of the named units back in the pool, each at its position in the arrival list, and moves
no audit counter (R11). -/
def Sys2Proof.Claims.ReturnKeepsArrivalOrder : Prop :=
  ∀ (s : State) (b : Bay) (ns : List UnitNo),
    (s.returnUnits b ns).store.arrival =
      s.store.arrival.map (fun k => if (∃ n ∈ ns, k.place = .feeder b n) then { k with place := .pool } else k)
    ∧ (s.returnUnits b ns).store.allocator = s.store.allocator ∧ (s.returnUnits b ns).audit = s.audit
    ∧ (s.store.countUnits b ns ≠ 0 →
        s.Tells (s.returnUnits b ns)
          (s.storeNotices (s.returnUnits b ns) .giveBack (s.store.countUnits b ns) (some b)))

/-! ## Feeders and pulse units (02) -/

/-- TRANSFER, a play-level request, is refused by the first test of R34 that fails; else n units of cause TRANSFER are
formed from the oldest pool tokens, rate tokens each, and join the feeder's units, no counter moving (R10, R26, R29,
R34). -/
def Sys2Proof.Claims.TransferDrawsUnits : Prop :=
  ∀ (s : State) (l : Link) (bay n : Byte), (Request.transfer bay n).operator = false ∧ (s.Takes l (.transfer bay n) →
    ((7 < bay.toNat ∨ n.toNat < 1 ∨ 8 < n.toNat) → s.Refuses (.transfer l bay n) l (.transfer bay n) .range)
    ∧ ∀ b : Bay, bay.toNat = b.val → 1 ≤ n.toNat → n.toNat ≤ 8 →
      let rate := (s.profile b).coin.rate
      ((s.bay b).state ≠ .running ∨ (s.profile b).play.payMode = .freePlay →
          s.Refuses (.transfer l bay n) l (.transfer bay n) .state)
      ∧ ((s.bay b).state = .running → (s.profile b).play.payMode ≠ .freePlay →
          (s.store.poolCount < n.toNat * rate → s.Refuses (.transfer l bay n) l (.transfer bay n) .noCredit)
          ∧ (n.toNat * rate ≤ s.store.poolCount → 8 - (s.feeder b).queue.length < n.toNat →
              s.Refuses (.transfer l bay n) l (.transfer bay n) .queueFull)
          ∧ (n.toNat * rate ≤ s.store.poolCount → n.toNat ≤ 8 - (s.feeder b).queue.length →
              ∃ t, exec (.transfer l bay n) s = .next t ∧ s.KeepsUnits t b ∧ ∃ new : List CoinUnit,
                (t.feeder b).units = (s.feeder b).units ++ new
                ∧ new.length = n.toNat
                ∧ (∀ u ∈ new, u.tokens.length = rate ∧ u.line = (s.profile b).coin.line ∧ u.cause = .transfer)
                ∧ new.flatMap CoinUnit.tokens = (s.store.poolTokens.take (n.toNat * rate)).map Token.seq
                ∧ t.store.poolTokens = s.store.poolTokens.drop (n.toNat * rate)
                ∧ t.store.arrival.map Token.seq = s.store.arrival.map Token.seq
                ∧ t.store = (s.formUnits b .transfer n.toNat).store
                ∧ (t.feeder b).units = ((s.formUnits b .transfer n.toNat).feeder b).units
                ∧ (t.feeder b).nextUnit = ((s.formUnits b .transfer n.toNat).feeder b).nextUnit
                ∧ s.ClosureFollows t
                ∧ s.Answers t l (.transfer bay n) [] (s.storeNotices t .draw (n.toNat * rate) (some b))
                ∧ t = { s with store := t.store, feeders := t.feeders, pulses := t.pulses, intake := t.intake
                               links := t.links })))

/-- Units are formed one after another: each takes the next-unit counter, which skips the numbers its feeder holds, and
the rate oldest pool tokens, whose place becomes FEEDER with its bay and number (R10, R26). -/
def Sys2Proof.Claims.FormedUnitTakesNumberAndTokens : Prop :=
  ∀ (s : State) (b : Bay) (cause : UnitCause) (k : Nat),
    s.formUnits b cause 0 = s ∧ s.formUnits b cause (k + 1) = (s.formUnit b cause).formUnits b cause k
    ∧ (s.StoreOk → (s.feeder b).numbers.length ≤ 9 → ∃ j : Nat, j ≤ 9 ∧
      let f := s.feeder b
      let g := (s.profile b).coin
      let n := f.nextUnit + BitVec.ofNat 8 j
      let drawn := s.store.poolTokens.take g.rate
      let t := s.formUnit b cause
      n ∉ f.numbers ∧ (∀ x : Nat, x < j → f.nextUnit + BitVec.ofNat 8 x ∈ f.numbers)
      ∧ t.feeder b = { f with
          queue := f.queue ++ [{ number := n, tokens := drawn.map Token.seq, line := g.line, cause := cause
                                 status := .queued }]
          nextUnit := n + 1 }
      ∧ (∀ d : Bay, d ≠ b → t.feeder d = s.feeder d)
      ∧ t.store = { s.store with
          arrival := s.store.arrival.map fun x => if x ∈ drawn then { x with place := .feeder b n } else x }
      ∧ t = { s with store := t.store, feeders := t.feeders })

/-- TRANSFER, and the units a draw forms: their numbers, and the places of their tokens (R10, R26, R29, R34). -/
def Obligations.TransferFormsUnits : Prop :=
  Claims.TransferDrawsUnits ∧ Claims.FormedUnitTakesNumberAndTokens

/-- The arbiter's choice: the lowest waiting bay in FIXED, the first waiting bay after the rotation pointer in
ROTATING; a grant sets the pointer, so the second of two grants searches from the first (R41). -/
def Obligations.ArbiterChoosesByMode : Prop :=
  ∀ (s : State) (b : Bay),
    (s.tables.cabinet.system.arbiter = .fixed →
      (s.chosenBay = some b ↔ (s.feeder b).requests = true ∧ ∀ k : Bay, k < b → (s.feeder k).requests = false))
    ∧ (s.tables.cabinet.system.arbiter = .rotating →
      (s.chosenBay = some b ↔ (s.feeder b).requests = true
        ∧ ∀ k : Bay, (k - s.pulses.pointer - 1).val < (b - s.pulses.pointer - 1).val → (s.feeder k).requests = false))
    ∧ (s.freePulse.isSome = true → s.chosenBay = some b → s.grantOne.pulses.pointer = b)
    ∧ s.arbitrate = s.grantOne.grantOne

/-- A grant takes the head unit into the slot, and the pulse unit captures the unit's line and the profile's polarity
and lengths; a lead of 0 makes the grant the ACTIVE edge (R31, R36, R38). -/
def Sys2Proof.Claims.GrantStartsPulse : Prop :=
  ∀ (s : State) (u : PulseId) (b : Bay) (k : CoinUnit) (rest : List CoinUnit), (s.feeder b).queue = k :: rest →
    let g := (s.profile b).coin
    let opens := g.lead = 0 ∧ g.echoMode = .meter
    ∃ t, s.grantPulse u b = t
      ∧ t.pulse u = some { bay := b, line := k.line, polarity := g.polarity, lead := g.lead, active := g.active
                           trail := g.trail, phase := if g.lead = 0 then .active else .lead, count := 0 }
      ∧ t.feeder b = { s.feeder b with
          queue := rest, held := some u
          slot := some { k with status := if opens then .echoWait else .sending }
          window := if opens then some { count := 0, limit := g.window } else (s.feeder b).window }
      ∧ (∀ d : Bay, d ≠ b → t.feeder d = s.feeder d) ∧ (∀ v, v ≠ u → t.pulse v = s.pulse v) ∧ t.pulses.pointer = b
      ∧ t = { s with feeders := t.feeders, pulses := t.pulses }

/-- The end of LEAD is the ACTIVE edge, which opens the echo window in echo mode METER and moves nothing else in echo
mode NONE; the end of ACTIVE begins TRAIL (R36, R38). -/
def Sys2Proof.Claims.PulsePhasesFollow : Prop :=
  ∀ (s : State) (u : PulseId) (p : Pulse), s.pulse u = some p →
    (p.phase = .lead → ∀ k : CoinUnit, (s.feeder p.bay).slot = some k → ∃ t, exec (.leadEnd u) s = .next t
      ∧ t.pulse u = some { p with phase := .active, count := 0 } ∧ (∀ v, v ≠ u → t.pulse v = s.pulse v)
      ∧ t.pulses.pointer = s.pulses.pointer
      ∧ t.feeder p.bay =
          (if (s.profile p.bay).coin.echoMode = .meter then
            { s.feeder p.bay with
              slot := some { k with status := .echoWait }
              window := some { count := 0, limit := (s.profile p.bay).coin.window } }
          else s.feeder p.bay)
      ∧ (∀ d : Bay, d ≠ p.bay → t.feeder d = s.feeder d)
      ∧ t = { s with feeders := t.feeders, pulses := t.pulses })
    ∧ (p.phase = .active → exec (.activeEnd u) s = .next (s.setPulse u (some { p with phase := .trail, count := 0 })))

/-- A pulse from its grant through LEAD and ACTIVE to TRAIL (R31, R36, R38). -/
def Obligations.PulseRunsItsPhases : Prop :=
  Claims.GrantStartsPulse ∧ Claims.PulsePhasesFollow

/-- At TRAIL end a unit still awaiting its echo stays in the slot, and one in doubt makes its feeder HELD with a FEEDER
notice; the pulse unit is released to the feeders that wait (R32, R39, R56). -/
def Sys2Proof.Claims.TrailEndKeepsUnsettledUnit : Prop :=
  ∀ (s : State) (u : PulseId) (p : Pulse) (k : CoinUnit), s.Settled → s.pulse u = some p → p.phase = .trail →
    (s.feeder p.bay).slot = some k → k.status = .echoWait ∨ k.status = .doubt →
    let v := (s.setPulse u none).setFeeder p.bay { s.feeder p.bay with held := none }
    ∃ t, exec (.trailEnd u) s = .next t
      ∧ t.feeder p.bay = { s.feeder p.bay with held := none } ∧ s.KeepsUnits t p.bay
      ∧ s.ArbiterTakesUp v t u
      ∧ (k.status = .echoWait → t.links = s.links)
      ∧ (k.status = .doubt → s.Tells t
          [.feeder .held p.bay k.number k.tokens.length k.cause .held (s.feeder p.bay).queue.length])
      ∧ t = { s with feeders := t.feeders, pulses := t.pulses, links := t.links }

/-- What a confirmation of a TRANSFER unit does once its slot is empty: the unit retired as SPENT with TOKENS_SPENT and
CONFIRMED, the feeder going on with the units behind it (R12, R32, R33, R52). -/
def Sys2Proof.Claims.TrailEndConfirmsUnit : Prop :=
  ∀ (s : State) (u : PulseId) (p : Pulse) (k : CoinUnit), s.Settled → s.pulse u = some p → p.phase = .trail →
    (s.feeder p.bay).slot = some k → k.status = .confirmedInTrail ∨ k.status = .sending → k.cause = .transfer →
    (s.bay p.bay).releasePending = false ∨ (s.feeder p.bay).queue ≠ [] →
    let v := (s.setPulse u none).setFeeder p.bay { s.feeder p.bay with slot := none, held := none, window := none }
    ∃ t, exec (.trailEnd u) s = .next t
      ∧ t.audit = (s.audit.advance tokensSpentIx (s.store.live - t.store.live)).advance (confirmedIx p.bay) 1
      ∧ s.Settles t p.bay k ∧ s.ArbiterTakesUp v t u
      ∧ s.Tells t (s.storeNotices t .spent (s.store.live - t.store.live) (some p.bay))
      ∧ t = { s with store := t.store, audit := t.audit, feeders := t.feeders, pulses := t.pulses, intake := t.intake
                     links := t.links }

/-- The confirmation of a unit of cause GATE that does not complete a charge: an own outcome takes its number from the
unit list and counts it, and any other leaves the gate as it is (R64, R71). -/
def Sys2Proof.Claims.GateCountsOwnConfirmation : Prop :=
  ∀ (s : State) (u : PulseId) (p : Pulse) (k : CoinUnit), s.Settled → s.pulse u = some p → p.phase = .trail →
    (s.feeder p.bay).slot = some k → k.status = .confirmedInTrail ∨ k.status = .sending → k.cause = .gate →
    (s.bay p.bay).releasePending = false ∨ (s.feeder p.bay).queue ≠ [] →
    let own := s.gate.state = .paying ∧ s.gate.bay = some p.bay ∧ k.number ∈ s.gate.units
    (own → s.gate.confirmed + 1 ≠ s.gate.owed) →
    ∃ t, exec (.trailEnd u) s = .next t
      ∧ (own → t.gate = { s.gate with
          units := s.gate.units.filter (fun x => decide (x ≠ k.number)), confirmed := s.gate.confirmed + 1 })
      ∧ (¬own → t.gate = s.gate)
      ∧ t.audit = (s.audit.advance tokensSpentIx (s.store.live - t.store.live)).advance (confirmedIx p.bay) 1
      ∧ s.Settles t p.bay k
      ∧ s.Tells t (s.storeNotices t .spent (s.store.live - t.store.live) (some p.bay))
      ∧ t = { s with gate := t.gate, store := t.store, audit := t.audit, feeders := t.feeders, pulses := t.pulses
                     intake := t.intake, links := t.links }

/-- The settlement that leaves the feeder of a release-pending RUNNING bay IDLE cuts the bay's power, without a BAY notice
(R28, R133). -/
def Sys2Proof.Claims.LastUnitEndsReleasePending : Prop :=
  ∀ (s : State) (u : PulseId) (p : Pulse) (k : CoinUnit), s.Settled → s.pulse u = some p → p.phase = .trail →
    (s.feeder p.bay).slot = some k → k.status = .confirmedInTrail ∨ k.status = .sending →
    (s.feeder p.bay).queue = [] → (s.bay p.bay).releasePending = true → (s.bay p.bay).state = .running →
    s.NoRole p.bay → s.gate.bay ≠ some p.bay → s.monitor.source ≠ .bay p.bay →
    ∃ t, exec (.trailEnd u) s = .next t
      ∧ s.ReleasedAfter t p.bay ∧ s.Settles t p.bay k ∧ (t.feeder p.bay).state = .idle
      ∧ t.audit = (s.audit.advance tokensSpentIx (s.store.live - t.store.live)).advance (confirmedIx p.bay) 1
      ∧ s.Tells t (s.storeNotices t .spent (s.store.live - t.store.live) (some p.bay))
      ∧ t = { s with power := t.power, store := t.store, audit := t.audit, feeders := t.feeders, pulses := t.pulses
                     filters := t.filters, checkers := t.checkers, intake := t.intake, links := t.links }

/-- The end of TRAIL, by the status of the slot unit, and what it brings at the arbiter, at the gate and at a
release-pending bay (R32, R39, R71, R133). -/
def Obligations.TrailEndSettlesByStatus : Prop :=
  Claims.TrailEndKeepsUnsettledUnit ∧ Claims.TrailEndConfirmsUnit ∧ Claims.GateCountsOwnConfirmation
    ∧ Claims.LastUnitEndsReleasePending

/-! ## Meter echo and settlement (03) -/

/-- A meter line's edges at its filter: an active edge in READY begins to count, and an inactive level ends a count
without an echo or ends WAIT_RELEASE (R49, R50). -/
def Obligations.MeterEdgesMoveFilter : Prop :=
  ∀ (s : State) (b : Bay) (m : CoinLine),
    (∃ t, exec (.meterActiveEdge b m) s = .next t
      ∧ t.filter b m = (if s.filter b m = .ready then .counting 0 else s.filter b m)
      ∧ (∀ d n, (d, n) ≠ (b, m) → t.filter d n = s.filter d n) ∧ t.meterActive b m = true
      ∧ t = { s with pins := t.pins, filters := t.filters })
    ∧ ∃ t, exec (.meterRelease b m) s = .next t
      ∧ t.filter b m = (if s.filter b m = .dark then .dark else .ready)
      ∧ (∀ d n, (d, n) ≠ (b, m) → t.filter d n = s.filter d n) ∧ t.meterActive b m = false
      ∧ t = { s with pins := t.pins, filters := t.filters }

/-- An echo is judged by the first row of R51's table that applies; a stray moves STRAY and sends a notice and settles
nothing, and an echo of a unit whose pulse is in progress confirms it there (R51, R54, R58, R62). -/
def Sys2Proof.Claims.EchoJudgedByFirstRow : Prop :=
  ∀ (s : State) (b : Bay) (m : CoinLine) (n : Nat), s.filter b m = .counting n → s.Settled →
    let f := s.feeder b
    let u := s.setFilter b m .waitRelease
    let isStray := fun (why : StrayReason) => ∃ t, exec (.echo b m) s = .next t
      ∧ t.audit = s.audit.advance (strayIx b) 1 ∧ s.Tells t [.stray b m why f.state]
      ∧ t = { u with audit := t.audit, links := t.links }
    ((s.profile b).coin.echoMode = .none → isStray .echoNone)
    ∧ ((s.profile b).coin.echoMode = .meter →
      (f.slot = none → isStray .noUnit)
      ∧ ∀ k : CoinUnit, f.slot = some k →
        (m ≠ k.line → isStray .otherLine)
        ∧ (m = k.line →
          (k.status = .sending → isStray .notOpen)
          ∧ (k.status = .confirmedInTrail → isStray .settled)
          ∧ (k.status = .echoWait ∨ k.status = .doubt → f.held.isSome = true →
              exec (.echo b m) s = .next (u.setFeeder b
                { f with slot := some { k with status := .confirmedInTrail }, window := none }))))

/-- An echo after the pulse confirms the slot unit at once, and one that ends a doubt is told by a FEEDER notice
(RESUMED) after the POOL notice; the feeder goes on with the units behind it (R33, R52, R55, R58). -/
def Sys2Proof.Claims.EchoAfterPulseConfirms : Prop :=
  ∀ (s : State) (b : Bay) (m : CoinLine) (n : Nat) (k : CoinUnit), s.filter b m = .counting n → s.Settled →
    (s.profile b).coin.echoMode = .meter → (s.feeder b).slot = some k → m = k.line → (s.feeder b).held = none →
    k.status = .echoWait ∨ k.status = .doubt → k.cause = .transfer →
    (s.bay b).releasePending = false ∨ (s.feeder b).queue ≠ [] →
    ∃ t, exec (.echo b m) s = .next t
      ∧ t.audit = (s.audit.advance tokensSpentIx (s.store.live - t.store.live)).advance (confirmedIx b) 1
      ∧ s.Settles t b k
      ∧ s.Tells t (s.storeNotices t .spent (s.store.live - t.store.live) (some b) ++ s.resumedNotices b k)
      ∧ t = { (s.setFilter b m .waitRelease) with
              store := t.store, audit := t.audit, feeders := t.feeders, pulses := t.pulses, intake := t.intake
              links := t.links }

/-- An echo after the pulse of a unit of cause GATE that does not complete a charge: an own outcome takes its number from
the unit list and counts it, and any other leaves the gate as it is (R52, R55, R58, R64, R71). -/
def Sys2Proof.Claims.EchoCountsAtGate : Prop :=
  ∀ (s : State) (b : Bay) (m : CoinLine) (n : Nat) (k : CoinUnit), s.filter b m = .counting n → s.Settled →
    (s.profile b).coin.echoMode = .meter → (s.feeder b).slot = some k → m = k.line → (s.feeder b).held = none →
    k.status = .echoWait ∨ k.status = .doubt → k.cause = .gate →
    (s.bay b).releasePending = false ∨ (s.feeder b).queue ≠ [] →
    let own := s.gate.state = .paying ∧ s.gate.bay = some b ∧ k.number ∈ s.gate.units
    (own → s.gate.confirmed + 1 ≠ s.gate.owed) →
    ∃ t, exec (.echo b m) s = .next t
      ∧ (own → t.gate = { s.gate with
          units := s.gate.units.filter (fun x => decide (x ≠ k.number)), confirmed := s.gate.confirmed + 1 })
      ∧ (¬own → t.gate = s.gate)
      ∧ s.Settles t b k
      ∧ t.audit = (s.audit.advance tokensSpentIx (s.store.live - t.store.live)).advance (confirmedIx b) 1
      ∧ s.Tells t (s.storeNotices t .spent (s.store.live - t.store.live) (some b) ++ s.resumedNotices b k)
      ∧ t = { (s.setFilter b m .waitRelease) with
              gate := t.gate, store := t.store, audit := t.audit, feeders := t.feeders, pulses := t.pulses
              intake := t.intake, links := t.links }

/-- An echo after the pulse that leaves the feeder of a release-pending RUNNING bay IDLE cuts the bay's power, without a BAY
notice (R28, R55, R58, R133). -/
def Sys2Proof.Claims.LastEchoEndsReleasePending : Prop :=
  ∀ (s : State) (b : Bay) (m : CoinLine) (n : Nat) (k : CoinUnit), s.filter b m = .counting n → s.Settled →
    (s.profile b).coin.echoMode = .meter → (s.feeder b).slot = some k → m = k.line → (s.feeder b).held = none →
    k.status = .echoWait ∨ k.status = .doubt → (s.feeder b).queue = [] → (s.bay b).releasePending = true →
    (s.bay b).state = .running → s.NoRole b → s.gate.bay ≠ some b → s.monitor.source ≠ .bay b →
    ∃ t, exec (.echo b m) s = .next t
      ∧ s.ReleasedAfter t b ∧ s.Settles t b k ∧ (t.feeder b).state = .idle
      ∧ t.audit = (s.audit.advance tokensSpentIx (s.store.live - t.store.live)).advance (confirmedIx b) 1
      ∧ s.Tells t (s.storeNotices t .spent (s.store.live - t.store.live) (some b) ++ s.resumedNotices b k)
      ∧ t = { s with power := t.power, store := t.store, audit := t.audit, feeders := t.feeders, pulses := t.pulses
                     filters := t.filters, checkers := t.checkers, intake := t.intake, links := t.links }

/-- An echo that falls together with its bay's power loss and is taken behind it is a stray at the IDLE feeder; a filter
in DARK gives no other (R46, R49, R51, R62; log entry 30). -/
def Sys2Proof.Claims.EchoBehindPowerLossIsStray : Prop :=
  (∀ (s : State) (b : Bay) (m : CoinLine) (into : PowerState), (s.bay b).state.powered = true →
    (m ∈ (s.cutPower b into).filters[b].late ↔ m ∈ s.filters[b].late ∨ ∃ n, s.filter b m = .counting n))
  ∧ ∀ (s : State) (b : Bay) (m : CoinLine), s.Settled → s.filter b m = .dark → (s.feeder b).slot = none →
    (m ∉ s.filters[b].late → exec (.echo b m) s = .next s)
    ∧ (m ∈ s.filters[b].late → ∃ t, exec (.echo b m) s = .next t
        ∧ t.audit = s.audit.advance (strayIx b) 1
        ∧ s.Tells t [.stray b m (if (s.profile b).coin.echoMode = .none then .echoNone else .noUnit) (s.feeder b).state]
        ∧ (∀ d n, t.filter d n = s.filter d n)
        ∧ t = { s with audit := t.audit, filters := t.filters, links := t.links })

/-- Every row of R51's table, and what each does, at the gate and at a release-pending bay too (R46, R51, R52, R54, R55, R58,
R62, R71, R133). -/
def Obligations.EchoSettlesOrStrays : Prop :=
  Claims.EchoJudgedByFirstRow ∧ Claims.EchoAfterPulseConfirms ∧ Claims.EchoCountsAtGate
    ∧ Claims.LastEchoEndsReleasePending ∧ Claims.EchoBehindPowerLossIsStray

/-- An echo window that expires puts the unit in doubt, a feeder without a pulse unit becoming HELD at once with a
FEEDER notice; no token and no counter moves (R56). -/
def Sys2Proof.Claims.WindowExpiryPutsUnitInDoubt : Prop :=
  ∀ (s : State) (b : Bay) (k : CoinUnit) (w : Timer), s.Settled → (s.feeder b).slot = some k →
    k.status = .echoWait → (s.feeder b).window = some w → k.cause = .transfer →
    ∃ t, exec (.echoWindowExpiry b) s = .next t
      ∧ t.feeder b = { s.feeder b with slot := some { k with status := .doubt }, window := none }
      ∧ (∀ d : Bay, d ≠ b → t.feeder d = s.feeder d)
      ∧ s.Tells t (if (s.feeder b).held.isSome then [] else
          [.feeder .held b k.number k.tokens.length k.cause .held (s.feeder b).queue.length])
      ∧ t = { s with feeders := t.feeders, links := t.links }

/-- VOID_DOUBT and REFUND_DOUBT are refused RANGE, BUSY while the doubt unit's pulse is in TRAIL, and NO_DOUBT
otherwise, unless the feeder is HELD (R59, R60). -/
def Sys2Proof.Claims.RulingsNeedHeldFeeder : Prop :=
  ∀ (s : State) (l : Link) (bay : Byte),
    let refused := fun (i : Instr) (r : Request) => s.Takes l r →
      (7 < bay.toNat → s.Refuses i l r .range)
      ∧ ∀ b : Bay, bay.toNat = b.val →
        ((s.feeder b).hasDoubt = false → s.Refuses i l r .noDoubt)
        ∧ ((s.feeder b).hasDoubt = true → (s.feeder b).held.isSome = true → s.Refuses i l r .busy)
    refused (.voidDoubt l bay) (.voidDoubt bay) ∧ refused (.refundDoubt l bay) (.refundDoubt bay)

/-- VOID_DOUBT on a HELD feeder retires the doubt unit as VOIDED with TOKENS_VOIDED and VOIDED, and the feeder goes on
(R12, R33, R59). -/
def Sys2Proof.Claims.VoidRetiresDoubtUnit : Prop :=
  ∀ (s : State) (l : Link) (bay : Byte) (b : Bay) (k : CoinUnit), s.Takes l (.voidDoubt bay) → bay.toNat = b.val →
    (s.feeder b).slot = some k → k.status = .doubt → (s.feeder b).held = none →
    (s.bay b).releasePending = false ∨ (s.feeder b).queue ≠ [] →
    ∃ t, exec (.voidDoubt l bay) s = .next t
      ∧ t.audit = (s.audit.advance tokensVoidedIx (s.store.live - t.store.live)).advance (voidedIx b) 1
      ∧ s.Settles t b k
      ∧ s.Answers t l (.voidDoubt bay) [] (s.storeNotices t .voided (s.store.live - t.store.live) (some b) ++ s.resumedNotices b k)
      ∧ t = { s with store := t.store, audit := t.audit, feeders := t.feeders, pulses := t.pulses, intake := t.intake
                     links := t.links }

/-- REFUND_DOUBT on a HELD feeder returns the doubt unit's tokens to the pool at their positions, with REFUNDED and no
token counter, and the feeder goes on (R11, R33, R60). -/
def Sys2Proof.Claims.RefundReturnsDoubtUnit : Prop :=
  ∀ (s : State) (l : Link) (bay : Byte) (b : Bay) (k : CoinUnit), s.Takes l (.refundDoubt bay) → bay.toNat = b.val →
    (s.feeder b).slot = some k → k.status = .doubt → (s.feeder b).held = none →
    (s.bay b).releasePending = false ∨ (s.feeder b).queue ≠ [] → 0 < s.store.countUnits b [k.number] →
    ∃ t, exec (.refundDoubt l bay) s = .next t
      ∧ t.store.arrival = s.store.arrival.map
          (fun x => if x.place = .feeder b k.number then { x with place := .pool } else x)
      ∧ t.store.allocator = s.store.allocator ∧ t.audit = s.audit.advance (refundedIx b) 1
      ∧ (t.feeder b).units = (s.feeder b).queue.map (fun x => { x with status := .queued })
      ∧ s.KeepsUnits t b ∧ s.ClosureFollows t
      ∧ s.Answers t l (.refundDoubt bay) [] (s.storeNotices t .giveBack (s.store.countUnits b [k.number]) (some b)
          ++ s.resumedNotices b k)
      ∧ t = { s with store := t.store, audit := t.audit, feeders := t.feeders, pulses := t.pulses, intake := t.intake
                     links := t.links }

/-- A ruling that leaves the feeder of a release-pending RUNNING bay IDLE cuts the bay's power, without a BAY notice (R28,
R59, R60, R133). -/
def Sys2Proof.Claims.LastRulingEndsReleasePending : Prop :=
  ∀ (s : State) (l : Link) (bay : Byte) (b : Bay) (k : CoinUnit), bay.toNat = b.val →
    (s.feeder b).slot = some k → k.status = .doubt → (s.feeder b).held = none → (s.feeder b).queue = [] →
    (s.bay b).releasePending = true → (s.bay b).state = .running → s.NoRole b → s.gate.bay ≠ some b →
    s.monitor.source ≠ .bay b →
    let released := fun t : State => s.ReleasedAfter t b ∧ (t.feeder b).state = .idle ∧ s.KeepsUnits t b
      ∧ s.ClosureFollows t
      ∧ t = { s with power := t.power, store := t.store, audit := t.audit, feeders := t.feeders, pulses := t.pulses
                     filters := t.filters, checkers := t.checkers, intake := t.intake, links := t.links }
    (s.Takes l (.voidDoubt bay) → ∃ t, exec (.voidDoubt l bay) s = .next t ∧ released t
      ∧ t.store = s.store.retire b k.number
      ∧ t.audit = (s.audit.advance tokensVoidedIx (s.store.live - t.store.live)).advance (voidedIx b) 1
      ∧ s.Answers t l (.voidDoubt bay) []
          (s.storeNotices t .voided (s.store.live - t.store.live) (some b) ++ s.resumedNotices b k))
    ∧ (s.Takes l (.refundDoubt bay) → 0 < s.store.countUnits b [k.number] →
      ∃ t, exec (.refundDoubt l bay) s = .next t ∧ released t
      ∧ t.store = s.store.giveBack b [k.number] ∧ t.audit = s.audit.advance (refundedIx b) 1
      ∧ s.Answers t l (.refundDoubt bay) []
          (s.storeNotices t .giveBack (s.store.countUnits b [k.number]) (some b) ++ s.resumedNotices b k))

/-- The rulings on a doubt unit, at a release-pending bay too (R11, R12, R59, R60, R133). -/
def Obligations.RulingsSettleDoubt : Prop :=
  Claims.RulingsNeedHeldFeeder
    ∧ Claims.VoidRetiresDoubtUnit
    ∧ Claims.RefundReturnsDoubtUnit
    ∧ Claims.LastRulingEndsReleasePending
    ∧ Claims.ReturnKeepsArrivalOrder

/-! ## The start gate (04) -/

/-- A start press in PLAY on a bay paid on start, taken by an IDLE gate: swallowed with NEED_CREDIT or QUEUE_FULL, or
charged by one draw of the units owed (R66, R68, R69). -/
def Sys2Proof.Claims.StartPressJudgedByCredit : Prop :=
  ∀ (s : State) (b : Bay) (w : Switch), s.Settled → s.stage = .play b → s.panel.settled = true →
    w ∉ s.panel.pressed → w ∉ s.panel.mask → s.tables.cabinet.panel.menu ≠ w →
    s.tables.cabinet.panel.p1 = some w ∨ s.tables.cabinet.panel.p2 = some w →
    (s.profile b).play.payMode = .onStart → (s.bay b).state = .running → routesFrom (s.routeMap b) w = true →
    s.gate.state = .idle →
    let k := (s.profile b).play.price - s.gate.carry
    let need := k * (s.profile b).coin.rate
    ∃ t, exec (.switchEvent w .press) s = .next t
      ∧ t.panel = { s.panel with pressed := insertSwitch w s.panel.pressed, counts := s.panel.counts.set w 0 }
      ∧ t.audit = s.audit
      ∧ (s.store.poolCount < need → t.gate = s.gate ∧ t.store = s.store ∧ t.feeders = s.feeders
          ∧ s.Tells t [.gateNeedCredit b w k need s.store.poolCount s.gate.carry])
      ∧ (need ≤ s.store.poolCount → 8 - (s.feeder b).queue.length < k →
          t.gate = s.gate ∧ t.store = s.store ∧ t.feeders = s.feeders
          ∧ s.Tells t [.gateQueueFull b w k (s.feeder b).queue.length s.gate.carry])
      ∧ (need ≤ s.store.poolCount → k ≤ 8 - (s.feeder b).queue.length → ∃ new : List CoinUnit,
          (t.feeder b).units = (s.feeder b).units ++ new ∧ new.length = k ∧ (∀ u ∈ new, u.cause = .gate)
          ∧ t.gate = { s.gate with
              state := .paying, bay := some b, switch := some w, owed := k, units := new.map CoinUnit.number
              confirmed := 0 }
          ∧ t.store.poolTokens = s.store.poolTokens.drop need
          ∧ s.Tells t (s.storeNotices t .draw need (some b)))
      ∧ t = { s with pins := t.pins, panel := t.panel, gate := t.gate, store := t.store, feeders := t.feeders
                     pulses := t.pulses, intake := t.intake, links := t.links }

/-- A start press taken by an IDLE gate on a bay that is not RUNNING, or whose route map holds no route from the switch, is
ignored: no notice is sent, and the gate and its carry stand (R68 step 1). -/
def Sys2Proof.Claims.StartPressWithoutRouteIgnored : Prop :=
  ∀ (s : State) (b : Bay) (w : Switch), s.Settled → s.stage = .play b → s.panel.settled = true →
    w ∉ s.panel.pressed → w ∉ s.panel.mask → s.tables.cabinet.panel.menu ≠ w →
    s.tables.cabinet.panel.p1 = some w ∨ s.tables.cabinet.panel.p2 = some w →
    (s.profile b).play.payMode = .onStart → s.gate.state = .idle →
    (s.bay b).state ≠ .running ∨ (∀ r ∈ s.routeMap b, r.switch ≠ w) →
    ∃ t, exec (.switchEvent w .press) s = .next t ∧ s.Notes t w .press ∧ t.panel.menuHold = s.panel.menuHold
      ∧ t = { s with pins := t.pins, panel := t.panel }

/-- A start press in PLAY taken by an IDLE gate, in the order of R68 (R66, R68, R69). -/
def Obligations.StartPressOpensCharge : Prop :=
  Claims.StartPressJudgedByCredit ∧ Claims.StartPressWithoutRouteIgnored

/-- The confirmation that brings the units confirmed to the units owed fires the gate: the start width timer starts,
PLAYS advances, the carry becomes 0, and FIRED follows the POOL notice (R52, R71, R72). -/
def Sys2Proof.Claims.CompletingConfirmationFires : Prop :=
  ∀ (s : State) (u : PulseId) (p : Pulse) (k : CoinUnit), s.Settled → s.pulse u = some p → p.phase = .trail →
    (s.feeder p.bay).slot = some k → k.status = .confirmedInTrail ∨ k.status = .sending → k.cause = .gate →
    (s.bay p.bay).releasePending = false ∨ (s.feeder p.bay).queue ≠ [] → s.gate.state = .paying → s.gate.bay = some p.bay →
    k.number ∈ s.gate.units → s.gate.confirmed + 1 = s.gate.owed → s.stage = .play p.bay →
    (s.bay p.bay).state = .running →
    ∃ t, exec (.trailEnd u) s = .next t
      ∧ t.gate = { s.gate with
          state := .firing, units := s.gate.units.filter (fun x => decide (x ≠ k.number))
          confirmed := s.gate.confirmed + 1, carry := 0
          timer := some { count := 0, limit := (s.profile p.bay).play.startWidth } }
      ∧ t.audit = ((s.audit.advance tokensSpentIx (s.store.live - t.store.live)).advance (confirmedIx p.bay) 1).advance
          (playsIx p.bay) 1
      ∧ s.Tells t (s.storeNotices t .spent (s.store.live - t.store.live) (some p.bay)
          ++ [.gateFired p.bay (s.gate.switch.getD 0) s.gate.owed (s.profile p.bay).play.startWidth])
      ∧ s.Settles t p.bay k
      ∧ t = { s with store := t.store, audit := t.audit, feeders := t.feeders, pulses := t.pulses, intake := t.intake
                     gate := t.gate, links := t.links }

/-- The doubt of a unit of the charge abandons it: the units still queued go back to the pool, the carry grows by the
units confirmed, and GATE (ABANDONED) is sent (R56, R64, R71, R74, R75). -/
def Sys2Proof.Claims.DoubtAbandonsCharge : Prop :=
  ∀ (s : State) (b : Bay) (k : CoinUnit) (w : Timer), s.Settled → (s.feeder b).slot = some k →
    k.status = .echoWait → (s.feeder b).window = some w → k.cause = .gate → s.gate.state = .paying →
    s.gate.bay = some b → k.number ∈ s.gate.units → s.stage = .play b → (s.bay b).state = .running →
    let carry := s.gate.carry + s.gate.confirmed
    let ns := ((s.feeder b).queue.filter
      (fun x => decide (x.cause = .gate) && s.gate.units.contains x.number)).map CoinUnit.number
    ∃ t, exec (.echoWindowExpiry b) s = .next t
      ∧ t.gate = { Gate.fresh with carry := carry, bay := if carry = 0 then none else some b }
      ∧ t.feeder b = { s.feeder b with
          slot := some { k with status := .doubt }, window := none
          queue := (s.feeder b).queue.filter (fun x => !(decide (x.cause = .gate) && s.gate.units.contains x.number)) }
      ∧ (∀ d : Bay, d ≠ b → t.feeder d = s.feeder d)
      ∧ t.store = s.store.giveBack b ns ∧ t.audit = s.audit
      ∧ s.Tells t
          ((if (s.feeder b).held.isSome then [] else
              [.feeder .held b k.number k.tokens.length k.cause .held (s.feeder b).queue.length])
            ++ (if s.store.countUnits b ns = 0 then []
                else s.storeNotices t .giveBack (s.store.countUnits b ns) (some b))
            ++ [.gateAbandoned b s.gate.switch .doubt s.gate.owed s.gate.confirmed carry])
      ∧ t = { s with gate := t.gate, feeders := t.feeders, store := t.store, intake := t.intake, links := t.links }

/-- The expiry of an echo window, at the feeder and at the gate (R56, R74, R75). -/
def Obligations.WindowExpiryGivesDoubt : Prop :=
  Claims.WindowExpiryPutsUnitInDoubt ∧ Claims.DoubtAbandonsCharge

/-- The start width's expiry returns a FIRING gate to IDLE with everything cleared and no notice (R73). -/
def Sys2Proof.Claims.StartWidthExpiryEndsFiring : Prop :=
  ∀ s : State, s.gate.state = .firing → exec .startWidthExpiry s = .next { s with gate := Gate.fresh }

/-- An echo after the pulse that brings the units confirmed to the units owed fires the gate at once, FIRED following the
POOL notice (R52, R55, R71, R72). -/
def Sys2Proof.Claims.CompletingEchoFires : Prop :=
  ∀ (s : State) (b : Bay) (m : CoinLine) (n : Nat) (k : CoinUnit), s.filter b m = .counting n → s.Settled →
    (s.profile b).coin.echoMode = .meter → (s.feeder b).slot = some k → m = k.line → (s.feeder b).held = none →
    k.status = .echoWait → k.cause = .gate → (s.bay b).releasePending = false ∨ (s.feeder b).queue ≠ [] →
    s.gate.state = .paying → s.gate.bay = some b → k.number ∈ s.gate.units → s.gate.confirmed + 1 = s.gate.owed →
    s.stage = .play b → (s.bay b).state = .running →
    ∃ t, exec (.echo b m) s = .next t
      ∧ t.gate = { s.gate with
          state := .firing, units := s.gate.units.filter (fun x => decide (x ≠ k.number))
          confirmed := s.gate.confirmed + 1, carry := 0
          timer := some { count := 0, limit := (s.profile b).play.startWidth } }
      ∧ s.Settles t b k
      ∧ t.audit = ((s.audit.advance tokensSpentIx (s.store.live - t.store.live)).advance (confirmedIx b) 1).advance
          (playsIx b) 1
      ∧ s.Tells t (s.storeNotices t .spent (s.store.live - t.store.live) (some b)
          ++ [.gateFired b (s.gate.switch.getD 0) s.gate.owed (s.profile b).play.startWidth])
      ∧ t = { (s.setFilter b m .waitRelease) with
              store := t.store, audit := t.audit, feeders := t.feeders, pulses := t.pulses, intake := t.intake
              gate := t.gate, links := t.links }

/-- The start pulse, from the completing confirmation, at TRAIL end or by an echo, to the start width's end (R72, R73). -/
def Obligations.CompletedChargeFires : Prop :=
  Claims.CompletingConfirmationFires ∧ Claims.CompletingEchoFires ∧ Claims.StartWidthExpiryEndsFiring

/-! ## Settings (05) -/

/-- The fields a settings write takes are the fields a read returns, and the other groups of the record stand (R79,
R81, R83, R89, R93, R184). -/
def Obligations.GroupFieldsReadBack : Prop :=
  (∀ (p q : Profile) (g : ProfileGroup) (fields : List Byte), p.withGroup g fields = some q →
      q.groupBytes g = fields ∧ (∀ h, h ≠ g → q.groupBytes h = p.groupBytes h) ∧ (p.valid = true → q.valid = true))
    ∧ (∀ (p : Profile) (g : ProfileGroup), p.valid = true → p.withGroup g (p.groupBytes g) = some p)
    ∧ (∀ (c d : Cabinet) (g : CabinetGroup) (fields : List Byte), c.withGroup g fields = some d →
        ∀ s : State, (s.setCabinet d).cabinetBytes g = (match g with
            | .chutes => fields
            | .panel => fields
            | .system => fields ++ [boolByte s.flags.intakeOpen])
          ∧ ∀ h, h ≠ g → (s.setCabinet d).cabinetBytes h = (s.setCabinet c).cabinetBytes h)
    ∧ ∀ m : List Route, (∀ r ∈ m, 10 ≤ r.width ∧ r.width ≤ 255) → routesArg (m.flatMap Route.bytes) = some m

/-- WRITE_PROFILE is refused by the first test of R80 that fails, and otherwise replaces every field of one group of
one bay's profile (R79 to R81). That a lines-group byte which names no polarity is refused RANGE is the model's choice
(log entry 34). -/
def Obligations.WriteProfileReplacesGroup : Prop :=
  ∀ (s : State) (l : Link) (bay group : Byte) (fields : List Byte),
    let i := Instr.writeProfile l bay group fields
    let r := Request.writeProfile bay group fields
    s.Takes l r →
    ((7 < bay.toNat ∨ 3 < group.toNat) → s.Refuses i l r .range)
    ∧ ∀ (b : Bay) (g : ProfileGroup), bay.toNat = b.val → profileGroupArg group = some g →
      (s.tables.lock ≠ .opened → s.Refuses i l r .locked)
      ∧ (s.tables.lock = .opened →
        ((s.bay b).state ≠ .off → (s.bay b).state ≠ .disabled → (s.bay b).state ≠ .faulted → s.Refuses i l r .busy)
        ∧ ((s.feeder b).state ≠ .idle → s.Refuses i l r .busy)
        ∧ ((s.bay b).state = .off ∨ (s.bay b).state = .disabled ∨ (s.bay b).state = .faulted →
            (s.feeder b).state = .idle →
            ((s.profile b).withGroup g fields = none → s.Refuses i l r .range)
            ∧ ∀ q, (s.profile b).withGroup g fields = some q →
              exec i s = .next ((s.setProfile b q).setLink l
                ((s.link l).owes r.typ (.ack r.typ []) .nothing))))

/-- The reads of settings, play-level requests, are answered in every stage, power state and lock state with the record
as it stands, and change nothing but their link; what names no bay, group or entry is refused RANGE (R83, R88, R93). -/
def Obligations.SettingsReadsAnswer : Prop :=
  ∀ (s : State) (l : Link),
    (∀ bay group start count : Byte, (Request.readProfile bay group).operator = false
      ∧ (Request.readRoutes bay start count).operator = false ∧ (Request.readCabinet group).operator = false)
    ∧ (∀ bay group : Byte, s.Takes l (.readProfile bay group) →
      ((7 < bay.toNat ∨ 3 < group.toNat) → s.Refuses (.readProfile l bay group) l (.readProfile bay group) .range)
      ∧ ∀ (b : Bay) (g : ProfileGroup), bay.toNat = b.val → profileGroupArg group = some g →
        s.Reads (.readProfile l bay group) l (.readProfile bay group) ((s.profile b).groupBytes g))
    ∧ (∀ group : Byte, s.Takes l (.readCabinet group) →
      (2 < group.toNat → s.Refuses (.readCabinet l group) l (.readCabinet group) .range)
      ∧ ∀ g : CabinetGroup, cabinetGroupArg group = some g →
        s.Reads (.readCabinet l group) l (.readCabinet group) (s.cabinetBytes g))
    ∧ ∀ bay start count : Byte, s.Takes l (.readRoutes bay start count) →
      let i := Instr.readRoutes l bay start count
      let r := Request.readRoutes bay start count
      ((7 < bay.toNat ∨ count.toNat < 1 ∨ 18 < count.toNat) → s.Refuses i l r .range)
      ∧ ∀ b : Bay, bay.toNat = b.val → 1 ≤ count.toNat → count.toNat ≤ 18 →
        ((s.routeMap b).length ≤ start.toNat → s.Refuses i l r .range)
        ∧ (start.toNat < (s.routeMap b).length → ∃ entries : List Route, entries.length = count.toNat
            ∧ (∀ k : Nat, k < count.toNat →
                entries[k]? = (s.routeMap b)[(start.toNat + k) % (s.routeMap b).length]?)
            ∧ s.Reads i l r (byteOf (s.routeMap b).length :: entries.flatMap Route.bytes))

/-- WRITE_ROUTES is refused by the first test of R87 that fails, and otherwise replaces the run of entries from start
on, cut after the run with the truncate flag set (R87). That an entry with bit 6 of its first byte set, and a truncate
byte over 01h, are refused RANGE is read by inference (log entries 21 and 22). -/
def Obligations.WriteRoutesReplacesRun : Prop :=
  ∀ (s : State) (l : Link) (bay start truncate count : Byte) (entries : List Byte),
    let i := Instr.writeRoutes l bay start truncate count entries
    let r := Request.writeRoutes bay start truncate count entries
    s.Takes l r →
    ((7 < bay.toNat ∨ 1 < truncate.toNat ∨ count.toNat < 1 ∨ 18 < count.toNat) → s.Refuses i l r .range)
    ∧ ∀ (b : Bay) (cut : Bool), bay.toNat = b.val → truncate.toNat = cut.toNat → 1 ≤ count.toNat → count.toNat ≤ 18 →
      (s.tables.lock ≠ .opened → s.Refuses i l r .locked)
      ∧ (s.tables.lock = .opened → s.writable b = false → s.Refuses i l r .busy)
      ∧ (s.tables.lock = .opened → s.writable b = true →
        ((s.routeMap b).length < start.toNat → s.Refuses i l r .range)
        ∧ (start.toNat ≤ (s.routeMap b).length → routesArg entries = none → s.Refuses i l r .range)
        ∧ (start.toNat ≤ (s.routeMap b).length → ∀ es : List Route, routesArg entries = some es →
            ∃ m : List Route,
              m.length = (if cut then start.toNat + count.toNat
                else max (s.routeMap b).length (start.toNat + count.toNat))
              ∧ (∀ k : Nat, k < start.toNat → m[k]? = (s.routeMap b)[k]?)
              ∧ (∀ k : Nat, k < count.toNat → m[start.toNat + k]? = es[k]?)
              ∧ (cut = false → ∀ k : Nat, start.toNat + count.toNat ≤ k → m[k]? = (s.routeMap b)[k]?)
              ∧ (routeMapValid m = false → s.Refuses i l r .range)
              ∧ (routeMapValid m = true → exec i s = .next ((s.setRoutes b m).setLink l
                  ((s.link l).owes r.typ (.ack r.typ []) .nothing)))))

/-- WRITE_CABINET is refused by the first test of R89 that fails, and otherwise replaces one group; a chutes write acts
on each chute, a system write sets the pending hold duty, and closure is re-evaluated; the notices all give the intake
as the write leaves it (R6, R15, R17, R19, R89). Their order, and that JAMMED is sent at a write, are the model's choices
(log entries 32 and 38). -/
def Obligations.WriteCabinetReplacesGroup : Prop :=
  ∀ (s : State) (l : Link) (group : Byte) (fields : List Byte),
    let i := Instr.writeCabinet l group fields
    let r := Request.writeCabinet group fields
    s.Takes l r →
    (2 < group.toNat → s.Refuses i l r .range)
    ∧ ∀ g : CabinetGroup, cabinetGroupArg group = some g →
      (s.tables.lock ≠ .opened → s.Refuses i l r .locked)
      ∧ (s.tables.lock = .opened → s.stage ≠ .menu → s.Refuses i l r .busy)
      ∧ (s.tables.lock = .opened → s.stage = .menu →
        (s.tables.cabinet.withGroup g fields = none → s.Refuses i l r .range)
        ∧ ∀ q, s.tables.cabinet.withGroup g fields = some q →
          (g = .system → q.system.budget < s.committedLoad → s.Refuses i l r .state)
          ∧ (g ≠ .system ∨ s.committedLoad ≤ q.system.budget → ∃ t, exec i s = .next t
              ∧ t.tables = { s.tables with cabinet := q }
              ∧ t.intake.closed = t.closureHolds
              ∧ t.intake.pendingDuty = (if g = .system then q.system.holdDuty else s.intake.pendingDuty)
              ∧ t.intake.activeDuty = s.intake.activeDuty ∧ t.intake.faultLatch = s.intake.faultLatch
              ∧ (∀ c : Chute, t.chute c =
                  if q.chutes[c].enabled = (s.chuteConfig c).enabled then s.chute c
                  else if q.chutes[c].enabled = false then ChuteRecord.fresh .disabled
                  else ChuteRecord.fresh (if s.pins.coin[c] then .jammed else .idle))
              ∧ s.CoilsFollow t
              ∧ (g ≠ .chutes → s.Answers t l r [] (s.closureNotices t))
              ∧ (g = .chutes → s.Answers t l r []
                  ((((List.finRange 4).filter fun c =>
                      !(s.chuteConfig c).enabled && q.chutes[c].enabled && s.pins.coin[c]).map
                        fun c => .intake .jammed (some c) t.intakeView) ++ s.closureNotices t))
              ∧ t = { s with tables := t.tables, intake := t.intake, links := t.links }))

/-- SET_LOCK moves the lock to the state named in OPEN and LOCKED, and is refused LOCKED in FIXED (R94). -/
def Obligations.SetLockMovesUnlessFixed : Prop :=
  ∀ (s : State) (l : Link) (v : Byte), s.Takes l (.setLock v) →
    (2 < v.toNat → s.Refuses (.setLock l v) l (.setLock v) .range)
    ∧ ∀ k : Lock, lockArg v = some k →
      (s.tables.lock = .fixed → s.Refuses (.setLock l v) l (.setLock v) .locked)
      ∧ (s.tables.lock ≠ .fixed → exec (.setLock l v) s = .next
          ((s.setTables { s.tables with lock := k }).setLink l
            ((s.link l).owes (Request.setLock v).typ (.ack (Request.setLock v).typ []) .nothing)))

/-! ## Panel scanner and route engine (06) -/

/-- At the first complete debounce the switches pressed in all four scans enter the pressed set and the held-over mask
without an event, and every other switch keeps the count its samples left (R100). -/
def Obligations.FirstDebounceMasksHeldSwitches : Prop :=
  ∀ (s : State) (s1 s2 s3 s4 : BitVec 64), s.panel.settled = false →
    ∃ t, exec (.firstCompleteDebounce s1 s2 s3 s4) s = .next t
      ∧ (∀ w : Switch, w ∈ t.panel.pressed ↔ s1.getLsbD w = true ∧ s2.getLsbD w = true ∧ s3.getLsbD w = true
          ∧ s4.getLsbD w = true)
      ∧ t.panel.mask = t.panel.pressed ∧ t.panel.settled = true ∧ t.panel.menuHold = s.panel.menuHold
      ∧ (∀ w : Switch, t.panel.counts[w] =
          if w ∈ t.panel.pressed ∨ s4.getLsbD w = false then 0
          else if s3.getLsbD w = false then 1
          else if s2.getLsbD w = false then 2 else 3)
      ∧ t.panel.strobe = s.panel.strobe
      ∧ t = { s with pins := { s.pins with
                       panel := if s.panel.samples = [s1, s2, s3, s4] then s.pins.panel else s4 }
                     panel := t.panel }

/-- In MENU stage an unmasked switch's event is a PANEL notice on the selector link alone, with its role (R99, R101,
R102). -/
def Sys2Proof.Claims.MenuEventSendsPanelNotice : Prop :=
  ∀ (s : State) (w : Switch) (e : Edge), s.Settled → s.stage = .menu → s.panel.settled = true →
    s.routing.quiet = none → (w ∈ s.panel.pressed ↔ e = .release) → w ∉ s.panel.mask →
    ∃ t, exec (.switchEvent w e) s = .next t
      ∧ t.link .selector = (s.link .selector).told (.panel e w (s.tables.cabinet.panel.role w))
      ∧ t.link .service = s.link .service
      ∧ (∀ k : Switch, k ≠ w → (k ∈ t.panel.pressed ↔ k ∈ s.panel.pressed)) ∧ (w ∈ t.panel.pressed ↔ e = .press)
      ∧ (∀ k : Switch, k ∈ t.panel.mask ↔ k ∈ s.panel.mask)
      ∧ t = { s with pins := t.pins, panel := t.panel, links := t.links }

/-- The release of a masked switch takes it from the pressed set and the mask and does nothing else, in any stage, when
it ends no quiet wait (R101, R109). -/
def Sys2Proof.Claims.MaskedReleaseOnlyUnmasks : Prop :=
  ∀ (s : State) (w : Switch), s.Settled → s.panel.settled = true → w ∈ s.panel.pressed → w ∈ s.panel.mask →
    s.routing.quiet = none →
    ∃ t, exec (.switchEvent w .release) s = .next t
      ∧ (∀ k : Switch, (k ∈ t.panel.pressed ↔ k ∈ s.panel.pressed ∧ k ≠ w) ∧ (k ∈ t.panel.mask ↔ k ∈ s.panel.mask ∧ k ≠ w))
      ∧ t.panel = { s.panel with pressed := t.panel.pressed, mask := t.panel.mask, counts := s.panel.counts.set w 0 }
      ∧ t = { s with pins := t.pins, panel := t.panel }

/-- In HANDOVER an unmasked switch's event, but for the menu switch, changes the pressed set and does nothing else, when
it ends no quiet wait (R101, R111). -/
def Sys2Proof.Claims.HandoverEventOnlyNoted : Prop :=
  ∀ (s : State) (r : HandoverRecord) (w : Switch) (e : Edge), s.Settled → s.stage = .handover r →
    s.panel.settled = true → (w ∈ s.panel.pressed ↔ e = .release) → w ∉ s.panel.mask →
    s.tables.cabinet.panel.menu ≠ w → e = .press ∨ s.routing.quiet = none ∨ (∃ k ∈ s.panel.pressed, k ≠ w) →
    ∃ t, exec (.switchEvent w e) s = .next t ∧ s.Notes t w e ∧ t.panel.menuHold = s.panel.menuHold
      ∧ t = { s with pins := t.pins, panel := t.panel }

/-- What becomes of a switch event in MENU and in HANDOVER, and of a masked switch's release (R101, R102, R109). -/
def Obligations.SwitchEventsByStageAndMask : Prop :=
  Claims.MenuEventSendsPanelNotice ∧ Claims.HandoverEventOnlyNoted ∧ Claims.MaskedReleaseOnlyUnmasks

/-- In PLAY a press of an ordinary switch starts at 0 the timer of every PULSE route from it whose timer is stopped, with
the route's width, and its DIRECT routes drive at once (R104 to R106). -/
def Sys2Proof.Claims.PressStartsRoutePulses : Prop :=
  ∀ (s : State) (b : Bay) (w : Switch), s.Settled → s.stage = .play b → (s.bay b).state = .running →
    s.panel.settled = true → w ∉ s.panel.pressed → w ∉ s.panel.mask → s.tables.cabinet.panel.menu ≠ w →
    s.gateTakes w = none →
    ∃ t, exec (.switchEvent w .press) s = .next t
      ∧ (∀ r ∈ s.routeMap b, r.switch = w → r.mode = .pulse →
          t.routing.runs r = true ∧ t.lineActive b r.line = true)
      ∧ (∀ r ∈ s.routeMap b, r.switch = w → r.mode = .direct → t.lineActive b r.line = true)
      ∧ (∀ p ∈ s.routing.pulses, p ∈ t.routing.pulses)
      ∧ (∀ p ∈ t.routing.pulses, p ∈ s.routing.pulses ∨ ∃ r ∈ s.routeMap b, r.switch = w ∧ r.mode = .pulse
          ∧ s.routing.runs r = false ∧ p = { switch := w, line := r.line, timer := { count := 0, limit := r.width } })
      ∧ t.routing.quiet = s.routing.quiet
      ∧ t.panel = { s.panel with pressed := insertSwitch w s.panel.pressed, counts := s.panel.counts.set w 0 }
      ∧ t = { s with pins := t.pins, panel := t.panel, routing := t.routing }

/-- A route pulse timer's expiry stops that timer and no other (R106). -/
def Sys2Proof.Claims.RoutePulseExpiryStopsOne : Prop :=
  ∀ (s : State) (w : Switch) (n : GeneralLine), ∃ t, exec (.routePulseExpiry w n) s = .next t
    ∧ (∀ p : RoutePulse, p ∈ t.routing.pulses ↔ p ∈ s.routing.pulses ∧ ¬(p.switch = w ∧ p.line = n))
    ∧ t = { s with routing := { s.routing with pulses := t.routing.pulses } }

/-- General lines carry input only in PLAY, on the active bay, while it is RUNNING (R104). -/
def Sys2Proof.Claims.LinesNeutralOffTheActiveBay : Prop :=
  ∀ (s : State) (b : Bay) (n : GeneralLine), s.stage ≠ .play b ∨ (s.bay b).state ≠ .running →
    s.lineActive b n = false ∧ s.lineHigh b n = !((s.profile b).lines[n]).activeLevel

/-- In PLAY the release of an ordinary switch changes the pressed set alone: no route pulse timer starts or stops (R105,
R106). -/
def Sys2Proof.Claims.ReleaseLeavesRoutePulses : Prop :=
  ∀ (s : State) (b : Bay) (w : Switch), s.Settled → s.stage = .play b → s.panel.settled = true →
    w ∈ s.panel.pressed → w ∉ s.panel.mask → s.tables.cabinet.panel.menu ≠ w → s.routing.quiet = none →
    ∃ t, exec (.switchEvent w .release) s = .next t ∧ s.Notes t w .release ∧ t.panel.menuHold = s.panel.menuHold
      ∧ t = { s with pins := t.pins, panel := t.panel }

/-- A general line of the running active bay is active exactly while a DIRECT route, a route pulse or the start pulse
drives it, and at the level of its polarity (R101, R104 to R106, R108). -/
def Sys2Proof.Claims.LineActiveWhileDriven : Prop :=
  ∀ (s : State) (b : Bay) (n : GeneralLine), s.stage = .play b → (s.bay b).state = .running →
    let g := s.tables.cabinet.panel
    (s.lineActive b n = true ↔ ∃ r ∈ s.routeMap b, r.line = n ∧
      ((r.mode = .direct ∧ r.switch ∈ s.panel.pressed ∧ r.switch ∉ s.panel.mask ∧ g.menu ≠ r.switch
          ∧ ¬((s.profile b).play.payMode = .onStart ∧ (g.p1 = some r.switch ∨ g.p2 = some r.switch)))
        ∨ (r.mode = .pulse ∧ ∃ p ∈ s.routing.pulses, p.switch = r.switch ∧ p.line = n)
        ∨ (s.gate.state = .firing ∧ s.gate.bay = some b ∧ s.gate.switch = some r.switch)))
    ∧ (s.lineHigh b n = true ↔ (s.lineActive b n = true ↔ (s.profile b).lines[n] = .activeHigh))

/-- A press of a start switch while the gate is not IDLE is ignored, and its routes start nothing (R70, R108). -/
def Sys2Proof.Claims.StartPressIgnoredInCharge : Prop :=
  ∀ (s : State) (b : Bay) (w : Switch), s.Settled → s.stage = .play b → s.panel.settled = true →
    w ∉ s.panel.pressed → w ∉ s.panel.mask → s.tables.cabinet.panel.menu ≠ w →
    s.tables.cabinet.panel.p1 = some w ∨ s.tables.cabinet.panel.p2 = some w →
    (s.profile b).play.payMode = .onStart → s.gate.state ≠ .idle →
    ∃ t, exec (.switchEvent w .press) s = .next t ∧ s.Notes t w .press ∧ t.panel.menuHold = s.panel.menuHold
      ∧ t = { s with pins := t.pins, panel := t.panel }

/-- A coin line is active exactly while a pulse unit that drives it is in ACTIVE (R37), and a bay's power switch and reset
line follow its power state (R116). -/
def Sys2Proof.Claims.HarnessFollowsState : Prop :=
  ∀ (s : State) (b : Bay),
    (∀ m : CoinLine,
      (s.coinLineActive b m = true ↔
        ∃ (u : PulseId) (p : Pulse), s.pulse u = some p ∧ p.bay = b ∧ p.line = m ∧ p.phase = .active)
      ∧ (s.coinLineHigh b m = true ↔ (s.coinLineActive b m = true ↔ (s.profile b).coin.polarity = .activeHigh)))
    ∧ (s.powerSwitchOn b = true ↔
        (s.bay b).state = .starting ∨ (s.bay b).state = .booting ∨ (s.bay b).state = .running)
    ∧ (s.resetLineActive b = true ↔ (s.bay b).state ≠ .booting ∧ (s.bay b).state ≠ .running)

/-- The lines of a bay's harness: the active bay's routes and start pulse, the neutral lines of every other bay, coin
lines, power and reset (R37, R70, R104 to R108, R116). -/
def Obligations.RoutesDriveLines : Prop :=
  Claims.PressStartsRoutePulses ∧ Claims.ReleaseLeavesRoutePulses ∧ Claims.RoutePulseExpiryStopsOne
    ∧ Claims.LineActiveWhileDriven ∧ Claims.LinesNeutralOffTheActiveBay ∧ Claims.StartPressIgnoredInCharge
    ∧ Claims.HarnessFollowsState

/-- The menu-hold timer runs from an unmasked press of the menu switch in PLAY or HANDOVER to its release (R103). -/
def Sys2Proof.Claims.MenuHoldRunsWhilePressed : Prop :=
  ∀ (s : State) (w : Switch), s.Settled → s.stage ≠ .menu → s.panel.settled = true →
    s.tables.cabinet.panel.menu = w → w ∉ s.panel.mask →
    (w ∉ s.panel.pressed → ∃ t, exec (.switchEvent w .press) s = .next t ∧ s.Notes t w .press
        ∧ t.panel.menuHold = some { count := 0, limit := 500 } ∧ t = { s with pins := t.pins, panel := t.panel })
    ∧ (w ∈ s.panel.pressed → s.routing.quiet = none ∨ (∃ k ∈ s.panel.pressed, k ≠ w) →
        ∃ t, exec (.switchEvent w .release) s = .next t ∧ s.Notes t w .release ∧ t.panel.menuHold = none
        ∧ t = { s with pins := t.pins, panel := t.panel })

/-- The expiry of the menu-hold timer stops it and makes one menu request: from PLAY a handover to MENU begins, in RELEASE a
bay target is retargeted away, in QUIET it is kept as a follow-on, and with the target MENU nothing more comes of it
(R103, R156, R164 to R166). -/
def Sys2Proof.Claims.MenuHoldLeadsToMenu : Prop :=
  (∀ s : State, s.panel.menuHold = none → exec .menuHoldExpiry s = .next s)
  ∧ (∀ (s : State) (b : Bay), s.Settled → s.stage = .play b → s.panel.menuHold.isSome = true →
      s.monitor.audio = .full → 0 < s.monitor.gain → 0 < s.rampLength → s.gate = Gate.fresh →
      (s.feeder b).queue = [] →
      ∃ t, exec .menuHoldExpiry s = .next t ∧ t.stage = .handover (.begun (.bay b) .menu .menuSwitch)
        ∧ t.panel = { s.panel with menuHold := none } ∧ t.routing.pulses = [] ∧ t.power.protectedSet = []
        ∧ s.Tells t [.stageBegun (.bay b) .menu .menuSwitch]
        ∧ t.monitor = { s.monitor with audio := .falling, ramp := s.rampLength }
        ∧ t = { s with stage := t.stage, panel := t.panel, routing := t.routing, power := t.power, monitor := t.monitor
                       links := t.links })
  ∧ ∀ (s : State) (r : HandoverRecord), s.Settled → s.stage = .handover r → s.panel.menuHold.isSome = true →
      let u : State := { s with panel := { s.panel with menuHold := none } }
      (r.target = .menu → exec .menuHoldExpiry s = .next u)
      ∧ (∀ a : Bay, r.target = .bay a → r.phase = .quiet → exec .menuHoldExpiry s = .next
          { u with stage := .handover { r with
              followOn := match r.followOn with
                | some (.loss c) => some (.loss c)
                | some .menuSwitch => some .menuSwitch
                | none => some .menuSwitch } })
      ∧ ∀ a : Bay, r.target = .bay a → r.phase = .release → r.origin ≠ .bay a → s.Uninvolved a →
          ∃ t, exec .menuHoldExpiry s = .next t ∧ t.stage = .handover (r.turned .menu .menuSwitch)
          ∧ t.BaysAre (fun d => if d = a then s.left a else s.bay d)
          ∧ t.power = { s.power with bays := t.power.bays, warm := s.leftWarm a }
          ∧ (s.cutWhenLeft a = false → t.filters = s.filters ∧ t.checkers = s.checkers)
          ∧ s.Tells t [.stageRetargeted r.origin .menu (.bay a) .menuSwitch .release]
          ∧ t = { u with stage := t.stage, power := t.power, filters := t.filters, checkers := t.checkers
                         links := t.links }

/-- A quiet wait that expires masks every pressed switch and stops a menu-hold timer whose switch it masks; its grant
completes the handover in the same event: PLAY with the target active, or MENU, with STAGE (ENTERED) (R103, R112, R113,
R162). -/
def Sys2Proof.Claims.QuietExpiryCompletesHandover : Prop :=
  (∀ s : State, s.routing.quiet = none → exec .quietExpiry s = .next s)
  ∧ ∀ (s : State) (r : HandoverRecord) (w : Timer), s.Settled → s.stage = .handover r → r.phase = .quiet →
    r.followOn = none ∨ r.target = .menu → s.routing.quiet = some w →
    ∃ t, exec .quietExpiry s = .next t
      ∧ t.stage = r.target.stage
      ∧ (∀ k : Switch, k ∈ t.panel.mask ↔ k ∈ s.panel.mask ∨ k ∈ s.panel.pressed)
      ∧ t.panel = { s.panel with
          mask := t.panel.mask
          menuHold := if r.target = .menu ∨ s.tables.cabinet.panel.menu ∈ s.panel.pressed then none
            else s.panel.menuHold }
      ∧ t.routing = { pulses := if r.target = .menu then s.routing.pulses else [], quiet := none }
      ∧ t.power.protectedSet = [] ∧ t.power.warm = s.power.warm ∧ t.BaysAre (s.entered r.target)
      ∧ s.Tells t [.stageEntered r.target r.cause]
      ∧ t = { s with stage := t.stage, panel := t.panel, routing := t.routing, power := t.power, links := t.links }

/-- A RELEASE that leaves the pressed set empty ends the quiet wait with a grant, and no switch is masked (R109, R111,
R113, R162). -/
def Sys2Proof.Claims.EmptyPanelCompletesHandover : Prop :=
  ∀ (s : State) (r : HandoverRecord) (w : Timer) (k : Switch), s.Settled → s.stage = .handover r → r.phase = .quiet →
    r.followOn = none ∨ r.target = .menu → s.routing.quiet = some w → s.panel.settled = true → s.panel.pressed = [k] →
    s.tables.cabinet.panel.menu ≠ k →
    ∃ t, exec (.switchEvent k .release) s = .next t
      ∧ t.stage = r.target.stage ∧ s.Notes t k .release
      ∧ t.panel.menuHold = (if r.target = .menu then none else s.panel.menuHold)
      ∧ t.routing = { pulses := if r.target = .menu then s.routing.pulses else [], quiet := none }
      ∧ t.power.protectedSet = [] ∧ t.power.warm = s.power.warm ∧ t.BaysAre (s.entered r.target)
      ∧ s.Tells t [.stageEntered r.target r.cause]
      ∧ t = { s with pins := t.pins, stage := t.stage, panel := t.panel, routing := t.routing, power := t.power
                     links := t.links }

/-- A follow-on begins at the completion, in the same event: a handover to MENU from the bay just made active, its BEGUN
behind ENTERED (R156, R162, R166, R170). -/
def Sys2Proof.Claims.FollowOnBeginsAtCompletion : Prop :=
  ∀ (s : State) (r : HandoverRecord) (b : Bay) (f : FollowOn) (w : Timer), s.Settled → s.stage = .handover r →
    r.phase = .quiet → r.target = .bay b → r.followOn = some f → s.routing.quiet = some w → s.gate = Gate.fresh →
    (s.feeder b).queue = [] → s.monitor.audio = .full ∨ s.monitor.audio = .rising → 0 < s.monitor.gain →
    0 < s.rampLength →
    let c := match f with
      | .menuSwitch => Cause.menuSwitch
      | .loss c => .loss c
    ∃ t, exec .quietExpiry s = .next t
      ∧ t.stage = .handover (.begun (.bay b) .menu c)
      ∧ t.routing = { pulses := [], quiet := none } ∧ t.power.protectedSet = [] ∧ t.power.warm = s.power.warm
      ∧ t.BaysAre (s.entered (.bay b))
      ∧ t.monitor = { s.monitor with audio := .falling, ramp := s.rampLength }
      ∧ s.Tells t [.stageEntered (.bay b) r.cause, .stageBegun (.bay b) .menu c]
      ∧ t = { s with stage := t.stage, panel := t.panel, routing := t.routing, power := t.power, monitor := t.monitor
                     links := t.links }

/-- A power cut of the target in QUIET, by a trip, a crash or a disable, sets the follow-on to its loss cause, unless that
holds one already; the quiet wait runs on, the picture is blank and no HANDOVER_FAILED notice is sent (R151, R170). -/
def Sys2Proof.Claims.TargetLossInQuietSetsFollowOn : Prop :=
  ∀ (s : State) (r : HandoverRecord) (b : Bay), s.Settled → s.stage = .handover r → r.phase = .quiet →
    r.target = .bay b → (s.bay b).state = .running →
    let lost := fun (t : State) (c : LossCause) (p : BayPower) =>
      t.stage = .handover { r with
        followOn := match r.followOn with
          | some (.loss d) => some (.loss d)
          | some .menuSwitch => some (.loss c)
          | none => some (.loss c) }
      ∧ t.routing = s.routing ∧ (t.feeder b).state = .idle ∧ t.gate.bay ≠ some b ∧ s.KeepsUnits t b
      ∧ t.BaysAre (fun d => if d = b then p else s.bay d)
      ∧ t.monitor = (if s.monitor.source = .bay b then
          { s.monitor with source := .blank, audio := .muted, gain := 0 } else s.monitor)
    let tells := fun (t : State) (ns : List Notice) =>
      (s.feeder b).state = .idle → s.gate.bay ≠ some b → s.Tells t ns
    let off := { s.bay b with deferred := none, releasePending := false, timer := none }
    let crashed := { (s.bay b).cooled with attempts := (s.bay b).attempts - 1, deferred := some .handover }
    (∃ t, exec (.overcurrent b true) s = .next t ∧ lost t .tripped { off with state := .tripped }
      ∧ tells t [.bay .tripped b .tripped (s.bay b).attempts none])
    ∧ ((s.checker b).state = .locked → (s.bay b).releasePending = false → (s.bay b).attempts ≠ 0 →
      ∃ t, exec (.fieldGapExpiry b) s = .next t ∧ lost t .lost crashed
      ∧ tells t [.bay .crashed b .cooling ((s.bay b).attempts - 1) none])
    ∧ ((s.checker b).state = .locked → (s.bay b).releasePending = false → (s.bay b).attempts = 0 →
      ∃ t, exec (.fieldGapExpiry b) s = .next t ∧ lost t .lost { off with state := .faulted }
      ∧ tells t [.bay .crashed b .faulted 0 none, .bay .faulted b .faulted 0 none])
    ∧ ∀ (l : Link) (bay : Byte), s.Takes l (.disableBay bay) → bay.toNat = b.val →
      ∃ t, exec (.disableBay l bay) s = .next t ∧ lost t .disabled { off with state := .disabled }
      ∧ ((s.feeder b).state = .idle → s.gate.bay ≠ some b →
        s.Answers t l (.disableBay bay) [] [.bay .disabled b .disabled (s.bay b).attempts none])

/-- The follow-on of a loss at the completion finds the audio MUTED: RELEASE ends at once, and the handover to MENU steps
the class in CLASS, or, where MENU has the monitor's class, cuts to it, releases the lost bay and is in QUIET (R148, R149,
R157, R160 to R162, R168, R170). -/
def Sys2Proof.Claims.LossFollowOnLeavesMutedBay : Prop :=
  ∀ (s : State) (r : HandoverRecord) (b : Bay) (c : LossCause) (w : Timer), s.Settled → s.stage = .handover r →
    r.phase = .quiet → r.target = .bay b → r.followOn = some (.loss c) → s.routing.quiet = some w →
    (s.bay b).state.powered = false → s.gate.bay ≠ some b → (s.feeder b).queue = [] → s.monitor.audio = .muted →
    let q := HandoverRecord.begun (.bay b) .menu (.loss c)
    let begun := fun t : State =>
      (∀ k : Switch, k ∈ t.panel.mask ↔ k ∈ s.panel.mask ∨ k ∈ s.panel.pressed)
      ∧ t.panel = { s.panel with
          mask := t.panel.mask
          menuHold := if s.tables.cabinet.panel.menu ∈ s.panel.pressed then none else s.panel.menuHold }
      ∧ t.power.protectedSet = [] ∧ t.power.warm = s.power.warm
      ∧ s.Tells t [.stageEntered (.bay b) r.cause, .stageBegun (.bay b) .menu (.loss c)]
      ∧ t = { s with stage := t.stage, panel := t.panel, routing := t.routing, power := t.power, monitor := t.monitor
                     links := t.links }
    (s.monitor.lineClass ≠ s.tables.cabinet.system.menuClass → 0 < s.tables.cabinet.system.settle →
      ∃ t, exec .quietExpiry s = .next t ∧ begun t ∧ t.stage = .handover { q with phase := .classChange }
      ∧ t.BaysAre (s.entered (.bay b)) ∧ t.routing = { pulses := [], quiet := none }
      ∧ t.monitor = { s.monitor with
          source := .blank, gain := 0, cut := some .menu, lineClass := s.tables.cabinet.system.menuClass
          settle := some { count := 0, limit := s.tables.cabinet.system.settle } })
    ∧ (s.monitor.lineClass = s.tables.cabinet.system.menuClass → s.monitor.settle = none →
      s.monitor.gain < Config.gainFull → 0 < s.rampLength → s.panel.pressed ≠ [] → 0 < s.tables.cabinet.panel.quiet →
      ∃ t, exec .quietExpiry s = .next t ∧ begun t ∧ t.stage = .handover { q with phase := .quiet, released := true }
      ∧ t.BaysAre (fun d =>
          if d = b ∧ (s.bay b).state = .cooling ∧ (s.profile b).general.keepWarm = false then
            { s.bay b with deferred := none }
          else s.entered (.bay b) d)
      ∧ t.routing = { pulses := [], quiet := some { count := 0, limit := s.tables.cabinet.panel.quiet } }
      ∧ t.monitor = { s.monitor with source := .menu, cut := none, audio := .rising, ramp := s.rampLength })

/-- A quiet request is granted at once by an empty panel, expires at once with a timeout of 0, and waits otherwise
(R111, R112). -/
def Sys2Proof.Claims.QuietRequestAnswered : Prop :=
  ∀ s : State,
    (s.panel.pressed = [] → s.quietRequest = s.report .quietGrant)
    ∧ (s.panel.pressed ≠ [] → s.tables.cabinet.panel.quiet = 0 → ∃ t, s.quietRequest = t
        ∧ (∀ k : Switch, k ∈ t.panel.mask ↔ k ∈ s.panel.mask ∨ k ∈ s.panel.pressed)
        ∧ t.panel = { s.panel with
            mask := t.panel.mask
            menuHold := if s.tables.cabinet.panel.menu ∈ s.panel.pressed then none else s.panel.menuHold }
        ∧ t = { s with panel := t.panel, routing := { s.routing with quiet := none }
                       reports := s.reports ++ [.quietGrant] })
    ∧ (s.panel.pressed ≠ [] → 0 < s.tables.cabinet.panel.quiet → s.quietRequest =
        { s with routing := { s.routing with quiet := some { count := 0, limit := s.tables.cabinet.panel.quiet } } })

/-- The menu-hold timer and the quiet wait, from their start to their end (R103, R111 to R113, R162, R166, R170). -/
def Obligations.MenuHoldAndQuietWait : Prop :=
  Claims.MenuHoldRunsWhilePressed ∧ Claims.MenuHoldLeadsToMenu ∧ Claims.QuietExpiryCompletesHandover
    ∧ Claims.EmptyPanelCompletesHandover ∧ Claims.FollowOnBeginsAtCompletion
    ∧ Claims.TargetLossInQuietSetsFollowOn ∧ Claims.LossFollowOnLeavesMutedBay ∧ Claims.QuietRequestAnswered

/-! ## Bay power (07) -/

/-- What a cut from a powered state leaves at the bay and around it: the state entered, its timer, no deferred request,
no release-pending mark, no place in the warm list, DARK filters and checker, an IDLE feeder, and the bay off the
monitor (R45, R49, R118, R140, R151). -/
def Sys2Proof.Claims.CutLeavesBayUnpowered : Prop :=
  ∀ (s : State) (b : Bay) (into : PowerState), (s.bay b).state.powered = true → into.powered = false →
    let t := s.cutPower b into
    t.bay b = { s.bay b with
        state := into, deferred := none, releasePending := false
        timer := if into = .cooling then some { count := 0, limit := 500 } else none }
    ∧ (∀ d : Bay, d ≠ b → t.bay d = s.bay d)
    ∧ t.power.warm = s.power.warm.filter (fun k => decide (k ≠ b))
    ∧ t.filter b .one = .dark ∧ t.filter b .two = .dark
    ∧ (t.checker b).state = .dark ∧ (t.checker b).measured = (s.checker b).measured
    ∧ (t.checker b).rate = (s.checker b).rate
    ∧ (t.feeder b).state = .idle ∧ (t.feeder b).nextUnit = (s.feeder b).nextUnit
    ∧ (t.gate.bay ≠ some b) ∧ t.monitor.source ≠ .bay b
    ∧ (s.monitor.source = .bay b → t.monitor.source = .blank ∧ t.monitor.audio = .muted ∧ t.monitor.gain = 0)
    ∧ (s.monitor.source ≠ .bay b → t.monitor = s.monitor)
    ∧ t.stage = s.stage ∧ t.tables = s.tables ∧ t.flags = s.flags

/-- A power loss of a bay the gate does not charge returns the feeder's units to the pool and moves no counter, but for
a slot unit confirmed in its pulse, which is retired as SPENT; the pulse unit is let go (R39, R45). -/
def Sys2Proof.Claims.PowerLossSettlesFeeder : Prop :=
  ∀ (s : State) (b : Bay), s.gate.state = .idle → (s.feeder b).state ≠ .idle →
    let t := s.feederPowerLoss b
    ((∀ k, (s.feeder b).slot = some k → k.status ≠ .confirmedInTrail) →
        t.store = s.store.giveBack b (s.feeder b).numbers ∧ t.audit = s.audit)
    ∧ (∀ k, (s.feeder b).slot = some k → k.status = .confirmedInTrail →
        t.store = (s.store.retire b k.number).giveBack b ((s.feeder b).queue.map CoinUnit.number)
        ∧ t.audit = (s.audit.advance tokensSpentIx (s.store.live - (s.store.retire b k.number).live)).advance
            (confirmedIx b) 1)
    ∧ t.feeder b = { Feeder.fresh with nextUnit := (s.feeder b).nextUnit } ∧ s.KeepsUnits t b ∧ t.gate = s.gate
    ∧ (∀ u, (s.feeder b).held = some u → (t.pulse u).map Pulse.bay ≠ some b)
    ∧ t = { s with store := t.store, audit := t.audit, feeders := t.feeders, pulses := t.pulses, intake := t.intake
                   links := t.links, reports := s.reports ++ [.feederIdle b] }

/-- A cut of a bay's power, at the bay and at its feeder (R45, R118). -/
def Obligations.PowerCutHandedOn : Prop :=
  Claims.CutLeavesBayUnpowered ∧ Claims.PowerLossSettlesFeeder

/-- The reset hold's end takes a STARTING bay to BOOTING with the boot limit running and its filters sampled, or on to
RUNNING when its checker is already LOCKED (R49, R117). -/
def Sys2Proof.Claims.ResetHoldEndBoots : Prop :=
  ∀ (s : State) (b : Bay), s.Settled → (s.bay b).state = .starting →
    ((s.checker b).state ≠ .locked → ∃ t, exec (.resetHoldExpiry b) s = .next t
      ∧ t.bay b = { s.bay b with
          state := .booting, timer := some { count := 0, limit := 1000 * (s.profile b).general.bootLimit } }
      ∧ (∀ d : Bay, d ≠ b → t.bay d = s.bay d) ∧ t.power = { s.power with bays := t.power.bays }
      ∧ (∀ m, t.filter b m = if s.meterActive b m then .waitRelease else .ready)
      ∧ (∀ d, d ≠ b → ∀ m, t.filter d m = s.filter d m)
      ∧ t = { s with power := t.power, filters := t.filters })
    ∧ ((s.checker b).state = .locked → s.NoRole b → ∃ t, exec (.resetHoldExpiry b) s = .next t
      ∧ t.bay b = { s.bay b with state := .running, timer := none }
      ∧ (∀ d : Bay, d ≠ b → t.bay d = s.bay d) ∧ t.power = { s.power with bays := t.power.bays, warm := b :: s.power.warm }
      ∧ (∀ m, t.filter b m = if s.meterActive b m then .waitRelease else .ready)
      ∧ s.Tells t [.bay .running b .running (s.bay b).attempts (s.warmPosition b)]
      ∧ t = { s with power := t.power, filters := t.filters, links := t.links })

/-- The reset hold's end takes a bay whose checker is LOCKED to RUNNING in any role: a target in POWER is READY and CLASS
begins with a cut request for it, a target in RELEASE or QUIET leaves the handover as it is, and the active bay or an
origin that recovers joins no list (R117, R131, R135, R157 to R159, R161). -/
def Sys2Proof.Claims.ResetHoldStartsBayInRole : Prop :=
  ∀ (s : State) (b : Bay), s.Settled → (s.bay b).state = .starting → (s.checker b).state = .locked →
    let samples := fun t : State =>
      (∀ m, t.filter b m = if s.meterActive b m then .waitRelease else .ready)
      ∧ ∀ d, d ≠ b → ∀ m, t.filter d m = s.filter d m
    let starts := fun t : State => exec (.resetHoldExpiry b) s = .next t ∧ s.StartsRunning t b ∧ samples t
    (∀ h : HandoverRecord, s.stage = .handover h → h.target = .bay b →
      (h.phase = .power → s.PlainClass s.monitor h → ∃ t, starts t ∧ s.ClassBegins t s.monitor h
        ∧ t = { s with stage := t.stage, monitor := t.monitor, routing := t.routing
                       power := { s.power with bays := t.power.bays }, filters := t.filters, links := t.links })
      ∧ (h.phase = .release ∨ h.phase = .quiet → ∃ t, starts t
        ∧ t = { s with power := { s.power with bays := t.power.bays }, filters := t.filters, links := t.links }))
    ∧ (s.isActive b = true ∨ s.isOrigin b = true → s.isTarget b = false → ∃ t, starts t
        ∧ t = { s with power := { s.power with bays := t.power.bays }, filters := t.filters, links := t.links })

/-- A crash, by the boot limit, the field gap or the fourth bad field in a row, uses an attempt and cools the bay with
RECOVERY deferred; with none left the bay is FAULTED, told after CRASHED (R118, R127, R142). -/
def Sys2Proof.Claims.CrashOfIdleBay : Prop :=
  ∀ (s : State) (b : Bay) (i : Instr), s.Settled → s.NoRole b → (s.feeder b).state = .idle → s.gate.bay ≠ some b →
    s.monitor.source ≠ .bay b → (s.bay b).releasePending = false → s.CrashesBy b i →
    ((s.bay b).attempts ≠ 0 → ∃ t, exec i s = .next t
      ∧ t.bay b = { state := .cooling, attempts := (s.bay b).attempts - 1, deferred := some .recovery
                    releasePending := false, timer := some { count := 0, limit := 500 } }
      ∧ s.Tells t [.bay .crashed b .cooling ((s.bay b).attempts - 1) none]
      ∧ (∀ d : Bay, d ≠ b → t.bay d = s.bay d) ∧ (t.checker b).state = .dark
      ∧ t.power = { s.power with bays := t.power.bays, warm := s.power.warm.filter (fun k => decide (k ≠ b)) }
      ∧ t = { s with power := t.power, filters := t.filters, checkers := t.checkers, links := t.links })
    ∧ ((s.bay b).attempts = 0 → ∃ t, exec i s = .next t
      ∧ t.bay b = { state := .faulted, attempts := 0, deferred := none, releasePending := false, timer := none }
      ∧ s.Tells t [.bay .crashed b .faulted 0 none, .bay .faulted b .faulted 0 none]
      ∧ (∀ d : Bay, d ≠ b → t.bay d = s.bay d) ∧ (t.checker b).state = .dark
      ∧ t.power = { s.power with bays := t.power.bays, warm := s.power.warm.filter (fun k => decide (k ≠ b)) }
      ∧ t = { s with power := t.power, filters := t.filters, checkers := t.checkers, links := t.links })

/-- A crash of the current target in POWER, or in RELEASE off the monitor: with an attempt left it cools with HANDOVER
deferred and the handover goes on as it is; with none left it is FAULTED and the handover turns to MENU with reason
FAULTED, told behind the BAY notices (R127, R135, R157, R158, R167, R172). -/
def Sys2Proof.Claims.CrashOfTarget : Prop :=
  ∀ (s : State) (b : Bay) (h : HandoverRecord) (i : Instr), s.Settled → s.stage = .handover h → h.target = .bay b →
    h.phase = .power ∨ h.phase = .release ∧ s.monitor.source ≠ .bay b → (s.feeder b).state = .idle →
    s.gate.bay ≠ some b → (s.bay b).releasePending = false → s.CrashesBy b i →
    ((s.bay b).attempts ≠ 0 → ∃ t, exec i s = .next t
      ∧ s.LosesPower t b { (s.bay b).cooled with attempts := (s.bay b).attempts - 1, deferred := some .handover }
      ∧ t.stage = s.stage ∧ t.monitor = s.blanked b
      ∧ s.Tells t [.bay .crashed b .cooling ((s.bay b).attempts - 1) none]
      ∧ t = { s with power := t.power, filters := t.filters, checkers := t.checkers, monitor := t.monitor
                     links := t.links })
    ∧ ((s.bay b).attempts = 0 → (h.phase = .power → s.PlainClass (s.blanked b) (h.failed b .faulted)) →
      ∃ t, exec i s = .next t
      ∧ s.LosesPower t b ((s.bay b).out .faulted)
      ∧ s.TurnsToMenu t (s.blanked b) h b .faulted
      ∧ s.Tells t [.bay .crashed b .faulted 0 none, .bay .faulted b .faulted 0 none,
          .handoverFailed b .faulted h.origin]
      ∧ t = { s with stage := t.stage, monitor := t.monitor, routing := t.routing, power := t.power
                     filters := t.filters, checkers := t.checkers, links := t.links })

/-- A crash of a bay whose release is pending uses no attempt: its units leave the feeder, and it cools with no deferred
request, even with no attempt left (R45, R127, R133; that the POOL notice goes before the BAY notice is log entry 19). -/
def Sys2Proof.Claims.CrashEndsReleasePending : Prop :=
  ∀ (s : State) (b : Bay) (i : Instr), s.Settled → s.NoRole b → s.gate.bay ≠ some b → s.monitor.source ≠ .bay b →
    (s.bay b).releasePending = true → (s.feeder b).state ≠ .idle → s.CrashesBy b i →
    ∃ t, exec i s = .next t
      ∧ s.LosesPower t b (s.bay b).cooled ∧ s.UnitsLeave t b
      ∧ ((∀ k, (s.feeder b).slot = some k → k.status ≠ .confirmedInTrail) →
          s.Tells t (s.returnNotices t b ++ [.bay .crashed b .cooling (s.bay b).attempts none]))
      ∧ t = { s with power := t.power, store := t.store, audit := t.audit, feeders := t.feeders, pulses := t.pulses
                     filters := t.filters, checkers := t.checkers, intake := t.intake, links := t.links }

/-- Whatever the bay's role and units, a crash leaves it unpowered and dark to every block, FAULTED when no attempt was
left and its release was not pending, and COOLING otherwise (R45, R118, R127, R151). -/
def Sys2Proof.Claims.CrashTakesAnyBayDown : Prop :=
  ∀ (s : State) (b : Bay) (i : Instr), s.Settled → s.CrashesBy b i → ∃ t, exec i s = .next t ∧ t.Dark b
    ∧ (t.bay b).releasePending = false
    ∧ ((s.bay b).releasePending = true → (t.bay b).state = .cooling ∧ (t.bay b).attempts = (s.bay b).attempts)
    ∧ ((s.bay b).releasePending = false → (s.bay b).attempts ≠ 0 →
        (t.bay b).state = .cooling ∧ (t.bay b).attempts = (s.bay b).attempts - 1)
    ∧ ((s.bay b).releasePending = false → (s.bay b).attempts = 0 → t.bay b = (s.bay b).out .faulted)

/-- Crashes of a bay in no role, of a handover's target, of a release-pending bay and of any bay (R127). -/
def Obligations.CrashCoolsOrFaults : Prop :=
  Claims.CrashOfIdleBay ∧ Claims.CrashOfTarget ∧ Claims.CrashEndsReleasePending ∧ Claims.CrashTakesAnyBayDown

/-- A crash of the active bay in PLAY is a loss: a handover to MENU begins with cause BAY_LOST, whose RELEASE ends at
once and whose CLASS steps the monitor class behind a blank picture (R127, R135, R149, R168); or its report is left for the
next event, the cut's own effects being the same (R107, R171, log entry 39). -/
def Sys2Proof.Claims.LossOfActiveBayTurnsToMenu : Prop :=
  ∀ (s : State) (b : Bay), s.Settled → s.stage = .play b → (s.bay b).state = .running →
    (s.checker b).state = .locked → (s.bay b).attempts ≠ 0 → (s.bay b).releasePending = false →
    s.monitor.source = .bay b → s.monitor.audio = .full → s.monitor.cut = none →
    s.monitor.lineClass ≠ s.tables.cabinet.system.menuClass → 0 < s.tables.cabinet.system.settle →
    ∃ t, exec (.fieldGapExpiry b) s = .next t
      ∧ (t.bay b).state = .cooling ∧ (t.bay b).deferred = some .recovery ∧ (t.feeder b).state = .idle
      ∧ t.gate.bay ≠ some b ∧ t.routing.pulses = []
      ∧ t.monitor.source = .blank ∧ t.monitor.audio = .muted
      ∧ (t.LossBegun b .lost ∧ t.monitor.cut = some .menu
          ∧ t.monitor.lineClass = s.tables.cabinet.system.menuClass
          ∧ t.monitor.settle = some { count := 0, limit := s.tables.cabinet.system.settle }
        ∨ t.LossLeft b .lost ∧ t.monitor.cut = none ∧ t.monitor.lineClass = s.monitor.lineClass
          ∧ t.monitor.settle = s.monitor.settle)

/-- COOLING ends in OFF, in STARTING when a deferred PREHEAT or RECOVERY fits the budget, and in OFF with BAY (REFUSED)
when it does not (R119, R120). -/
def Sys2Proof.Claims.CoolingEndJudgesDeferred : Prop :=
  ∀ (s : State) (b : Bay), s.Settled → (s.bay b).state = .cooling → s.pins.overcurrent[b] = false →
    ((s.bay b).deferred = none → ∃ t, exec (.coolingExpiry b) s = .next t
      ∧ t.bay b = { s.bay b with state := .off, timer := none } ∧ (∀ d : Bay, d ≠ b → t.bay d = s.bay d)
      ∧ t = { s with power := { s.power with bays := t.power.bays } })
    ∧ ∀ k : Deferred, (s.bay b).deferred = some k → k ≠ .handover →
      (s.committedLoad + (s.profile b).general.load ≤ s.budget → ∃ t, exec (.coolingExpiry b) s = .next t
        ∧ t.bay b = { s.bay b with
            state := .starting, deferred := none
            timer := some { count := 0, limit := (s.profile b).general.resetHold } }
        ∧ (∀ d : Bay, d ≠ b → t.bay d = s.bay d) ∧ (t.checker b).state = .seeking ∧ (t.checker b).measured = none
        ∧ t = { s with power := { s.power with bays := t.power.bays }, checkers := t.checkers })
      ∧ (s.budget < s.committedLoad + (s.profile b).general.load → ∃ t, exec (.coolingExpiry b) s = .next t
        ∧ t.bay b = { s.bay b with state := .off, deferred := none, timer := none }
        ∧ (∀ d : Bay, d ≠ b → t.bay d = s.bay d)
        ∧ s.Tells t [.bay (.refused k) b .off (s.bay b).attempts (s.warmPosition b)]
        ∧ t = { s with power := { s.power with bays := t.power.bays }, links := t.links })

/-- COOLING that ends with HANDOVER deferred powers the bay, behind evictions where room is to be made, whatever its role;
where the candidates do not make room, it is OFF and, if it is the current target, the handover turns to MENU with reason
BUDGET (R119 to R122, R135, R167). -/
def Sys2Proof.Claims.CoolingEndJudgesHandover : Prop :=
  ∀ (s : State) (b : Bay), s.Settled → (s.bay b).state = .cooling → (s.bay b).deferred = some .handover →
    (s.excess b ≤ s.loads s.candidates → s.pins.overcurrent[b] = false → s.PlainCandidates →
      ∃ (t : State) (n : Nat), exec (.coolingExpiry b) s = .next t ∧ s.StartsBehind t b n
      ∧ t = { s with power := t.power, filters := t.filters, checkers := t.checkers, links := t.links })
    ∧ (s.loads s.candidates < s.excess b →
      let off := { s.bay b with state := .off, deferred := none, timer := none }
      (s.isTarget b = false → ∃ t, exec (.coolingExpiry b) s = .next t
        ∧ t.BaysAre (fun d => if d = b then off else s.bay d)
        ∧ t = { s with power := { s.power with bays := t.power.bays } })
      ∧ ∀ h : HandoverRecord, s.stage = .handover h → h.target = .bay b → h.phase = .power ∨ h.phase = .release →
        (h.phase = .power → s.PlainClass s.monitor (h.failed b .budget)) →
        ∃ t, exec (.coolingExpiry b) s = .next t
        ∧ t.BaysAre (fun d => if d = b then off else s.bay d)
        ∧ s.TurnsToMenu t s.monitor h b .budget
        ∧ s.Tells t [.handoverFailed b .budget h.origin]
        ∧ t = { s with stage := t.stage, monitor := t.monitor, routing := t.routing
                       power := { s.power with bays := t.power.bays }, links := t.links })

/-- The ends of the reset hold and of COOLING, for a bay in any role (R117, R119 to R121). -/
def Obligations.BayTimersEnd : Prop :=
  Claims.ResetHoldEndBoots ∧ Claims.ResetHoldStartsBayInRole ∧ Claims.CoolingEndJudgesDeferred
    ∧ Claims.CoolingEndJudgesHandover

/-- An active overcurrent input trips a powered bay with BAY (TRIPPED), and has no effect in any other state (R116,
R125). -/
def Sys2Proof.Claims.OvercurrentTripsIdleBay : Prop :=
  ∀ (s : State) (b : Bay) (active : Bool), s.Settled →
    let u : State := { s with pins := { s.pins with overcurrent := s.pins.overcurrent.set b active } }
    ((active = false ∨ (s.bay b).state.powered = false) → exec (.overcurrent b active) s = .next u)
    ∧ (active = true → (s.bay b).state.powered = true → s.NoRole b → (s.feeder b).state = .idle →
        s.gate.bay ≠ some b → s.monitor.source ≠ .bay b → ∃ t, exec (.overcurrent b active) s = .next t
        ∧ t.bay b = { s.bay b with
            state := .tripped, deferred := none, releasePending := false, timer := none }
        ∧ s.Tells t [.bay .tripped b .tripped (s.bay b).attempts none]
        ∧ (∀ d : Bay, d ≠ b → t.bay d = s.bay d)
        ∧ t.power = { s.power with bays := t.power.bays, warm := s.power.warm.filter (fun k => decide (k ≠ b)) }
        ∧ t = { u with power := t.power, filters := t.filters, checkers := t.checkers, links := t.links })

/-- Whatever the bay's role and units, an active overcurrent input that finds it powered leaves it TRIPPED and dark to every
block, its attempts as they were (R45, R118, R125, R151). -/
def Sys2Proof.Claims.TripTakesAnyBayOut : Prop :=
  ∀ (s : State) (b : Bay), s.Settled → (s.bay b).state.powered = true → ∃ t, exec (.overcurrent b true) s = .next t
    ∧ t.bay b = (s.bay b).out .tripped ∧ t.Dark b

/-- A trip of a bay in no role whose feeder holds units: they leave the feeder, the POOL notice before the BAY notice (R45,
R125; that order is log entry 19). -/
def Sys2Proof.Claims.TripReturnsUnits : Prop :=
  ∀ (s : State) (b : Bay), s.Settled → s.NoRole b → (s.bay b).state.powered = true → (s.feeder b).state ≠ .idle →
    s.gate.bay ≠ some b → s.monitor.source ≠ .bay b →
    ∃ t, exec (.overcurrent b true) s = .next t
      ∧ s.LosesPower t b ((s.bay b).out .tripped) ∧ s.UnitsLeave t b
      ∧ ((∀ k, (s.feeder b).slot = some k → k.status ≠ .confirmedInTrail) →
          s.Tells t (s.returnNotices t b ++ [.bay .tripped b .tripped (s.bay b).attempts none]))
      ∧ t = { s with pins := { s.pins with overcurrent := s.pins.overcurrent.set b true }, power := t.power
                     store := t.store, audit := t.audit, feeders := t.feeders, pulses := t.pulses
                     filters := t.filters, checkers := t.checkers, intake := t.intake, links := t.links }

/-- A trip of the active bay in PLAY is a loss: a handover to MENU begins with cause BAY_TRIPPED and is in CLASS at once,
behind a blank picture, or the report is left for the next event (R125, R135, R149, R151, R168, log entry 39). -/
def Sys2Proof.Claims.TripOfActiveBayTurnsToMenu : Prop :=
  ∀ (s : State) (b : Bay), s.Settled → s.stage = .play b → (s.bay b).state = .running →
    s.monitor.source = .bay b → s.monitor.audio = .full →
    s.monitor.lineClass ≠ s.tables.cabinet.system.menuClass → 0 < s.tables.cabinet.system.settle →
    let tells := fun (t : State) (ns : List Notice) => (s.feeder b).state = .idle → s.gate.bay ≠ some b →
      s.Tells t (.bay .tripped b .tripped (s.bay b).attempts none :: ns)
    ∃ t, exec (.overcurrent b true) s = .next t
      ∧ t.BaysAre (fun d => if d = b then (s.bay b).out .tripped else s.bay d)
      ∧ t.power.warm = s.power.warm.filter (fun k => decide (k ≠ b)) ∧ t.routing.pulses = []
      ∧ (t.LossBegun b .tripped ∧ tells t [.stageBegun (.bay b) .menu (.loss .tripped)]
          ∧ t.monitor = s.cutRequested (s.blanked b) .menu
        ∨ t.LossLeft b .tripped ∧ tells t [] ∧ t.monitor = s.blanked b)

/-- A trip of an origin before its release leaves the handover's record and phase as they are and blanks the picture it
still shows; a falling ramp that ends by that ends RELEASE, and the handover goes on to MENU or to a RUNNING target (R125,
R135, R151, R157, R169). -/
def Sys2Proof.Claims.TripOfOriginKeepsHandover : Prop :=
  ∀ (s : State) (b : Bay) (h : HandoverRecord), s.Settled → s.stage = .handover h → s.isOrigin b = true →
    h.target ≠ .bay b → (s.bay b).state.powered = true → (s.feeder b).state = .idle → s.gate.bay ≠ some b →
    let fades := s.monitor.source = .bay b ∧ s.monitor.audio = .falling
    let trips := fun t : State => exec (.overcurrent b true) s = .next t
      ∧ s.LosesPower t b ((s.bay b).out .tripped)
      ∧ s.Tells t [.bay .tripped b .tripped (s.bay b).attempts none]
      ∧ t = { s with pins := { s.pins with overcurrent := s.pins.overcurrent.set b true }, stage := t.stage
                     monitor := t.monitor, routing := t.routing, power := t.power, filters := t.filters
                     checkers := t.checkers, links := t.links }
    (h.phase ≠ .release ∨ ¬fades → ∃ t, trips t ∧ t.stage = s.stage ∧ t.monitor = s.blanked b ∧ t.routing = s.routing)
    ∧ (h.phase = .release → fades → (∀ a, h.target = .bay a → (s.bay a).state = .running) →
        s.PlainClass (s.blanked b) h → ∃ t, trips t ∧ s.ClassBegins t (s.blanked b) h)

/-- An active overcurrent input and a powered bay: idle, with units in its feeder, active or an origin, and in any role
(R116, R125, R168, R169). -/
def Obligations.OvercurrentTripsPoweredBay : Prop :=
  Claims.OvercurrentTripsIdleBay ∧ Claims.TripTakesAnyBayOut ∧ Claims.TripReturnsUnits
    ∧ Claims.TripOfActiveBayTurnsToMenu ∧ Claims.TripOfOriginKeepsHandover

/-- POWER_BAY on: the tests of R123, the budget check without eviction, and the attempts reloaded (R119, R120, R123,
R128). -/
def Sys2Proof.Claims.PowerOnPreheats : Prop :=
  ∀ (s : State) (l : Link) (bay : Byte),
    let i := Instr.powerBayOn l bay
    let r := Request.powerBay bay 0x01
    s.Takes l r →
    (7 < bay.toNat → s.Refuses i l r .range)
    ∧ ∀ b : Bay, bay.toNat = b.val →
      let p := s.bay b
      let n := (s.profile b).general.attempts
      let fits := s.committedLoad + (s.profile b).general.load ≤ s.budget
      ((p.state = .tripped ∨ p.state = .faulted ∨ p.state = .disabled) → s.Refuses i l r .state)
      ∧ (p.state = .off → ¬fits → s.Refuses i l r .budget)
      ∧ (p.state = .off → fits → s.pins.overcurrent[b] = false → ∃ t, exec i s = .next t
          ∧ t.bay b = { p with
              state := .starting, attempts := n
              timer := some { count := 0, limit := (s.profile b).general.resetHold } }
          ∧ (∀ d : Bay, d ≠ b → t.bay d = s.bay d) ∧ (t.checker b).state = .seeking ∧ s.Answers t l r [] []
          ∧ t = { s with power := { s.power with bays := t.power.bays }, checkers := t.checkers, links := t.links })
      ∧ (p.state = .cooling → ∃ t, exec i s = .next t
          ∧ t.bay b = { p with
              attempts := n
              deferred := some (if p.deferred = some .handover then .handover else .preheat) }
          ∧ (∀ d : Bay, d ≠ b → t.bay d = s.bay d) ∧ s.Answers t l r [] []
          ∧ t = { s with power := { s.power with bays := t.power.bays }, links := t.links })
      ∧ (p.state.powered = true → ∃ t, exec i s = .next t
          ∧ t.bay b = { p with attempts := n } ∧ (∀ d : Bay, d ≠ b → t.bay d = s.bay d) ∧ s.Answers t l r [] []
          ∧ t = { s with power := { s.power with bays := t.power.bays }, links := t.links })

/-- A handover power request for an OFF bay evicts idle warm boards from the list's head, no more than the excess asks
for, and then powers the bay; where they are not enough it evicts none and fails (R120 to R122). -/
def Sys2Proof.Claims.HandoverPowerEvictsFromHead : Prop :=
  ∀ (s : State) (b : Bay), (s.bay b).state = .off → s.pins.overcurrent[b] = false → s.WarmOk →
    let excess := s.committedLoad + s.load b - s.budget
    let loads := fun ks : List Bay => (ks.map s.load).sum
    let t := s.powerRequest b
    (loads s.candidates < excess → t = s.report (.failed b .budget))
    ∧ (excess ≤ loads s.candidates → ∃ n : Nat, excess ≤ loads (s.candidates.take n)
        ∧ (∀ m : Nat, m < n → loads (s.candidates.take m) < excess)
        ∧ (t.bay b).state = .starting
        ∧ (∀ k ∈ s.candidates.take n, (t.bay k).state = .cooling)
        ∧ (∀ k : Bay, k ≠ b → k ∉ s.candidates.take n → t.bay k = s.bay k)
        ∧ t.power.warm = s.power.warm.filter (fun k => decide (k ∉ s.candidates.take n)))

/-- POWER_BAY off: BUSY in a role, STATE with units in the feeder, else the power cut or the deferred request dropped,
without a BAY notice (R124). -/
def Sys2Proof.Claims.PowerOffCutsIdleBay : Prop :=
  ∀ (s : State) (l : Link) (bay : Byte),
    let i := Instr.powerBayOff l bay
    let r := Request.powerBay bay 0x00
    s.Takes l r →
    (7 < bay.toNat → s.Refuses i l r .range)
    ∧ ∀ b : Bay, bay.toNat = b.val →
      (¬s.NoRole b → s.Refuses i l r .busy)
      ∧ (s.NoRole b → (s.feeder b).state ≠ .idle → s.Refuses i l r .state)
      ∧ (s.NoRole b → (s.feeder b).state = .idle →
        ((s.bay b).state.powered = true → s.gate.bay ≠ some b → s.monitor.source ≠ .bay b → ∃ t, exec i s = .next t
          ∧ t.bay b = { s.bay b with
              state := .cooling, deferred := none, releasePending := false
              timer := some { count := 0, limit := 500 } }
          ∧ (∀ d : Bay, d ≠ b → t.bay d = s.bay d) ∧ s.Answers t l r [] []
          ∧ t.power = { s.power with bays := t.power.bays, warm := s.power.warm.filter (fun k => decide (k ≠ b)) }
          ∧ t = { s with power := t.power, filters := t.filters, checkers := t.checkers, links := t.links })
        ∧ ((s.bay b).state = .cooling → ∃ t, exec i s = .next t
          ∧ t.bay b = { s.bay b with deferred := none } ∧ (∀ d : Bay, d ≠ b → t.bay d = s.bay d)
          ∧ s.Answers t l r [] []
          ∧ t = { s with power := { s.power with bays := t.power.bays }, links := t.links })
        ∧ ((s.bay b).state = .off ∨ (s.bay b).state = .tripped ∨ (s.bay b).state = .faulted
            ∨ (s.bay b).state = .disabled → s.Reads i l r []))

/-- POWER_BAY on and off, and a handover's own power request (R121 to R124). -/
def Obligations.PowerRequestsAct : Prop :=
  Claims.PowerOnPreheats ∧ Claims.PowerOffCutsIdleBay ∧ Claims.HandoverPowerEvictsFromHead

/-- ARM_BAY, an operator-level request, clears a trip unless the overcurrent input is active: the bay enters OFF with BAY
(ARMED), its attempts as they were. In OFF the input is not examined, and an entry to STARTING with it active trips
(R126). -/
def Obligations.ArmBayClearsTrip : Prop :=
  ∀ (s : State) (l : Link) (bay : Byte), (Request.armBay bay).operator = true ∧ (s.Takes l (.armBay bay) →
    (7 < bay.toNat → s.Refuses (.armBay l bay) l (.armBay bay) .range)
    ∧ ∀ b : Bay, bay.toNat = b.val →
      ((s.bay b).state ≠ .tripped → s.Refuses (.armBay l bay) l (.armBay bay) .state)
      ∧ ((s.bay b).state = .tripped → s.pins.overcurrent[b] = true →
          s.Refuses (.armBay l bay) l (.armBay bay) .faultPresent)
      ∧ ((s.bay b).state = .tripped → s.pins.overcurrent[b] = false → ∃ t, exec (.armBay l bay) s = .next t
          ∧ t.bay b = { s.bay b with state := .off } ∧ (∀ d : Bay, d ≠ b → t.bay d = s.bay d)
          ∧ s.Answers t l (.armBay bay) [] [.bay .armed b .off (s.bay b).attempts (s.warmPosition b)]
          ∧ t = { s with power := { s.power with bays := t.power.bays }, links := t.links }))
    ∧ (∀ b : Bay, (s.bay b).state = .off → ∀ active : Bool, exec (.overcurrent b active) s = .next
        { s with pins := { s.pins with overcurrent := s.pins.overcurrent.set b active } })
    ∧ ∀ b : Bay, s.pins.overcurrent[b] = true → ((s.enterStarting b).bay b).state = .tripped

/-- CLEAR_FAULT takes a FAULTED bay to OFF with BAY (CLEARED), its attempts as they were (R128). -/
def Sys2Proof.Claims.ClearFaultReturnsBay : Prop :=
  ∀ (s : State) (l : Link) (bay : Byte), s.Takes l (.clearFault bay) →
    (7 < bay.toNat → s.Refuses (.clearFault l bay) l (.clearFault bay) .range)
    ∧ ∀ b : Bay, bay.toNat = b.val →
      ((s.bay b).state ≠ .faulted → s.Refuses (.clearFault l bay) l (.clearFault bay) .state)
      ∧ ((s.bay b).state = .faulted → ∃ t, exec (.clearFault l bay) s = .next t
          ∧ t.bay b = { s.bay b with state := .off } ∧ (∀ d : Bay, d ≠ b → t.bay d = s.bay d)
          ∧ s.Answers t l (.clearFault bay) [] [.bay .cleared b .off (s.bay b).attempts (s.warmPosition b)]
          ∧ t = { s with power := { s.power with bays := t.power.bays }, links := t.links })

/-- DISABLE_BAY is acknowledged in every state: the enabled flag becomes false and the bay DISABLED, its power cut and
its deferred request dropped, with BAY (DISABLED); a bay already DISABLED is left as it is (R85, R129). -/
def Sys2Proof.Claims.DisableTakesBayOut : Prop :=
  ∀ (s : State) (l : Link) (bay : Byte), s.Takes l (.disableBay bay) →
    (7 < bay.toNat → s.Refuses (.disableBay l bay) l (.disableBay bay) .range)
    ∧ ∀ b : Bay, bay.toNat = b.val →
      ((s.bay b).state = .disabled → s.Reads (.disableBay l bay) l (.disableBay bay) [])
      ∧ ((s.bay b).state ≠ .disabled → s.NoRole b → (s.feeder b).state = .idle → s.gate.bay ≠ some b →
          s.monitor.source ≠ .bay b → ∃ t, exec (.disableBay l bay) s = .next t
          ∧ t.flags = { s.flags with enabled := s.flags.enabled.set b false }
          ∧ t.bay b = { s.bay b with state := .disabled, deferred := none, releasePending := false, timer := none }
          ∧ (∀ d : Bay, d ≠ b → t.bay d = s.bay d)
          ∧ t.power = { s.power with bays := t.power.bays, warm := s.power.warm.filter (fun k => decide (k ≠ b)) }
          ∧ s.Answers t l (.disableBay bay) [] [.bay .disabled b .disabled (s.bay b).attempts none]
          ∧ t = { s with flags := t.flags, power := t.power, filters := t.filters, checkers := t.checkers
                         links := t.links })

/-- Whatever the bay's role and units, a DISABLE_BAY that finds it powered leaves it DISABLED and off the monitor, its
feeder IDLE and no charge on it, and is acknowledged (R45, R118, R129, R151). -/
def Sys2Proof.Claims.DisableTakesAnyBayOut : Prop :=
  ∀ (s : State) (l : Link) (bay : Byte) (b : Bay), s.Takes l (.disableBay bay) → bay.toNat = b.val →
    (s.bay b).state.powered = true →
    ∃ t, exec (.disableBay l bay) s = .next t
      ∧ t.flags = { s.flags with enabled := s.flags.enabled.set b false }
      ∧ t.bay b = { s.bay b with state := .disabled, deferred := none, releasePending := false, timer := none }
      ∧ (t.feeder b).state = .idle ∧ t.gate.bay ≠ some b ∧ t.monitor.source ≠ .bay b
      ∧ (t.checker b).state = .dark ∧ t.filter b .one = .dark ∧ t.filter b .two = .dark
      ∧ (t.link l).replying = some (.ack (Request.disableBay bay).typ [])

/-- DISABLE_BAY of a bay in no role returns the units of its feeder, but for a unit confirmed in its pulse, before the BAY
notice (R45, R129; that order is log entry 19). -/
def Sys2Proof.Claims.DisableReturnsUnits : Prop :=
  ∀ (s : State) (l : Link) (bay : Byte) (b : Bay), s.Takes l (.disableBay bay) → bay.toNat = b.val →
    (s.bay b).state.powered = true → (s.feeder b).state ≠ .idle → s.NoRole b →
    s.gate.bay ≠ some b → s.monitor.source ≠ .bay b →
    ∃ t, exec (.disableBay l bay) s = .next t
      ∧ s.LosesPower t b ((s.bay b).out .disabled) ∧ s.UnitsLeave t b
      ∧ ((∀ k, (s.feeder b).slot = some k → k.status ≠ .confirmedInTrail) →
          s.Answers t l (.disableBay bay) []
            (s.returnNotices t b ++ [.bay .disabled b .disabled (s.bay b).attempts none]))
      ∧ t = { s with flags := t.flags, power := t.power, store := t.store, audit := t.audit, feeders := t.feeders
                     pulses := t.pulses, filters := t.filters, checkers := t.checkers, intake := t.intake
                     links := t.links }

/-- DISABLE_BAY of the active bay in PLAY is a loss: a handover to MENU begins with cause BAY_DISABLED and is in CLASS at
once, behind a blank picture, or the report is left for the next event (R129, R135, R149, R151, R168, log entry 39). -/
def Sys2Proof.Claims.DisableOfActiveBayTurnsToMenu : Prop :=
  ∀ (s : State) (l : Link) (bay : Byte) (b : Bay), s.Takes l (.disableBay bay) → bay.toNat = b.val →
    s.stage = .play b → (s.bay b).state = .running → s.monitor.source = .bay b → s.monitor.audio = .full →
    s.monitor.lineClass ≠ s.tables.cabinet.system.menuClass → 0 < s.tables.cabinet.system.settle →
    let off := { s.monitor with source := .blank, audio := .muted, gain := 0 }
    let answers := fun (t : State) (ns : List Notice) => (s.feeder b).state = .idle → s.gate.bay ≠ some b →
      s.Answers t l (.disableBay bay) [] (.bay .disabled b .disabled (s.bay b).attempts none :: ns)
    ∃ t, exec (.disableBay l bay) s = .next t ∧ (∀ d : Bay, d ≠ b → t.bay d = s.bay d) ∧ t.routing.pulses = []
      ∧ (t.LossBegun b .disabled ∧ answers t [.stageBegun (.bay b) .menu (.loss .disabled)]
          ∧ t.monitor = { off with
              cut := some .menu, lineClass := s.tables.cabinet.system.menuClass
              settle := some { count := 0, limit := s.tables.cabinet.system.settle } }
        ∨ t.LossLeft b .disabled ∧ answers t [] ∧ t.monitor = off)

/-- DISABLE_BAY of the current target in POWER, powered or holding a deferred HANDOVER, turns the handover to MENU with
reason DISABLED; of an origin before its release in POWER, it leaves the handover as it is (R129, R135, R167, R169). -/
def Sys2Proof.Claims.DisableInHandover : Prop :=
  ∀ (s : State) (l : Link) (bay : Byte) (b : Bay) (h : HandoverRecord), s.Takes l (.disableBay bay) →
    bay.toNat = b.val → s.stage = .handover h → h.phase = .power → (s.feeder b).state = .idle →
    s.gate.bay ≠ some b → s.monitor.audio = .muted →
    let gone := { s.bay b with state := .disabled, deferred := none, releasePending := false, timer := none }
    (h.target = .bay b → h.origin ≠ .bay b → s.monitor.source ≠ .bay b → (s.bay b).state ≠ .disabled →
      (s.bay b).state.powered = true ∨ (s.bay b).deferred = some .handover →
      s.monitor.lineClass ≠ s.tables.cabinet.system.menuClass → 0 < s.tables.cabinet.system.settle →
      ∃ t, exec (.disableBay l bay) s = .next t
      ∧ t.stage = .handover { h with
          target := .menu, cause := .failed, failedBay := some b, failReason := some .disabled, phase := .classChange }
      ∧ t.BaysAre (fun d => if d = b then gone else s.bay d)
      ∧ t.monitor.cut = some .menu ∧ t.monitor.source = .blank
      ∧ s.Answers t l (.disableBay bay) []
          [.bay .disabled b .disabled (s.bay b).attempts none, .handoverFailed b .disabled h.origin])
    ∧ (h.origin = .bay b → h.target ≠ .bay b → (s.bay b).state.powered = true →
      ∃ t, exec (.disableBay l bay) s = .next t ∧ t.stage = s.stage
      ∧ t.BaysAre (fun d => if d = b then gone else s.bay d)
      ∧ t.monitor = (if s.monitor.source = .bay b then { s.monitor with source := .blank, gain := 0 } else s.monitor)
      ∧ s.Answers t l (.disableBay bay) [] [.bay .disabled b .disabled (s.bay b).attempts none])

/-- CLEAR_FAULT, and DISABLE_BAY of a bay in any state, role or use (R128, R129). -/
def Obligations.ClearFaultAndDisable : Prop :=
  Claims.ClearFaultReturnsBay ∧ Claims.DisableTakesBayOut ∧ Claims.DisableTakesAnyBayOut ∧ Claims.DisableReturnsUnits
    ∧ Claims.DisableOfActiveBayTurnsToMenu ∧ Claims.DisableInHandover

/-- ENABLE_BAY returns a DISABLED bay to service: the enabled flag becomes true and the bay enters OFF with BAY
(ENABLED), its attempts as they were (R130). -/
def Obligations.EnableReturnsBay : Prop :=
  ∀ (s : State) (l : Link) (bay : Byte), (Request.enableBay bay).operator = true ∧ (s.Takes l (.enableBay bay) →
    (7 < bay.toNat → s.Refuses (.enableBay l bay) l (.enableBay bay) .range)
    ∧ ∀ b : Bay, bay.toNat = b.val →
      ((s.bay b).state ≠ .disabled → s.Refuses (.enableBay l bay) l (.enableBay bay) .state)
      ∧ ((s.bay b).state = .disabled → ∃ t, exec (.enableBay l bay) s = .next t
          ∧ t.flags = { s.flags with enabled := s.flags.enabled.set b true }
          ∧ t.bay b = { s.bay b with state := .off } ∧ (∀ d : Bay, d ≠ b → t.bay d = s.bay d)
          ∧ s.Answers t l (.enableBay bay) [] [.bay .enabled b .off (s.bay b).attempts (s.warmPosition b)]
          ∧ t = { s with flags := t.flags, power := { s.power with bays := t.power.bays }, links := t.links }))

/-! ## Sync checkers and crosspoint (08) -/

/-- A field sync pulse measures the field it ends; in SEEKING eight good fields in a row lock the checker, and a bad one
starts the row again, and in LOCKED up to three bad fields in a row are borne (R139, R141, R142). -/
def Sys2Proof.Claims.FieldsJudgedByCheckerState : Prop :=
  ∀ (s : State) (b : Bay) (lines length : Nat), s.Settled →
    let c := s.checker b
    let k := (s.profile b).general.lineClass
    let good := fieldClass lines length = .inClass k ∧ 47 * length ≤ 1000000000 ∧ 1000000000 ≤ 63 * length
    let becomes := fun c' : Checker =>
      exec (.fieldSyncPulse b lines length) s = .next { s with checkers := s.checkers.set b c' }
    (c.state = .dark → exec (.fieldSyncPulse b lines length) s = .next s)
    ∧ (c.state ≠ .dark → c.begun = false → becomes { c with begun := true, gap := 0 })
    ∧ (c.begun = true →
      let m := { c with measured := some (fieldClass lines length), rate := some length, gap := 0 }
      (c.state = .seeking → ¬good → becomes { m with good := 0 })
      ∧ (c.state = .seeking → good → c.good < 7 → becomes { m with good := c.good + 1 })
      ∧ (c.state = .seeking → good → 7 ≤ c.good → (s.bay b).state ≠ .booting →
          becomes { m with state := .locked, good := 8, bad := 0 })
      ∧ (c.state = .locked → good → becomes { m with bad := 0 })
      ∧ (c.state = .locked → ¬good → c.bad < 3 → becomes { m with bad := c.bad + 1 })
      ∧ (c.state = .locked → ¬good → 3 ≤ c.bad → (s.bay b).state ≠ .running →
          becomes { m with state := .lost, bad := 4 })
      ∧ (c.state = .lost → becomes m))

/-- The line rate and field rate classes: a line rate of a class's range gives that class, both ends included, and any
other rate OUT (R139 and the class table). -/
def Sys2Proof.Claims.LineRateGivesClass : Prop :=
  ∀ lines length : Nat, 0 < length →
    (fieldClass lines length = .inClass .low ↔
      15000 * length ≤ lines * 1000000000 ∧ lines * 1000000000 ≤ 16600 * length)
    ∧ (fieldClass lines length = .inClass .medium ↔
      23500 * length ≤ lines * 1000000000 ∧ lines * 1000000000 ≤ 25500 * length)
    ∧ (fieldClass lines length = .inClass .high ↔
      30000 * length ≤ lines * 1000000000 ∧ lines * 1000000000 ≤ 32500 * length)

/-- The eighth good field takes a BOOTING bay in no role to RUNNING, at the warm list's head, with BAY (RUNNING) (R117,
R131, R141). -/
def Sys2Proof.Claims.LockStartsBay : Prop :=
  ∀ (s : State) (b : Bay) (lines length : Nat), s.Settled → s.NoRole b → (s.bay b).state = .booting →
    (s.checker b).state = .seeking → (s.checker b).begun = true → (s.checker b).good = 7 →
    fieldGood (s.profile b).general.lineClass lines length = true →
    ∃ t, exec (.fieldSyncPulse b lines length) s = .next t
      ∧ t.bay b = { s.bay b with state := .running, timer := none } ∧ (∀ d : Bay, d ≠ b → t.bay d = s.bay d)
      ∧ t.power = { s.power with bays := t.power.bays, warm := b :: s.power.warm }
      ∧ (t.checker b).state = .locked ∧ (t.checker b).bad = 0 ∧ (t.checker b).gap = 0
      ∧ s.Tells t [.bay .running b .running (s.bay b).attempts (s.warmPosition b)]
      ∧ t = { s with power := t.power, checkers := t.checkers, links := t.links }

/-- The eighth good field takes a BOOTING bay to RUNNING in any role: a target in POWER is READY and CLASS begins with a cut
request for it, a target in RELEASE or QUIET leaves the handover as it is, and the active bay or an origin that recovers
joins no list (R117, R131, R135, R141, R157 to R159, R161). -/
def Sys2Proof.Claims.LockStartsBayInRole : Prop :=
  ∀ (s : State) (b : Bay) (lines length : Nat), s.Settled → (s.bay b).state = .booting →
    (s.checker b).state = .seeking → (s.checker b).begun = true → (s.checker b).good = 7 →
    fieldGood (s.profile b).general.lineClass lines length = true →
    let starts := fun t : State => exec (.fieldSyncPulse b lines length) s = .next t ∧ s.StartsRunning t b
      ∧ (t.checker b).state = .locked ∧ (t.checker b).bad = 0 ∧ (t.checker b).gap = 0
      ∧ ∀ d, d ≠ b → t.checker d = s.checker d
    (∀ h : HandoverRecord, s.stage = .handover h → h.target = .bay b →
      (h.phase = .power → s.PlainClass s.monitor h → ∃ t, starts t ∧ s.ClassBegins t s.monitor h
        ∧ t = { s with stage := t.stage, monitor := t.monitor, routing := t.routing
                       power := { s.power with bays := t.power.bays }, checkers := t.checkers, links := t.links })
      ∧ (h.phase = .release ∨ h.phase = .quiet → ∃ t, starts t
        ∧ t = { s with power := { s.power with bays := t.power.bays }, checkers := t.checkers, links := t.links }))
    ∧ (s.isActive b = true ∨ s.isOrigin b = true → s.isTarget b = false → ∃ t, starts t
        ∧ t = { s with power := { s.power with bays := t.power.bays }, checkers := t.checkers, links := t.links })

/-- The field-gap expiry loses a LOCKED checker's lock; while its bay is not RUNNING no power state changes (R142,
R143). -/
def Sys2Proof.Claims.FieldGapLosesLock : Prop :=
  ∀ (s : State) (b : Bay), s.Settled → (s.checker b).state = .locked → (s.bay b).state ≠ .running →
    exec (.fieldGapExpiry b) s = .next { s with checkers := s.checkers.set b { s.checker b with state := .lost } }

/-- The fields a checker judges, and what lock and its loss do (R139, R141, R142, R143). -/
def Obligations.SyncDecidesLock : Prop :=
  Claims.FieldsJudgedByCheckerState ∧ Claims.LineRateGivesClass ∧ Claims.LockStartsBay ∧ Claims.LockStartsBayInRole
    ∧ Claims.FieldGapLosesLock

/-- A cut request makes a class step behind a blank picture where the classes differ and waits for the settle timer,
and cuts at once where nothing is to be waited for (R146, R149). -/
def Sys2Proof.Claims.CutRequestStepsClass : Prop :=
  ∀ (s : State) (t : Target),
    (s.targetClass t ≠ s.monitor.lineClass → 0 < s.tables.cabinet.system.settle →
      (s.cutRequest t).monitor = { s.monitor with
        source := .blank, audio := .muted, gain := 0, cut := some t, lineClass := s.targetClass t
        settle := some { count := 0, limit := s.tables.cabinet.system.settle } })
    ∧ (s.targetClass t = s.monitor.lineClass → s.monitor.settle.isSome = true →
      (s.cutRequest t).monitor = { s.monitor with cut := some t })
    ∧ (s.targetClass t = s.monitor.lineClass → s.monitor.settle = none → s.cutSource t ≠ .blank →
      (s.cutRequest t).monitor.source = s.cutSource t ∧ (s.cutRequest t).monitor.cut = none
      ∧ (s.cutRequest t).monitor.lineClass = s.monitor.lineClass
      ∧ (s.cutRequest t).reports = s.reports ++ [.cutDone (s.cutSource t)])
    ∧ s.cutSource .menu = .menu
    ∧ ∀ b : Bay, s.cutSource (.bay b) = if (s.bay b).state = .running then .bay b else .blank

/-- The settle timer that stops with no cut request recorded changes nothing else, and without a timer nothing stops; a
recorded cut to a bay that is not RUNNING sets BLANK, and the phase goes on waiting (R146, R149). -/
def Sys2Proof.Claims.SettleExpiryStopsTimer : Prop :=
  ∀ s : State, s.Settled →
    (s.monitor.settle = none → exec .settleExpiry s = .next s)
    ∧ (s.monitor.settle.isSome = true → s.monitor.cut = none → exec .settleExpiry s = .next
        { s with monitor := { s.monitor with settle := none } })
    ∧ ∀ b : Bay, s.monitor.settle.isSome = true → s.monitor.cut = some (.bay b) → (s.bay b).state ≠ .running →
        s.monitor.audio ≠ .falling → exec .settleExpiry s = .next { s with monitor := { s.monitor with
          settle := none, cut := none, source := .blank, audio := .muted, gain := 0 } }

/-- The settle timer that stops with the target's cut recorded in CLASS makes the cut-over: the target is selected with a
rising ramp, the origin is released to the warm list's tail, and QUIET begins, granted at once by an empty panel (R111,
R132, R146, R149, R159 to R162). -/
def Sys2Proof.Claims.SettleExpiryMakesCut : Prop :=
  ∀ (s : State) (r : HandoverRecord), s.Settled → s.monitor.settle.isSome = true → s.stage = .handover r →
    r.phase = .classChange → s.monitor.cut = some r.target → s.cutSource r.target ≠ .blank →
    s.monitor.gain < Config.gainFull → 0 < s.rampLength → r.followOn = none →
    (∀ a : Bay, r.leaves = some a → (s.bay a).state = .running ∧ (s.profile a).general.keepWarm = true) →
    let m := { s.monitor with
      settle := none, cut := none, source := s.cutSource r.target, audio := .rising, ramp := s.rampLength }
    let warm := s.power.warm ++ r.leaves.toList
    (s.panel.pressed ≠ [] → 0 < s.tables.cabinet.panel.quiet → exec .settleExpiry s = .next
      { s with
        monitor := m, stage := .handover r.cutOver, power := { s.power with warm := warm }
        routing := { s.routing with quiet := some { count := 0, limit := s.tables.cabinet.panel.quiet } } })
    ∧ (s.panel.pressed = [] → ∃ t, exec .settleExpiry s = .next t
      ∧ t.stage = r.target.stage ∧ t.monitor = m ∧ t.BaysAre (s.entered r.target)
      ∧ t.power = { bays := t.power.bays, warm := warm, protectedSet := [] }
      ∧ t.routing = { s.routing with pulses := if r.target = .menu then s.routing.pulses else [] }
      ∧ t.panel = { s.panel with menuHold := if r.target = .menu then none else s.panel.menuHold }
      ∧ s.Tells t [.stageEntered r.target r.cause]
      ∧ t = { s with stage := t.stage, monitor := t.monitor, power := t.power, routing := t.routing, panel := t.panel
                     links := t.links })

/-- The release of an origin at the cut-over, by its power state, its feeder and its keep-warm field (R132). -/
def Sys2Proof.Claims.OriginReleasedByKeepWarm : Prop :=
  ∀ (s : State) (a : Bay),
    let keeps := (s.profile a).general.keepWarm = true
    let state := (s.bay a).state
    (state = .running → keeps → s.releaseOrigin a = s.setWarm (s.power.warm ++ [a]))
    ∧ (state = .running → ¬keeps → (s.feeder a).state ≠ .idle → s.releaseOrigin a = { s with
        power := { s.power with
          bays := s.power.bays.set a { s.bay a with releasePending := true }, warm := s.power.warm ++ [a] } })
    ∧ (state = .running → ¬keeps → (s.feeder a).state = .idle → s.releaseOrigin a = s.cutPower a .cooling)
    ∧ (state = .starting ∨ state = .booting → ¬keeps → s.releaseOrigin a = s.cutPower a .cooling)
    ∧ (state = .starting ∨ state = .booting → keeps → s.releaseOrigin a = s)
    ∧ (state = .cooling → keeps → s.releaseOrigin a = s)
    ∧ (state = .cooling → ¬keeps → s.releaseOrigin a = s.setBay a { s.bay a with deferred := none })
    ∧ (state = .off ∨ state = .tripped ∨ state = .faulted ∨ state = .disabled → s.releaseOrigin a = s)

/-- A rising ramp's end brings full gain; a falling ramp's end mutes, and in RELEASE it starts POWER for a bay target,
whose power request is judged (R147, R148, R157, R158). -/
def Sys2Proof.Claims.RampEndGoesOn : Prop :=
  ∀ s : State, s.Settled →
    (s.monitor.audio = .muted ∨ s.monitor.audio = .full → exec .audioRampEnd s = .next s)
    ∧ (s.monitor.audio = .rising → exec .audioRampEnd s = .next
      { s with monitor := { s.monitor with audio := .full, gain := Config.gainFull } })
    ∧ (s.monitor.audio = .falling → (∀ r, s.handover = some r → r.phase ≠ .release) → exec .audioRampEnd s = .next
        { s with monitor := { s.monitor with audio := .muted, gain := 0 } })
    ∧ ∀ (r : HandoverRecord) (b : Bay), s.monitor.audio = .falling → s.stage = .handover r → r.phase = .release →
        r.target = .bay b → (s.bay b).state = .off → s.committedLoad + (s.profile b).general.load ≤ s.budget →
        s.pins.overcurrent[b] = false → ∃ t, exec .audioRampEnd s = .next t
          ∧ t.monitor = { s.monitor with audio := .muted, gain := 0 }
          ∧ t.stage = .handover { r with phase := .power }
          ∧ t.bay b = { s.bay b with
              state := .starting, timer := some { count := 0, limit := (s.profile b).general.resetHold } }
          ∧ (∀ d : Bay, d ≠ b → t.bay d = s.bay d) ∧ t.checker b = { Checker.fresh with state := .seeking }
          ∧ t = { s with monitor := t.monitor, stage := t.stage, power := { s.power with bays := t.power.bays }
                         checkers := t.checkers }

/-- The end of a falling ramp in RELEASE goes on by the target as it then stands: MENU, or a RUNNING bay, has CLASS begin with
a cut request for it; a COOLING one gets HANDOVER deferred, and a STARTING or BOOTING one is waited for in POWER; an OFF one
is powered, behind evictions where room is to be made; and one that cannot be powered turns the handover to MENU with its
reason (R121, R135, R157 to R159, R167). -/
def Sys2Proof.Claims.RampEndJudgesTarget : Prop :=
  ∀ (s : State) (r : HandoverRecord), s.Settled → s.monitor.audio = .falling → s.stage = .handover r →
    r.phase = .release →
    let m := { s.monitor with audio := .muted, gain := 0 }
    let power : State := { s with monitor := m, stage := .handover { r with phase := .power } }
    let goes := fun (u t : State) => exec .audioRampEnd s = .next t
      ∧ t = { u with stage := t.stage, monitor := t.monitor, routing := t.routing, links := t.links }
    (r.target = .menu → s.PlainClass m r → ∃ t, goes s t ∧ s.ClassBegins t m r ∧ s.Tells t [])
    ∧ ∀ b : Bay, r.target = .bay b →
      ((s.bay b).state = .running → s.PlainClass m r → ∃ t, goes s t ∧ s.ClassBegins t m r ∧ s.Tells t [])
      ∧ ((s.bay b).state = .starting ∨ (s.bay b).state = .booting → exec .audioRampEnd s = .next power)
      ∧ ((s.bay b).state = .cooling → exec .audioRampEnd s = .next { power with
          power := { s.power with bays := s.power.bays.set b { s.bay b with deferred := some .handover } } })
      ∧ ((s.bay b).state = .off → (s.bay b).deferred = none → s.excess b ≤ s.loads s.candidates →
          s.pins.overcurrent[b] = false → s.PlainCandidates →
          ∃ (t : State) (n : Nat), exec .audioRampEnd s = .next t ∧ s.StartsBehind t b n
          ∧ t = { power with power := t.power, filters := t.filters, checkers := t.checkers, links := t.links })
      ∧ ∀ why : FailReason,
          (s.bay b).state = .tripped ∧ why = .tripped ∨ (s.bay b).state = .faulted ∧ why = .faulted
            ∨ (s.bay b).state = .disabled ∧ why = .disabled
            ∨ (s.bay b).state = .off ∧ s.loads s.candidates < s.excess b ∧ why = .budget →
          s.PlainClass m (r.failed b why) → ∃ t, goes s t ∧ s.ClassBegins t m (r.failed b why)
          ∧ s.Tells t [.handoverFailed b why r.origin]

/-- What leaves the part for the monitor and the amplifier: the source's own picture and sound at the audio gain, or from
BLANK sync at the blank rate of the monitor class, 60 fields a second, and no sound (R145, R146). -/
def Sys2Proof.Claims.MonitorGivenSource : Prop :=
  ∀ s : State, s.classLines = s.monitor.lineClass
    ∧ (s.monitor.source = .blank → s.audioGain = 0 ∧ s.blankFieldRate = some 60
        ∧ s.blankSync = some (match s.monitor.lineClass with
          | .low => 15700
          | .medium => 24800
          | .high => 31500))
    ∧ (s.monitor.source ≠ .blank → s.audioGain = s.monitor.gain ∧ s.blankFieldRate = none ∧ s.blankSync = none)

/-- Class steps, cuts, ramps and the cut-over at the Crosspoint, and what it passes on (R132, R145 to R149, R159 to
R162). -/
def Obligations.CrosspointTimersGoOn : Prop :=
  Claims.CutRequestStepsClass ∧ Claims.SettleExpiryStopsTimer ∧ Claims.SettleExpiryMakesCut
    ∧ Claims.OriginReleasedByKeepWarm ∧ Claims.RampEndGoesOn ∧ Claims.RampEndJudgesTarget ∧ Claims.MonitorGivenSource

/-! ## The handover controller (09) -/

/-- SELECT is refused by the tests of R163 in their order, and changes nothing where it names the current target. -/
def Obligations.SelectTestsInOrder : Prop :=
  ∀ (s : State) (l : Link) (x : Byte),
    let i := Instr.select l x
    let r := Request.select x
    s.Takes l r →
    (8 < x.toNat → s.Refuses i l r .range)
    ∧ ∀ t : Target, targetArg x = some t →
      let barred := ∃ b, t = .bay b
        ∧ ((s.bay b).state = .disabled ∨ (s.bay b).state = .faulted ∨ (s.bay b).state = .tripped)
      (barred → s.Refuses i l r .state)
      ∧ (¬barred →
        (s.stage = .menu → t = .menu → s.Refuses i l r .already)
        ∧ (∀ b : Bay, s.stage = .play b → t = .bay b → s.Refuses i l r .already)
        ∧ ∀ h : HandoverRecord, s.stage = .handover h →
          (t = h.target → s.Reads i l r [])
          ∧ (t ≠ h.target → h.phase = .quiet → s.Refuses i l r .busy)
          ∧ (t ≠ h.target → h.phase ≠ .quiet → ∀ b : Bay, t = .bay b → h.origin = .bay b →
              (s.bay b).state ≠ .running → s.Refuses i l r .state))

/-- A SELECT of a bay taken in MENU with the audio up begins a handover: its record, the protected set, the target named
to the Bay Power Controller with its attempts reloaded, BEGUN on both links and a falling ramp (R128, R131, R148, R156,
R163). -/
def Sys2Proof.Claims.SelectBeginsHandover : Prop :=
  ∀ (s : State) (l : Link) (x : Byte) (b : Bay), s.Takes l (.select x) → x.toNat = b.val → s.stage = .menu →
    (s.bay b).state ≠ .disabled → (s.bay b).state ≠ .faulted → (s.bay b).state ≠ .tripped →
    s.monitor.audio = .full → 0 < s.monitor.gain → 0 < s.rampLength →
    ∃ t, exec (.select l x) s = .next t
      ∧ t.stage = .handover { origin := .menu, released := false, target := .bay b, phase := .release
                              cause := .select l, failedBay := none, failReason := none, followOn := none }
      ∧ t.power.protectedSet = [b] ∧ t.power.warm = s.power.warm.filter (fun k => decide (k ≠ b))
      ∧ t.bay b = { s.bay b with releasePending := false, attempts := (s.profile b).general.attempts }
      ∧ (∀ d : Bay, d ≠ b → t.bay d = s.bay d)
      ∧ t.monitor = { s.monitor with audio := .falling, ramp := s.rampLength }
      ∧ s.Answers t l (.select x) [] [.stageBegun .menu (.bay b) (.select l)]
      ∧ t = { s with stage := t.stage, power := t.power, monitor := t.monitor, links := t.links }

/-- A SELECT taken in PLAY begins a handover from the active bay: in RELEASE its route pulses stop, a start charge on it is
abandoned and its carry cleared, its leave policy returns its queued units or keeps those of cause TRANSFER, and the
audio falls (R43, R44, R74, R75, R110, R148, R156, R157). -/
def Sys2Proof.Claims.SelectLeavesPlay : Prop :=
  ∀ (s : State) (l : Link) (x : Byte) (a : Bay) (T : Target), s.Takes l (.select x) → targetArg x = some T →
    s.stage = .play a → T ≠ .bay a → (∀ b, T = .bay b → ¬s.Barred b) → (s.bay a).releasePending = false →
    s.monitor.audio = .full → 0 < s.monitor.gain → 0 < s.rampLength →
    let paying := s.gate.state = .paying ∧ s.gate.bay = some a
    let all := (s.profile a).coin.leavePolicy = .giveBack
    let goes := fun k : CoinUnit =>
      decide all || (decide paying && decide (k.cause = .gate) && s.gate.units.contains k.number)
    let ns := ((s.feeder a).queue.filter goes).map CoinUnit.number
    let moved := s.store.countUnits a ns
    ∃ t, exec (.select l x) s = .next t
      ∧ t.stage = .handover (.begun (.bay a) T (.select l))
      ∧ t.routing = { s.routing with pulses := [] }
      ∧ t.monitor = { s.monitor with audio := .falling, ramp := s.rampLength }
      ∧ t.power = { bays := t.power.bays, protectedSet := T.bay?.toList
                    warm := s.power.warm.filter (fun k => decide (T ≠ .bay k)) }
      ∧ t.BaysAre (fun d => if T = .bay d then s.named d else s.bay d)
      ∧ t.gate = (if s.gate.bay = some a then Gate.fresh else s.gate)
      ∧ t.feeder a = { s.feeder a with queue := (s.feeder a).queue.filter (fun k => !goes k) }
      ∧ (∀ d : Bay, d ≠ a → t.feeder d = s.feeder d)
      ∧ t.store = s.store.giveBack a ns ∧ t.audit = s.audit
      ∧ (¬(paying ∧ all) → s.Answers t l (.select x) [] (.stageBegun (.bay a) T (.select l)
          :: ((if moved = 0 then [] else s.storeNotices t .giveBack moved (some a))
            ++ if paying then [.gateAbandoned a s.gate.switch .release s.gate.owed s.gate.confirmed 0] else [])))
      ∧ t = { s with stage := t.stage, routing := t.routing, monitor := t.monitor, power := t.power, gate := t.gate
                     feeders := t.feeders, store := t.store, intake := t.intake, links := t.links
                     choices := t.choices }

/-- A retarget from one bay to another in RELEASE: the cause and target change, the former target is left as its state and
its keep-warm field say, the new one is named, RETARGETED is sent, and the phase stays RELEASE (R134, R164). -/
def Sys2Proof.Claims.SelectRetargetsInRelease : Prop :=
  ∀ (s : State) (l : Link) (x : Byte) (h : HandoverRecord) (a b : Bay), s.Takes l (.select x) → x.toNat = b.val →
    s.stage = .handover h → h.phase = .release → h.target = .bay a → a ≠ b → h.origin ≠ .bay a → h.origin ≠ .bay b →
    ¬s.Barred b → s.Uninvolved a →
    ∃ t, exec (.select l x) s = .next t
      ∧ t.stage = .handover (h.turned (.bay b) (.select l))
      ∧ (∀ k : Bay, k ∈ t.power.protectedSet ↔ k ∈ s.power.protectedSet ∨ k = b)
      ∧ t.power.warm = (s.leftWarm a).filter (fun k => decide (k ≠ b))
      ∧ t.BaysAre (fun d => if d = b then s.named b else if d = a then s.left a else s.bay d)
      ∧ (s.cutWhenLeft a = false → t.filters = s.filters ∧ t.checkers = s.checkers)
      ∧ s.Answers t l (.select x) [] [.stageRetargeted h.origin (.bay b) (.bay a) (.select l) .release]
      ∧ t = { s with stage := t.stage, power := t.power, filters := t.filters, checkers := t.checkers, links := t.links }

/-- A retarget in POWER or CLASS: a cut request of CLASS is withdrawn, and POWER goes on, or begins again, with a power
request for the new target at once (R117, R121, R150, R158, R164). -/
def Sys2Proof.Claims.SelectRetargetsPower : Prop :=
  ∀ (s : State) (l : Link) (x : Byte) (h : HandoverRecord) (a b : Bay), s.Takes l (.select x) → x.toNat = b.val →
    s.stage = .handover h → h.phase = .power ∨ h.phase = .classChange → h.target = .bay a → a ≠ b →
    h.origin ≠ .bay a → h.origin ≠ .bay b → (s.bay b).state = .off → s.committedLoad + s.load b ≤ s.budget →
    s.pins.overcurrent[b] = false → s.Uninvolved a →
    ∃ t, exec (.select l x) s = .next t
      ∧ t.stage = .handover { h.turned (.bay b) (.select l) with phase := .power }
      ∧ (∀ k : Bay, k ∈ t.power.protectedSet ↔ k ∈ s.power.protectedSet ∨ k = b)
      ∧ t.power.warm = (s.leftWarm a).filter (fun k => decide (k ≠ b))
      ∧ t.BaysAre (fun d =>
          if d = b then { s.named b with
            state := .starting, timer := some { count := 0, limit := (s.profile b).general.resetHold } }
          else if d = a then s.left a else s.bay d)
      ∧ t.monitor = { s.monitor with cut := if h.phase = .classChange then none else s.monitor.cut }
      ∧ (t.checker b).state = .seeking ∧ (s.cutWhenLeft a = false → t.filters = s.filters)
      ∧ s.Answers t l (.select x) [] [.stageRetargeted h.origin (.bay b) (.bay a) (.select l) h.phase]
      ∧ t = { s with stage := t.stage, power := t.power, filters := t.filters, checkers := t.checkers
                     monitor := t.monitor, links := t.links }

/-- A SELECT of the origin, MENU or a RUNNING bay, collapses the handover: in RELEASE the phase stays, and in POWER the
origin, still on the monitor at its own class, is cut to in the same event and QUIET begins, nothing being released
(R111, R149, R160, R164, R165). -/
def Sys2Proof.Claims.SelectCollapses : Prop :=
  ∀ (s : State) (l : Link) (x : Byte) (h : HandoverRecord) (a : Bay), s.Takes l (.select x) →
    targetArg x = some h.origin → s.stage = .handover h → h.target = .bay a → h.origin ≠ .bay a →
    (∀ o, h.origin = .bay o → (s.bay o).state = .running) → s.Uninvolved a →
    let turned := h.turned h.origin (.select l)
    let leaves := fun t : State =>
      (∀ k : Bay, k ∈ t.power.protectedSet ↔ k ∈ s.power.protectedSet ∨ h.origin = .bay k)
      ∧ t.power.warm = (s.leftWarm a).filter (fun k => decide (h.origin ≠ .bay k))
      ∧ t.BaysAre (fun d => if h.origin = .bay d then s.named d else if d = a then s.left a else s.bay d)
      ∧ s.Answers t l (.select x) [] [.stageRetargeted h.origin h.origin (.bay a) (.select l) h.phase]
    (h.phase = .release → ∃ t, exec (.select l x) s = .next t ∧ leaves t ∧ t.stage = .handover turned
      ∧ t = { s with stage := t.stage, power := t.power, filters := t.filters, checkers := t.checkers
                     links := t.links })
    ∧ (h.phase = .power → s.targetClass h.origin = s.monitor.lineClass → s.monitor.settle = none →
      s.monitor.gain < Config.gainFull → 0 < s.rampLength → s.panel.pressed ≠ [] → 0 < s.tables.cabinet.panel.quiet →
      ∃ t, exec (.select l x) s = .next t ∧ leaves t ∧ t.stage = .handover { turned with phase := .quiet }
      ∧ t.monitor = { s.monitor with
          cut := none, source := h.origin.source, audio := .rising, ramp := s.rampLength }
      ∧ t.routing = { s.routing with quiet := some { count := 0, limit := s.tables.cabinet.panel.quiet } }
      ∧ t = { s with stage := t.stage, power := t.power, filters := t.filters, checkers := t.checkers
                     monitor := t.monitor, routing := t.routing, links := t.links })

/-- A SELECT that is taken: it begins a handover, retargets one or collapses it (R134, R156, R164, R165). -/
def Obligations.SelectBeginsOrRetargets : Prop :=
  Claims.SelectBeginsHandover ∧ Claims.SelectLeavesPlay ∧ Claims.SelectRetargetsInRelease
    ∧ Claims.SelectRetargetsPower ∧ Claims.SelectCollapses

/-- A trip of the current target in POWER turns the handover to MENU: HANDOVER_FAILED after the BAY notice of the trip,
and the cut to MENU requested (R125, R135, R167, R172). -/
def Sys2Proof.Claims.TargetTripTurnsToMenu : Prop :=
  ∀ (s : State) (b : Bay) (h : HandoverRecord), s.Settled → s.stage = .handover h → h.phase = .power →
    h.target = .bay b → h.origin = .menu → (s.bay b).state = .starting ∨ (s.bay b).state = .booting →
    (s.feeder b).state = .idle → s.gate.bay ≠ some b → s.monitor.source = .menu →
    s.monitor.lineClass ≠ s.tables.cabinet.system.menuClass → 0 < s.tables.cabinet.system.settle →
    s.monitor.audio = .muted →
    ∃ t, exec (.overcurrent b true) s = .next t
      ∧ t.stage = .handover { h with
          target := .menu, cause := .failed, failedBay := some b, failReason := some .tripped, phase := .classChange }
      ∧ (t.bay b).state = .tripped ∧ (∀ d : Bay, d ≠ b → t.bay d = s.bay d)
      ∧ t.monitor.cut = some .menu ∧ t.monitor.source = .blank
      ∧ s.Tells t [.bay .tripped b .tripped (s.bay b).attempts none, .handoverFailed b .tripped .menu]

/-- A LOSS of the active bay that an event has left: a SELECT of the lost bay is refused STATE in TRIPPED, FAULTED and
DISABLED and ALREADY in COOLING, a SELECT of MENU or a menu request begins its own handover, of whose origin the loss then
is, and a switch event drives nothing; the loss is taken behind each of them, or in the next slot (R107, R163, R168, R169,
R171, log entry 39). -/
def Sys2Proof.Claims.LeftLossTakenBehindNextEvent : Prop :=
  ∀ (s : State) (b : Bay) (c : LossCause), s.reports = [] → s.LossLeft b c → (s.bay b).state.powered = false →
    s.monitor.audio = .muted → s.monitor.lineClass ≠ s.tables.cabinet.system.menuClass →
    0 < s.tables.cabinet.system.settle → (s.feeder b).queue = [] → s.gate.bay ≠ some b →
    let turned := fun (t : State) (k : Cause) => t.Settled
      ∧ t.stage = .handover { HandoverRecord.begun (.bay b) .menu k with phase := .classChange }
      ∧ t.routing.pulses = [] ∧ t.power.bays = s.power.bays ∧ t.store = s.store
    turned s.drain (.loss c)
    ∧ (∀ (l : Link) (x : Byte), (s.link l).busy = false →
        (x.toNat = b.val → ∃ t, exec (.select l x) s = .next t ∧ turned t (.loss c)
          ∧ ((s.bay b).state = .tripped ∨ (s.bay b).state = .faulted ∨ (s.bay b).state = .disabled →
              (t.link l).replying = some (.nak (Request.select x).typ .state))
          ∧ ((s.bay b).state = .cooling → (t.link l).replying = some (.nak (Request.select x).typ .already)))
        ∧ (x = 8 → ∃ t, exec (.select l x) s = .next t ∧ turned t (.select l)
          ∧ (t.link l).replying = some (.ack (Request.select x).typ [])))
    ∧ (s.panel.menuHold.isSome = true → ∃ t, exec .menuHoldExpiry s = .next t ∧ turned t .menuSwitch)
    ∧ ∀ (w : Switch) (e : Edge), s.panel.settled = true → (w ∈ s.panel.pressed ↔ e = .release) → s.routing.pulses = [] →
        s.routing.quiet = none → ∃ t, exec (.switchEvent w e) s = .next t ∧ turned t (.loss c) ∧ t.gate = s.gate

/-- A crash of the current target in CLASS withdraws the cut request and returns the phase to POWER, or its report is left
for the next event; a settle timer that stops before the report is taken makes the cut to BLANK, and the report then acts:
of a crash the phase becomes POWER, of a failure the handover turns to MENU (R150, R152, R159, R167, log entry 39). -/
def Sys2Proof.Claims.TargetLossInClass : Prop :=
  (∀ (s : State) (h : HandoverRecord) (b : Bay), s.Settled → s.stage = .handover h → h.phase = .classChange →
    h.target = .bay b → h.origin ≠ .bay b → (s.bay b).state = .running → (s.checker b).state = .locked →
    (s.bay b).attempts ≠ 0 → (s.bay b).releasePending = false → s.Uninvolved b →
    ∃ t, exec (.fieldGapExpiry b) s = .next t
      ∧ t.BaysAre (fun d => if d = b then
          { (s.bay b).cooled with attempts := (s.bay b).attempts - 1, deferred := some .handover } else s.bay d)
      ∧ s.Tells t [.bay .crashed b .cooling ((s.bay b).attempts - 1) none]
      ∧ (t.stage = .handover { h with phase := .power } ∧ t.late = none ∧ t.monitor = { s.monitor with cut := none }
        ∨ t.stage = s.stage ∧ t.late = some (.cutToCooling b) ∧ t.monitor = s.monitor))
  ∧ ∀ (s : State) (h : HandoverRecord) (b : Bay), s.reports = [] → s.stage = .handover h → h.phase = .classChange →
    h.target = .bay b → (s.bay b).state ≠ .running → s.monitor.cut = some (.bay b) → s.monitor.settle.isSome = true →
    s.monitor.audio ≠ .falling →
    let blanked := { s.monitor with settle := none, cut := none, source := .blank, audio := .muted, gain := 0 }
    (s.late = some (.cutToCooling b) → exec .settleExpiry s = .next
      { s with late := none, stage := .handover { h with phase := .power }, monitor := blanked })
    ∧ ∀ why : FailReason, s.late = some (.failed b why) →
      s.monitor.lineClass ≠ s.tables.cabinet.system.menuClass → 0 < s.tables.cabinet.system.settle → h.origin ≠ .menu →
      ∃ t, exec .settleExpiry s = .next t ∧ t.late = none
        ∧ t.stage = .handover { h with target := .menu, cause := .failed, failedBay := some b, failReason := some why }
        ∧ t.monitor = { blanked with
            cut := some .menu, lineClass := s.tables.cabinet.system.menuClass
            settle := some { count := 0, limit := s.tables.cabinet.system.settle } }
        ∧ s.Tells t [.handoverFailed b why h.origin]
        ∧ t = { s with late := none, stage := t.stage, monitor := t.monitor, links := t.links }

/-- A lost active bay and a failed target, and an event that comes before their report is taken (R107, R152, R159, R167,
R168, R171). -/
def Obligations.LossesTurnToMenu : Prop :=
  Claims.LossOfActiveBayTurnsToMenu ∧ Claims.LeftLossTakenBehindNextEvent ∧ Claims.TargetTripTurnsToMenu
    ∧ Claims.TargetLossInClass

/-! ## The audit and its snapshot (10) -/

/-- LATCH copies the counters, the live count and the pool count into an EMPTY snapshot, keeps a FULL one of its own
link, and is refused where the other link owns it (R177). -/
def Sys2Proof.Claims.LatchCopiesOnce : Prop :=
  ∀ (s : State) (l : Link), s.Takes l .latch →
    (s.snapshot = none → exec (.latch l) s = .next
      ((s.setSnapshot (some { owner := l, counters := s.audit.counters, live := s.store.live
                              pool := s.store.poolCount })).setLink l
        ((s.link l).owes 0x06 (.ack 0x06 [0x00]) .nothing)))
    ∧ ∀ k : Snapshot, s.snapshot = some k →
      (k.owner = l → s.Reads (.latch l) l .latch [0x01])
      ∧ (k.owner ≠ l → s.Refuses (.latch l) l .latch .snapshotBusy)

/-- READ_COUNTERS returns a range of at most twelve counters, from the snapshot to its owner and live otherwise, and the
owner's read through index 49 empties the snapshot once its reply has been sent (R178). -/
def Sys2Proof.Claims.ReadCountersFromSnapshotOrLive : Prop :=
  ∀ (s : State) (l : Link) (x y : Byte), s.Takes l (.readCounters x y) →
    let i := Instr.readCounters l x y
    let r := Request.readCounters x y
    ((y.toNat < x.toNat ∨ 49 < y.toNat ∨ 11 < y.toNat - x.toNat) → s.Refuses i l r .range)
    ∧ (x.toNat ≤ y.toNat → y.toNat ≤ 49 → y.toNat - x.toNat ≤ 11 →
      (∀ k : Snapshot, s.snapshot = some k → k.owner = l →
        s.Reads i l r (0x00 :: byteOf k.live :: byteOf k.pool :: counterBytes k.counters x.toNat y.toNat)
        ∧ (s.afterReply l r = .freeSnapshot ↔ y.toNat = 49))
      ∧ ((∀ k : Snapshot, s.snapshot = some k → k.owner ≠ l) →
        s.Reads i l r (0x01 :: byteOf s.store.live :: byteOf s.store.poolCount
          :: counterBytes s.audit.counters x.toNat y.toNat)
        ∧ s.afterReply l r = .nothing))

/-- LATCH and READ_COUNTERS (R177, R178). -/
def Obligations.SnapshotLatchedAndRead : Prop :=
  Claims.LatchCopiesOnce ∧ Claims.ReadCountersFromSnapshotOrLive

/-- FREE_SNAPSHOT empties the snapshot of its own link and is refused STATE otherwise (R179). -/
def Obligations.FreeSnapshotByOwner : Prop :=
  ∀ (s : State) (l : Link), Request.freeSnapshot.operator = false ∧ (s.Takes l .freeSnapshot →
    (∀ k : Snapshot, s.snapshot = some k → k.owner = l → exec (.freeSnapshot l) s = .next
      ((s.setSnapshot none).setLink l ((s.link l).owes 0x08 (.ack 0x08 []) .nothing)))
    ∧ ((∀ k : Snapshot, s.snapshot = some k → k.owner ≠ l) → s.Refuses (.freeSnapshot l) l .freeSnapshot .state))

/-! ## The links (11) -/

/-- The example of R183: the check of a STATUS frame is 07h, and its whole frame D5h, 00h, 01h, 07h. -/
def Obligations.StatusFrameCheck : Prop :=
  frameCheck 0x00 0x01 [] = 0x07 ∧ Request.status.frame = [0xD5, 0x00, 0x01, 0x07]

/-- Every request that suits a frame is spelled by its type and payload, and read back from them whole (R184, R185). -/
def Sys2Proof.Claims.RequestsReadBack : Prop :=
  ∀ r : Request, r.wf = true → decodeRequest r.typ r.payload = .request r ∧ r.payload.length ≤ 60

/-- The bytes of a request's frame, received one after another from HUNT on a free link, come to the request itself
(R181, R182, R183, R185). -/
def Sys2Proof.Claims.FrameBytesCarryRequest : Prop :=
  ∀ (s : State) (l : Link) (r : Request), r.wf = true → (s.link l).rx = .hunt → (s.link l).busy = false →
    (r.frame.foldl (fun t x => State.receive t l x) s) = s.command l r

/-- A request in a frame, spelled and read back whole (R181 to R185). -/
def Obligations.RequestsTravelInFrames : Prop :=
  Claims.RequestsReadBack ∧ Claims.FrameBytesCarryRequest

/-- A frame whose check byte is wrong is refused CHECK, one whose length byte exceeds 60 is refused FORMAT at that byte,
and a busy link discards either (R182, R185, R186). -/
def Sys2Proof.Claims.FrameErrorsRefused : Prop :=
  ∀ (s : State) (l : Link) (x : Byte),
    (∀ (n typ : Byte) (got : List Byte) (g : Nat), (s.link l).rx = .check n typ got g → x ≠ frameCheck n typ got →
      let u := s.setRx l .hunt
      ((s.link l).busy = false → exec (.frameEnd l x) s = .next
        (u.setLink l ((u.link l).owes typ (.nak typ .check) .nothing)))
      ∧ ((s.link l).busy = true → exec (.frameEnd l x) s = .next
        (u.setLink l { u.link l with mark := some (((s.link l).mark).getD typ) })))
    ∧ ∀ g : Nat, (s.link l).rx = .length g → 60 < x.toNat →
      let u := s.setRx l .hunt
      ((s.link l).busy = false → exec (.frameEnd l x) s = .next
        (u.setLink l ((u.link l).owes 0 (.nak 0 .format) .nothing)))
      ∧ ((s.link l).busy = true → exec (.frameEnd l x) s = .next
        (u.setLink l { u.link l with mark := some (((s.link l).mark).getD 0) }))

/-- The check byte that ends a request's frame on a free link comes to the request itself, and a type that is no
request's is refused UNKNOWN (R182, R185). -/
def Sys2Proof.Claims.FrameEndTakesRequest : Prop :=
  ∀ (s : State) (l : Link) (n : Byte) (g : Nat), (s.link l).busy = false →
    let u := s.setRx l .hunt
    (∀ (i : Instr) (r : Request), i.request? = some (l, r) → r.wf = true →
      (s.link l).rx = .check n r.typ r.payload g →
      exec (.frameEnd l (frameCheck n r.typ r.payload)) s = exec i u)
    ∧ ∀ (typ : Byte) (got : List Byte), (s.link l).rx = .check n typ got g → decodeRequest typ got = .unknown →
      exec (.frameEnd l (frameCheck n typ got)) s = .next
        (u.setLink l ((u.link l).owes typ (.nak typ .unknown) .nothing))

/-- A complete frame of a request type with a right check whose payload no request of that type can have is refused FORMAT
on a free link (R185 test 4; for a payload too short to hold the argument that gives its length this is log entry 26). -/
def Sys2Proof.Claims.FrameLengthRefused : Prop :=
  ∀ (s : State) (l : Link) (n typ : Byte) (got : List Byte) (g : Nat), (s.link l).busy = false →
    (s.link l).rx = .check n typ got g → got.length ≤ 60 →
    let u := s.setRx l .hunt
    let k := typ.toNat
    let isRequest := (1 ≤ k ∧ k ≤ 8) ∨ (16 ≤ k ∧ k ≤ 22) ∨ (32 ≤ k ∧ k ≤ 41) ∨ k = 47
    (isRequest → (∀ r : Request, r.typ = typ → r.payload = got → r.wf = false) →
      exec (.frameEnd l (frameCheck n typ got)) s = .next
        (u.setLink l ((u.link l).owes typ (.nak typ .format) .nothing)))
    ∧ (¬isRequest → exec (.frameEnd l (frameCheck n typ got)) s = .next
        (u.setLink l ((u.link l).owes typ (.nak typ .unknown) .nothing)))

/-- The receiver's states: HUNT waits for D5h, a length of 0 to 60 leads to TYPE, a type to PAYLOAD or CHECK, and the
payload's last byte to CHECK; a gap or a missing stop bit drops the partial frame alone (R182). -/
def Sys2Proof.Claims.ReceiverFollowsFrame : Prop :=
  ∀ (s : State) (l : Link) (x : Byte),
    let becomes := fun r : Receiver => exec (.byteReceived l x) s = .next (s.setLink l { s.link l with rx := r })
    ((s.link l).rx = .hunt → becomes (if x = 0xD5 then .length 0 else .hunt))
    ∧ (∀ g, (s.link l).rx = .length g → x.toNat ≤ 60 → becomes (.typ x 0))
    ∧ (∀ n g, (s.link l).rx = .typ n g → becomes (if n = 0 then .check n x [] 0 else .payload n x [] 0))
    ∧ (∀ n typ got g, (s.link l).rx = .payload n typ got g →
        becomes (if got.length + 1 < n.toNat then .payload n typ (got ++ [x]) 0 else .check n typ (got ++ [x]) 0))
    ∧ exec (.frameGapTimeout l) s = .next (s.setLink l { s.link l with rx := .hunt })
    ∧ exec (.stopBitError l) s = .next (s.setLink l { s.link l with rx := .hunt })

/-- The receiver's states and the frames it refuses (R182, R185, R186). -/
def Obligations.ReceiverDropsBadFrames : Prop :=
  Claims.ReceiverFollowsFrame ∧ Claims.FrameEndTakesRequest ∧ Claims.FrameLengthRefused ∧ Claims.FrameErrorsRefused

/-- The end of a reply ends its request, and a BUSY_LINK refusal or the oldest notice follows; the end of the refusal
clears the mark; and the end of a notice lets a waiting reply go first, then a BUSY_LINK refusal, then the oldest notice
(R186, R188, R190). -/
def Sys2Proof.Claims.SendingEndsInOrder : Prop :=
  ∀ (s : State) (l : Link) (intact : Bool),
    let k := s.link l
    (∀ (p : PendingRequest) (y : Reply), k.tx = some (.reply y) → k.pending = some p → p.after = .nothing →
      exec (.replySent l intact) s = .next (s.setLink l
        (match k.mark with
          | some typ => { k with pending := none, tx := some (.busyLink typ) }
          | none => match k.queue with
            | [] => { k with pending := none, tx := none }
            | n :: rest => { k with pending := none, tx := some (.notice n), queue := rest })))
    ∧ (∀ (p : PendingRequest) (y : Reply) (v : Snapshot), k.tx = some (.reply y) → k.pending = some p →
        p.after = .freeSnapshot → s.snapshot = some v → v.owner = l →
        ∃ t, exec (.replySent l intact) s = .next t ∧ t.snapshot = none ∧ (t.link l).pending = none
          ∧ t = { s with snapshot := none, links := t.links })
    ∧ (∀ (p : PendingRequest) (y : Reply), k.tx = some (.reply y) → k.pending = some p → p.after = .restart →
        exec (.replySent l intact) s = exec (.partReset (if intact then .whole else .corrupt)) s)
    ∧ (∀ typ : Byte, k.tx = some (.busyLink typ) → k.pending = none → exec (.replySent l intact) s = .next (s.setLink l
        (match k.queue with
          | [] => { k with mark := none, tx := none }
          | n :: rest => { k with mark := none, tx := some (.notice n), queue := rest })))
    ∧ ∀ n : Notice, k.tx = some (.notice n) →
        let becomes := fun k' : LinkState => exec (.noticeSent l) s = .next (s.setLink l k')
        (∀ (p : PendingRequest) (y : Reply), k.pending = some p → p.waiting = some y →
          becomes { k with tx := some (.reply y), pending := some { p with waiting := none } })
        ∧ (k.pending = none → ∀ typ : Byte, k.mark = some typ → becomes { k with tx := some (.busyLink typ) })
        ∧ (k.pending = none → k.mark = none → ∀ (o : Notice) (rest : List Notice), k.queue = o :: rest →
            becomes { k with tx := some (.notice o), queue := rest })
        ∧ (k.pending = none → k.mark = none → k.queue = [] → becomes { k with tx := none })

/-- A notice is placed at the tail of a link's queue of at most 16; one more is dropped on that link alone, with its
overrun flag set (R190). -/
def Sys2Proof.Claims.NoticeQueueOverruns : Prop :=
  ∀ (k : LinkState) (n : Notice),
    (k.queue.length < 16 → k.place n = { k with queue := k.queue ++ [n] })
    ∧ (16 ≤ k.queue.length → k.place n = { k with overrun := true })

/-- STATUS is answered with the status record, and clears the requesting link's overrun flag alone (R190, R191). -/
def Sys2Proof.Claims.StatusReportsAndClearsOverrun : Prop :=
  ∀ (s : State) (l : Link), s.Takes l .status →
    exec (.status l) s = .next (s.setLink l
      ({ s.link l with overrun := false }.owes 0x01 (.ack 0x01
        (s.stage.bytes ++ [byteOf s.store.live, byteOf s.store.poolCount, byteOf s.store.free] ++ s.intakeView.bytes
          ++ [s.monitor.source.code, s.monitor.lineClass.code, boolByte s.monitor.settle.isSome]
          ++ snapshotBytes s.snapshot
          ++ [boolByte s.audit.full, boolByte (s.link l).overrun, s.tables.lock.code, boolByte (!s.key.closed)]))
        .nothing))

/-- QUERY_BAY is answered with the bay record and changes no state; a byte that names no bay is refused RANGE (R192). -/
def Sys2Proof.Claims.QueryBayReports : Prop :=
  ∀ (s : State) (l : Link) (bay : Byte), s.Takes l (.queryBay bay) →
    (7 < bay.toNat → s.Refuses (.queryBay l bay) l (.queryBay bay) .range)
    ∧ ∀ b : Bay, bay.toNat = b.val → s.Reads (.queryBay l bay) l (.queryBay bay)
        ([boolByte s.flags.enabled[b], (s.bay b).state.code, byteOf (s.bay b).attempts,
            optByte byteOf (s.warmPosition b), (s.checker b).state.code,
            optByte MeasuredClass.code (s.checker b).measured]
          ++ twoBytes (rateTenths (s.checker b).rate)
          ++ [(s.feeder b).state.code, byteOf (s.feeder b).queue.length, boolByte (s.feeder b).hasDoubt,
              byteOf (if s.gate.bay = some b then s.gate.carry else 0)])

/-- STATUS and QUERY_BAY (R191, R192). -/
def Obligations.StatusAndBayReported : Prop :=
  Claims.StatusReportsAndClearsOverrun ∧ Claims.QueryBayReports

/-- RESTART is acknowledged first, and the part reset follows the end of its ACK (R193). -/
def Sys2Proof.Claims.RestartAcknowledgedFirst : Prop :=
  ∀ (s : State) (l : Link), s.Takes l .restart →
    s.Reads (.restart l) l .restart [] ∧ s.afterReply l .restart = .restart ∧ l = .service

/-- The service key's debounced level changes to its input's level, and ends nothing under way (R187). -/
def Sys2Proof.Claims.KeyChangeSetsLevel : Prop :=
  ∀ (s : State) (closed : Bool), exec (.serviceKeyChange closed) s = .next
    { s with pins := { s.pins with key := closed }, key := { closed := closed, count := 0 } }

/-- What a link sends and when, RESTART and the service key among it (R186 to R190, R193). -/
def Obligations.TransmitterSendsInOrder : Prop :=
  Claims.SendingEndsInOrder ∧ Claims.NoticeQueueOverruns ∧ Claims.RestartAcknowledgedFirst ∧ Claims.KeyChangeSetsLevel

end
end

