-- ==== Sys2Proof/Laws/State.lean ====
section
/-! SUPPORT. One lemma per field per update of State: what each setter leaves, and the one thing it sets. -/

namespace Sys2Proof.Machine

section
variable (s : State)

/-! ### `setPins` -/

@[simp] theorem State.setPins_pins (x : Pins) : (s.setPins x).pins = x := rfl
@[simp] theorem State.setPins_intake (x : Pins) : (s.setPins x).intake = s.intake := rfl
@[simp] theorem State.setPins_store (x : Pins) : (s.setPins x).store = s.store := rfl
@[simp] theorem State.setPins_feeders (x : Pins) : (s.setPins x).feeders = s.feeders := rfl
@[simp] theorem State.setPins_pulses (x : Pins) : (s.setPins x).pulses = s.pulses := rfl
@[simp] theorem State.setPins_filters (x : Pins) : (s.setPins x).filters = s.filters := rfl
@[simp] theorem State.setPins_gate (x : Pins) : (s.setPins x).gate = s.gate := rfl
@[simp] theorem State.setPins_tables (x : Pins) : (s.setPins x).tables = s.tables := rfl
@[simp] theorem State.setPins_flags (x : Pins) : (s.setPins x).flags = s.flags := rfl
@[simp] theorem State.setPins_panel (x : Pins) : (s.setPins x).panel = s.panel := rfl
@[simp] theorem State.setPins_routing (x : Pins) : (s.setPins x).routing = s.routing := rfl
@[simp] theorem State.setPins_power (x : Pins) : (s.setPins x).power = s.power := rfl
@[simp] theorem State.setPins_checkers (x : Pins) : (s.setPins x).checkers = s.checkers := rfl
@[simp] theorem State.setPins_monitor (x : Pins) : (s.setPins x).monitor = s.monitor := rfl
@[simp] theorem State.setPins_stage (x : Pins) : (s.setPins x).stage = s.stage := rfl
@[simp] theorem State.setPins_audit (x : Pins) : (s.setPins x).audit = s.audit := rfl
@[simp] theorem State.setPins_snapshot (x : Pins) : (s.setPins x).snapshot = s.snapshot := rfl
@[simp] theorem State.setPins_links (x : Pins) : (s.setPins x).links = s.links := rfl
@[simp] theorem State.setPins_key (x : Pins) : (s.setPins x).key = s.key := rfl
@[simp] theorem State.setPins_reports (x : Pins) : (s.setPins x).reports = s.reports := rfl
@[simp] theorem State.setPins_late (x : Pins) : (s.setPins x).late = s.late := rfl
@[simp] theorem State.setPins_choices (x : Pins) : (s.setPins x).choices = s.choices := rfl
@[simp] theorem State.setPins_pending (x : Pins) : (s.setPins x).pending = s.pending := rfl

/-! ### `setIntake` -/

@[simp] theorem State.setIntake_pins (x : Intake) : (s.setIntake x).pins = s.pins := rfl
@[simp] theorem State.setIntake_intake (x : Intake) : (s.setIntake x).intake = x := rfl
@[simp] theorem State.setIntake_store (x : Intake) : (s.setIntake x).store = s.store := rfl
@[simp] theorem State.setIntake_feeders (x : Intake) : (s.setIntake x).feeders = s.feeders := rfl
@[simp] theorem State.setIntake_pulses (x : Intake) : (s.setIntake x).pulses = s.pulses := rfl
@[simp] theorem State.setIntake_filters (x : Intake) : (s.setIntake x).filters = s.filters := rfl
@[simp] theorem State.setIntake_gate (x : Intake) : (s.setIntake x).gate = s.gate := rfl
@[simp] theorem State.setIntake_tables (x : Intake) : (s.setIntake x).tables = s.tables := rfl
@[simp] theorem State.setIntake_flags (x : Intake) : (s.setIntake x).flags = s.flags := rfl
@[simp] theorem State.setIntake_panel (x : Intake) : (s.setIntake x).panel = s.panel := rfl
@[simp] theorem State.setIntake_routing (x : Intake) : (s.setIntake x).routing = s.routing := rfl
@[simp] theorem State.setIntake_power (x : Intake) : (s.setIntake x).power = s.power := rfl
@[simp] theorem State.setIntake_checkers (x : Intake) : (s.setIntake x).checkers = s.checkers := rfl
@[simp] theorem State.setIntake_monitor (x : Intake) : (s.setIntake x).monitor = s.monitor := rfl
@[simp] theorem State.setIntake_stage (x : Intake) : (s.setIntake x).stage = s.stage := rfl
@[simp] theorem State.setIntake_audit (x : Intake) : (s.setIntake x).audit = s.audit := rfl
@[simp] theorem State.setIntake_snapshot (x : Intake) : (s.setIntake x).snapshot = s.snapshot := rfl
@[simp] theorem State.setIntake_links (x : Intake) : (s.setIntake x).links = s.links := rfl
@[simp] theorem State.setIntake_key (x : Intake) : (s.setIntake x).key = s.key := rfl
@[simp] theorem State.setIntake_reports (x : Intake) : (s.setIntake x).reports = s.reports := rfl
@[simp] theorem State.setIntake_late (x : Intake) : (s.setIntake x).late = s.late := rfl
@[simp] theorem State.setIntake_choices (x : Intake) : (s.setIntake x).choices = s.choices := rfl
@[simp] theorem State.setIntake_pending (x : Intake) : (s.setIntake x).pending = s.pending := rfl

/-! ### `setStore` -/

@[simp] theorem State.setStore_pins (x : TokenStore) : (s.setStore x).pins = s.pins := rfl
@[simp] theorem State.setStore_intake (x : TokenStore) : (s.setStore x).intake = s.intake := rfl
@[simp] theorem State.setStore_store (x : TokenStore) : (s.setStore x).store = x := rfl
@[simp] theorem State.setStore_feeders (x : TokenStore) : (s.setStore x).feeders = s.feeders := rfl
@[simp] theorem State.setStore_pulses (x : TokenStore) : (s.setStore x).pulses = s.pulses := rfl
@[simp] theorem State.setStore_filters (x : TokenStore) : (s.setStore x).filters = s.filters := rfl
@[simp] theorem State.setStore_gate (x : TokenStore) : (s.setStore x).gate = s.gate := rfl
@[simp] theorem State.setStore_tables (x : TokenStore) : (s.setStore x).tables = s.tables := rfl
@[simp] theorem State.setStore_flags (x : TokenStore) : (s.setStore x).flags = s.flags := rfl
@[simp] theorem State.setStore_panel (x : TokenStore) : (s.setStore x).panel = s.panel := rfl
@[simp] theorem State.setStore_routing (x : TokenStore) : (s.setStore x).routing = s.routing := rfl
@[simp] theorem State.setStore_power (x : TokenStore) : (s.setStore x).power = s.power := rfl
@[simp] theorem State.setStore_checkers (x : TokenStore) : (s.setStore x).checkers = s.checkers := rfl
@[simp] theorem State.setStore_monitor (x : TokenStore) : (s.setStore x).monitor = s.monitor := rfl
@[simp] theorem State.setStore_stage (x : TokenStore) : (s.setStore x).stage = s.stage := rfl
@[simp] theorem State.setStore_audit (x : TokenStore) : (s.setStore x).audit = s.audit := rfl
@[simp] theorem State.setStore_snapshot (x : TokenStore) : (s.setStore x).snapshot = s.snapshot := rfl
@[simp] theorem State.setStore_links (x : TokenStore) : (s.setStore x).links = s.links := rfl
@[simp] theorem State.setStore_key (x : TokenStore) : (s.setStore x).key = s.key := rfl
@[simp] theorem State.setStore_reports (x : TokenStore) : (s.setStore x).reports = s.reports := rfl
@[simp] theorem State.setStore_late (x : TokenStore) : (s.setStore x).late = s.late := rfl
@[simp] theorem State.setStore_choices (x : TokenStore) : (s.setStore x).choices = s.choices := rfl
@[simp] theorem State.setStore_pending (x : TokenStore) : (s.setStore x).pending = s.pending := rfl

/-! ### `setFeeders` -/

@[simp] theorem State.setFeeders_pins (x : Vector Feeder 8) : (s.setFeeders x).pins = s.pins := rfl
@[simp] theorem State.setFeeders_intake (x : Vector Feeder 8) : (s.setFeeders x).intake = s.intake := rfl
@[simp] theorem State.setFeeders_store (x : Vector Feeder 8) : (s.setFeeders x).store = s.store := rfl
@[simp] theorem State.setFeeders_feeders (x : Vector Feeder 8) : (s.setFeeders x).feeders = x := rfl
@[simp] theorem State.setFeeders_pulses (x : Vector Feeder 8) : (s.setFeeders x).pulses = s.pulses := rfl
@[simp] theorem State.setFeeders_filters (x : Vector Feeder 8) : (s.setFeeders x).filters = s.filters := rfl
@[simp] theorem State.setFeeders_gate (x : Vector Feeder 8) : (s.setFeeders x).gate = s.gate := rfl
@[simp] theorem State.setFeeders_tables (x : Vector Feeder 8) : (s.setFeeders x).tables = s.tables := rfl
@[simp] theorem State.setFeeders_flags (x : Vector Feeder 8) : (s.setFeeders x).flags = s.flags := rfl
@[simp] theorem State.setFeeders_panel (x : Vector Feeder 8) : (s.setFeeders x).panel = s.panel := rfl
@[simp] theorem State.setFeeders_routing (x : Vector Feeder 8) : (s.setFeeders x).routing = s.routing := rfl
@[simp] theorem State.setFeeders_power (x : Vector Feeder 8) : (s.setFeeders x).power = s.power := rfl
@[simp] theorem State.setFeeders_checkers (x : Vector Feeder 8) : (s.setFeeders x).checkers = s.checkers := rfl
@[simp] theorem State.setFeeders_monitor (x : Vector Feeder 8) : (s.setFeeders x).monitor = s.monitor := rfl
@[simp] theorem State.setFeeders_stage (x : Vector Feeder 8) : (s.setFeeders x).stage = s.stage := rfl
@[simp] theorem State.setFeeders_audit (x : Vector Feeder 8) : (s.setFeeders x).audit = s.audit := rfl
@[simp] theorem State.setFeeders_snapshot (x : Vector Feeder 8) : (s.setFeeders x).snapshot = s.snapshot := rfl
@[simp] theorem State.setFeeders_links (x : Vector Feeder 8) : (s.setFeeders x).links = s.links := rfl
@[simp] theorem State.setFeeders_key (x : Vector Feeder 8) : (s.setFeeders x).key = s.key := rfl
@[simp] theorem State.setFeeders_reports (x : Vector Feeder 8) : (s.setFeeders x).reports = s.reports := rfl
@[simp] theorem State.setFeeders_late (x : Vector Feeder 8) : (s.setFeeders x).late = s.late := rfl
@[simp] theorem State.setFeeders_choices (x : Vector Feeder 8) : (s.setFeeders x).choices = s.choices := rfl
@[simp] theorem State.setFeeders_pending (x : Vector Feeder 8) : (s.setFeeders x).pending = s.pending := rfl

/-! ### `setPulses` -/

@[simp] theorem State.setPulses_pins (x : PulseBank) : (s.setPulses x).pins = s.pins := rfl
@[simp] theorem State.setPulses_intake (x : PulseBank) : (s.setPulses x).intake = s.intake := rfl
@[simp] theorem State.setPulses_store (x : PulseBank) : (s.setPulses x).store = s.store := rfl
@[simp] theorem State.setPulses_feeders (x : PulseBank) : (s.setPulses x).feeders = s.feeders := rfl
@[simp] theorem State.setPulses_pulses (x : PulseBank) : (s.setPulses x).pulses = x := rfl
@[simp] theorem State.setPulses_filters (x : PulseBank) : (s.setPulses x).filters = s.filters := rfl
@[simp] theorem State.setPulses_gate (x : PulseBank) : (s.setPulses x).gate = s.gate := rfl
@[simp] theorem State.setPulses_tables (x : PulseBank) : (s.setPulses x).tables = s.tables := rfl
@[simp] theorem State.setPulses_flags (x : PulseBank) : (s.setPulses x).flags = s.flags := rfl
@[simp] theorem State.setPulses_panel (x : PulseBank) : (s.setPulses x).panel = s.panel := rfl
@[simp] theorem State.setPulses_routing (x : PulseBank) : (s.setPulses x).routing = s.routing := rfl
@[simp] theorem State.setPulses_power (x : PulseBank) : (s.setPulses x).power = s.power := rfl
@[simp] theorem State.setPulses_checkers (x : PulseBank) : (s.setPulses x).checkers = s.checkers := rfl
@[simp] theorem State.setPulses_monitor (x : PulseBank) : (s.setPulses x).monitor = s.monitor := rfl
@[simp] theorem State.setPulses_stage (x : PulseBank) : (s.setPulses x).stage = s.stage := rfl
@[simp] theorem State.setPulses_audit (x : PulseBank) : (s.setPulses x).audit = s.audit := rfl
@[simp] theorem State.setPulses_snapshot (x : PulseBank) : (s.setPulses x).snapshot = s.snapshot := rfl
@[simp] theorem State.setPulses_links (x : PulseBank) : (s.setPulses x).links = s.links := rfl
@[simp] theorem State.setPulses_key (x : PulseBank) : (s.setPulses x).key = s.key := rfl
@[simp] theorem State.setPulses_reports (x : PulseBank) : (s.setPulses x).reports = s.reports := rfl
@[simp] theorem State.setPulses_late (x : PulseBank) : (s.setPulses x).late = s.late := rfl
@[simp] theorem State.setPulses_choices (x : PulseBank) : (s.setPulses x).choices = s.choices := rfl
@[simp] theorem State.setPulses_pending (x : PulseBank) : (s.setPulses x).pending = s.pending := rfl

/-! ### `setFilters` -/

@[simp] theorem State.setFilters_pins (x : Vector BayFilters 8) : (s.setFilters x).pins = s.pins := rfl
@[simp] theorem State.setFilters_intake (x : Vector BayFilters 8) : (s.setFilters x).intake = s.intake := rfl
@[simp] theorem State.setFilters_store (x : Vector BayFilters 8) : (s.setFilters x).store = s.store := rfl
@[simp] theorem State.setFilters_feeders (x : Vector BayFilters 8) : (s.setFilters x).feeders = s.feeders := rfl
@[simp] theorem State.setFilters_pulses (x : Vector BayFilters 8) : (s.setFilters x).pulses = s.pulses := rfl
@[simp] theorem State.setFilters_filters (x : Vector BayFilters 8) : (s.setFilters x).filters = x := rfl
@[simp] theorem State.setFilters_gate (x : Vector BayFilters 8) : (s.setFilters x).gate = s.gate := rfl
@[simp] theorem State.setFilters_tables (x : Vector BayFilters 8) : (s.setFilters x).tables = s.tables := rfl
@[simp] theorem State.setFilters_flags (x : Vector BayFilters 8) : (s.setFilters x).flags = s.flags := rfl
@[simp] theorem State.setFilters_panel (x : Vector BayFilters 8) : (s.setFilters x).panel = s.panel := rfl
@[simp] theorem State.setFilters_routing (x : Vector BayFilters 8) : (s.setFilters x).routing = s.routing := rfl
@[simp] theorem State.setFilters_power (x : Vector BayFilters 8) : (s.setFilters x).power = s.power := rfl
@[simp] theorem State.setFilters_checkers (x : Vector BayFilters 8) : (s.setFilters x).checkers = s.checkers := rfl
@[simp] theorem State.setFilters_monitor (x : Vector BayFilters 8) : (s.setFilters x).monitor = s.monitor := rfl
@[simp] theorem State.setFilters_stage (x : Vector BayFilters 8) : (s.setFilters x).stage = s.stage := rfl
@[simp] theorem State.setFilters_audit (x : Vector BayFilters 8) : (s.setFilters x).audit = s.audit := rfl
@[simp] theorem State.setFilters_snapshot (x : Vector BayFilters 8) : (s.setFilters x).snapshot = s.snapshot := rfl
@[simp] theorem State.setFilters_links (x : Vector BayFilters 8) : (s.setFilters x).links = s.links := rfl
@[simp] theorem State.setFilters_key (x : Vector BayFilters 8) : (s.setFilters x).key = s.key := rfl
@[simp] theorem State.setFilters_reports (x : Vector BayFilters 8) : (s.setFilters x).reports = s.reports := rfl
@[simp] theorem State.setFilters_late (x : Vector BayFilters 8) : (s.setFilters x).late = s.late := rfl
@[simp] theorem State.setFilters_choices (x : Vector BayFilters 8) : (s.setFilters x).choices = s.choices := rfl
@[simp] theorem State.setFilters_pending (x : Vector BayFilters 8) : (s.setFilters x).pending = s.pending := rfl

/-! ### `setGate` -/

@[simp] theorem State.setGate_pins (x : Gate) : (s.setGate x).pins = s.pins := rfl
@[simp] theorem State.setGate_intake (x : Gate) : (s.setGate x).intake = s.intake := rfl
@[simp] theorem State.setGate_store (x : Gate) : (s.setGate x).store = s.store := rfl
@[simp] theorem State.setGate_feeders (x : Gate) : (s.setGate x).feeders = s.feeders := rfl
@[simp] theorem State.setGate_pulses (x : Gate) : (s.setGate x).pulses = s.pulses := rfl
@[simp] theorem State.setGate_filters (x : Gate) : (s.setGate x).filters = s.filters := rfl
@[simp] theorem State.setGate_gate (x : Gate) : (s.setGate x).gate = x := rfl
@[simp] theorem State.setGate_tables (x : Gate) : (s.setGate x).tables = s.tables := rfl
@[simp] theorem State.setGate_flags (x : Gate) : (s.setGate x).flags = s.flags := rfl
@[simp] theorem State.setGate_panel (x : Gate) : (s.setGate x).panel = s.panel := rfl
@[simp] theorem State.setGate_routing (x : Gate) : (s.setGate x).routing = s.routing := rfl
@[simp] theorem State.setGate_power (x : Gate) : (s.setGate x).power = s.power := rfl
@[simp] theorem State.setGate_checkers (x : Gate) : (s.setGate x).checkers = s.checkers := rfl
@[simp] theorem State.setGate_monitor (x : Gate) : (s.setGate x).monitor = s.monitor := rfl
@[simp] theorem State.setGate_stage (x : Gate) : (s.setGate x).stage = s.stage := rfl
@[simp] theorem State.setGate_audit (x : Gate) : (s.setGate x).audit = s.audit := rfl
@[simp] theorem State.setGate_snapshot (x : Gate) : (s.setGate x).snapshot = s.snapshot := rfl
@[simp] theorem State.setGate_links (x : Gate) : (s.setGate x).links = s.links := rfl
@[simp] theorem State.setGate_key (x : Gate) : (s.setGate x).key = s.key := rfl
@[simp] theorem State.setGate_reports (x : Gate) : (s.setGate x).reports = s.reports := rfl
@[simp] theorem State.setGate_late (x : Gate) : (s.setGate x).late = s.late := rfl
@[simp] theorem State.setGate_choices (x : Gate) : (s.setGate x).choices = s.choices := rfl
@[simp] theorem State.setGate_pending (x : Gate) : (s.setGate x).pending = s.pending := rfl

/-! ### `setTables` -/

@[simp] theorem State.setTables_pins (x : Tables) : (s.setTables x).pins = s.pins := rfl
@[simp] theorem State.setTables_intake (x : Tables) : (s.setTables x).intake = s.intake := rfl
@[simp] theorem State.setTables_store (x : Tables) : (s.setTables x).store = s.store := rfl
@[simp] theorem State.setTables_feeders (x : Tables) : (s.setTables x).feeders = s.feeders := rfl
@[simp] theorem State.setTables_pulses (x : Tables) : (s.setTables x).pulses = s.pulses := rfl
@[simp] theorem State.setTables_filters (x : Tables) : (s.setTables x).filters = s.filters := rfl
@[simp] theorem State.setTables_gate (x : Tables) : (s.setTables x).gate = s.gate := rfl
@[simp] theorem State.setTables_tables (x : Tables) : (s.setTables x).tables = x := rfl
@[simp] theorem State.setTables_flags (x : Tables) : (s.setTables x).flags = s.flags := rfl
@[simp] theorem State.setTables_panel (x : Tables) : (s.setTables x).panel = s.panel := rfl
@[simp] theorem State.setTables_routing (x : Tables) : (s.setTables x).routing = s.routing := rfl
@[simp] theorem State.setTables_power (x : Tables) : (s.setTables x).power = s.power := rfl
@[simp] theorem State.setTables_checkers (x : Tables) : (s.setTables x).checkers = s.checkers := rfl
@[simp] theorem State.setTables_monitor (x : Tables) : (s.setTables x).monitor = s.monitor := rfl
@[simp] theorem State.setTables_stage (x : Tables) : (s.setTables x).stage = s.stage := rfl
@[simp] theorem State.setTables_audit (x : Tables) : (s.setTables x).audit = s.audit := rfl
@[simp] theorem State.setTables_snapshot (x : Tables) : (s.setTables x).snapshot = s.snapshot := rfl
@[simp] theorem State.setTables_links (x : Tables) : (s.setTables x).links = s.links := rfl
@[simp] theorem State.setTables_key (x : Tables) : (s.setTables x).key = s.key := rfl
@[simp] theorem State.setTables_reports (x : Tables) : (s.setTables x).reports = s.reports := rfl
@[simp] theorem State.setTables_late (x : Tables) : (s.setTables x).late = s.late := rfl
@[simp] theorem State.setTables_choices (x : Tables) : (s.setTables x).choices = s.choices := rfl
@[simp] theorem State.setTables_pending (x : Tables) : (s.setTables x).pending = s.pending := rfl

/-! ### `setFlags` -/

@[simp] theorem State.setFlags_pins (x : RetainedFlags) : (s.setFlags x).pins = s.pins := rfl
@[simp] theorem State.setFlags_intake (x : RetainedFlags) : (s.setFlags x).intake = s.intake := rfl
@[simp] theorem State.setFlags_store (x : RetainedFlags) : (s.setFlags x).store = s.store := rfl
@[simp] theorem State.setFlags_feeders (x : RetainedFlags) : (s.setFlags x).feeders = s.feeders := rfl
@[simp] theorem State.setFlags_pulses (x : RetainedFlags) : (s.setFlags x).pulses = s.pulses := rfl
@[simp] theorem State.setFlags_filters (x : RetainedFlags) : (s.setFlags x).filters = s.filters := rfl
@[simp] theorem State.setFlags_gate (x : RetainedFlags) : (s.setFlags x).gate = s.gate := rfl
@[simp] theorem State.setFlags_tables (x : RetainedFlags) : (s.setFlags x).tables = s.tables := rfl
@[simp] theorem State.setFlags_flags (x : RetainedFlags) : (s.setFlags x).flags = x := rfl
@[simp] theorem State.setFlags_panel (x : RetainedFlags) : (s.setFlags x).panel = s.panel := rfl
@[simp] theorem State.setFlags_routing (x : RetainedFlags) : (s.setFlags x).routing = s.routing := rfl
@[simp] theorem State.setFlags_power (x : RetainedFlags) : (s.setFlags x).power = s.power := rfl
@[simp] theorem State.setFlags_checkers (x : RetainedFlags) : (s.setFlags x).checkers = s.checkers := rfl
@[simp] theorem State.setFlags_monitor (x : RetainedFlags) : (s.setFlags x).monitor = s.monitor := rfl
@[simp] theorem State.setFlags_stage (x : RetainedFlags) : (s.setFlags x).stage = s.stage := rfl
@[simp] theorem State.setFlags_audit (x : RetainedFlags) : (s.setFlags x).audit = s.audit := rfl
@[simp] theorem State.setFlags_snapshot (x : RetainedFlags) : (s.setFlags x).snapshot = s.snapshot := rfl
@[simp] theorem State.setFlags_links (x : RetainedFlags) : (s.setFlags x).links = s.links := rfl
@[simp] theorem State.setFlags_key (x : RetainedFlags) : (s.setFlags x).key = s.key := rfl
@[simp] theorem State.setFlags_reports (x : RetainedFlags) : (s.setFlags x).reports = s.reports := rfl
@[simp] theorem State.setFlags_late (x : RetainedFlags) : (s.setFlags x).late = s.late := rfl
@[simp] theorem State.setFlags_choices (x : RetainedFlags) : (s.setFlags x).choices = s.choices := rfl
@[simp] theorem State.setFlags_pending (x : RetainedFlags) : (s.setFlags x).pending = s.pending := rfl

/-! ### `setPanel` -/

@[simp] theorem State.setPanel_pins (x : Panel) : (s.setPanel x).pins = s.pins := rfl
@[simp] theorem State.setPanel_intake (x : Panel) : (s.setPanel x).intake = s.intake := rfl
@[simp] theorem State.setPanel_store (x : Panel) : (s.setPanel x).store = s.store := rfl
@[simp] theorem State.setPanel_feeders (x : Panel) : (s.setPanel x).feeders = s.feeders := rfl
@[simp] theorem State.setPanel_pulses (x : Panel) : (s.setPanel x).pulses = s.pulses := rfl
@[simp] theorem State.setPanel_filters (x : Panel) : (s.setPanel x).filters = s.filters := rfl
@[simp] theorem State.setPanel_gate (x : Panel) : (s.setPanel x).gate = s.gate := rfl
@[simp] theorem State.setPanel_tables (x : Panel) : (s.setPanel x).tables = s.tables := rfl
@[simp] theorem State.setPanel_flags (x : Panel) : (s.setPanel x).flags = s.flags := rfl
@[simp] theorem State.setPanel_panel (x : Panel) : (s.setPanel x).panel = x := rfl
@[simp] theorem State.setPanel_routing (x : Panel) : (s.setPanel x).routing = s.routing := rfl
@[simp] theorem State.setPanel_power (x : Panel) : (s.setPanel x).power = s.power := rfl
@[simp] theorem State.setPanel_checkers (x : Panel) : (s.setPanel x).checkers = s.checkers := rfl
@[simp] theorem State.setPanel_monitor (x : Panel) : (s.setPanel x).monitor = s.monitor := rfl
@[simp] theorem State.setPanel_stage (x : Panel) : (s.setPanel x).stage = s.stage := rfl
@[simp] theorem State.setPanel_audit (x : Panel) : (s.setPanel x).audit = s.audit := rfl
@[simp] theorem State.setPanel_snapshot (x : Panel) : (s.setPanel x).snapshot = s.snapshot := rfl
@[simp] theorem State.setPanel_links (x : Panel) : (s.setPanel x).links = s.links := rfl
@[simp] theorem State.setPanel_key (x : Panel) : (s.setPanel x).key = s.key := rfl
@[simp] theorem State.setPanel_reports (x : Panel) : (s.setPanel x).reports = s.reports := rfl
@[simp] theorem State.setPanel_late (x : Panel) : (s.setPanel x).late = s.late := rfl
@[simp] theorem State.setPanel_choices (x : Panel) : (s.setPanel x).choices = s.choices := rfl
@[simp] theorem State.setPanel_pending (x : Panel) : (s.setPanel x).pending = s.pending := rfl

/-! ### `setRouting` -/

@[simp] theorem State.setRouting_pins (x : Routing) : (s.setRouting x).pins = s.pins := rfl
@[simp] theorem State.setRouting_intake (x : Routing) : (s.setRouting x).intake = s.intake := rfl
@[simp] theorem State.setRouting_store (x : Routing) : (s.setRouting x).store = s.store := rfl
@[simp] theorem State.setRouting_feeders (x : Routing) : (s.setRouting x).feeders = s.feeders := rfl
@[simp] theorem State.setRouting_pulses (x : Routing) : (s.setRouting x).pulses = s.pulses := rfl
@[simp] theorem State.setRouting_filters (x : Routing) : (s.setRouting x).filters = s.filters := rfl
@[simp] theorem State.setRouting_gate (x : Routing) : (s.setRouting x).gate = s.gate := rfl
@[simp] theorem State.setRouting_tables (x : Routing) : (s.setRouting x).tables = s.tables := rfl
@[simp] theorem State.setRouting_flags (x : Routing) : (s.setRouting x).flags = s.flags := rfl
@[simp] theorem State.setRouting_panel (x : Routing) : (s.setRouting x).panel = s.panel := rfl
@[simp] theorem State.setRouting_routing (x : Routing) : (s.setRouting x).routing = x := rfl
@[simp] theorem State.setRouting_power (x : Routing) : (s.setRouting x).power = s.power := rfl
@[simp] theorem State.setRouting_checkers (x : Routing) : (s.setRouting x).checkers = s.checkers := rfl
@[simp] theorem State.setRouting_monitor (x : Routing) : (s.setRouting x).monitor = s.monitor := rfl
@[simp] theorem State.setRouting_stage (x : Routing) : (s.setRouting x).stage = s.stage := rfl
@[simp] theorem State.setRouting_audit (x : Routing) : (s.setRouting x).audit = s.audit := rfl
@[simp] theorem State.setRouting_snapshot (x : Routing) : (s.setRouting x).snapshot = s.snapshot := rfl
@[simp] theorem State.setRouting_links (x : Routing) : (s.setRouting x).links = s.links := rfl
@[simp] theorem State.setRouting_key (x : Routing) : (s.setRouting x).key = s.key := rfl
@[simp] theorem State.setRouting_reports (x : Routing) : (s.setRouting x).reports = s.reports := rfl
@[simp] theorem State.setRouting_late (x : Routing) : (s.setRouting x).late = s.late := rfl
@[simp] theorem State.setRouting_choices (x : Routing) : (s.setRouting x).choices = s.choices := rfl
@[simp] theorem State.setRouting_pending (x : Routing) : (s.setRouting x).pending = s.pending := rfl

/-! ### `setPower` -/

@[simp] theorem State.setPower_pins (x : Power) : (s.setPower x).pins = s.pins := rfl
@[simp] theorem State.setPower_intake (x : Power) : (s.setPower x).intake = s.intake := rfl
@[simp] theorem State.setPower_store (x : Power) : (s.setPower x).store = s.store := rfl
@[simp] theorem State.setPower_feeders (x : Power) : (s.setPower x).feeders = s.feeders := rfl
@[simp] theorem State.setPower_pulses (x : Power) : (s.setPower x).pulses = s.pulses := rfl
@[simp] theorem State.setPower_filters (x : Power) : (s.setPower x).filters = s.filters := rfl
@[simp] theorem State.setPower_gate (x : Power) : (s.setPower x).gate = s.gate := rfl
@[simp] theorem State.setPower_tables (x : Power) : (s.setPower x).tables = s.tables := rfl
@[simp] theorem State.setPower_flags (x : Power) : (s.setPower x).flags = s.flags := rfl
@[simp] theorem State.setPower_panel (x : Power) : (s.setPower x).panel = s.panel := rfl
@[simp] theorem State.setPower_routing (x : Power) : (s.setPower x).routing = s.routing := rfl
@[simp] theorem State.setPower_power (x : Power) : (s.setPower x).power = x := rfl
@[simp] theorem State.setPower_checkers (x : Power) : (s.setPower x).checkers = s.checkers := rfl
@[simp] theorem State.setPower_monitor (x : Power) : (s.setPower x).monitor = s.monitor := rfl
@[simp] theorem State.setPower_stage (x : Power) : (s.setPower x).stage = s.stage := rfl
@[simp] theorem State.setPower_audit (x : Power) : (s.setPower x).audit = s.audit := rfl
@[simp] theorem State.setPower_snapshot (x : Power) : (s.setPower x).snapshot = s.snapshot := rfl
@[simp] theorem State.setPower_links (x : Power) : (s.setPower x).links = s.links := rfl
@[simp] theorem State.setPower_key (x : Power) : (s.setPower x).key = s.key := rfl
@[simp] theorem State.setPower_reports (x : Power) : (s.setPower x).reports = s.reports := rfl
@[simp] theorem State.setPower_late (x : Power) : (s.setPower x).late = s.late := rfl
@[simp] theorem State.setPower_choices (x : Power) : (s.setPower x).choices = s.choices := rfl
@[simp] theorem State.setPower_pending (x : Power) : (s.setPower x).pending = s.pending := rfl

/-! ### `setCheckers` -/

@[simp] theorem State.setCheckers_pins (x : Vector Checker 8) : (s.setCheckers x).pins = s.pins := rfl
@[simp] theorem State.setCheckers_intake (x : Vector Checker 8) : (s.setCheckers x).intake = s.intake := rfl
@[simp] theorem State.setCheckers_store (x : Vector Checker 8) : (s.setCheckers x).store = s.store := rfl
@[simp] theorem State.setCheckers_feeders (x : Vector Checker 8) : (s.setCheckers x).feeders = s.feeders := rfl
@[simp] theorem State.setCheckers_pulses (x : Vector Checker 8) : (s.setCheckers x).pulses = s.pulses := rfl
@[simp] theorem State.setCheckers_filters (x : Vector Checker 8) : (s.setCheckers x).filters = s.filters := rfl
@[simp] theorem State.setCheckers_gate (x : Vector Checker 8) : (s.setCheckers x).gate = s.gate := rfl
@[simp] theorem State.setCheckers_tables (x : Vector Checker 8) : (s.setCheckers x).tables = s.tables := rfl
@[simp] theorem State.setCheckers_flags (x : Vector Checker 8) : (s.setCheckers x).flags = s.flags := rfl
@[simp] theorem State.setCheckers_panel (x : Vector Checker 8) : (s.setCheckers x).panel = s.panel := rfl
@[simp] theorem State.setCheckers_routing (x : Vector Checker 8) : (s.setCheckers x).routing = s.routing := rfl
@[simp] theorem State.setCheckers_power (x : Vector Checker 8) : (s.setCheckers x).power = s.power := rfl
@[simp] theorem State.setCheckers_checkers (x : Vector Checker 8) : (s.setCheckers x).checkers = x := rfl
@[simp] theorem State.setCheckers_monitor (x : Vector Checker 8) : (s.setCheckers x).monitor = s.monitor := rfl
@[simp] theorem State.setCheckers_stage (x : Vector Checker 8) : (s.setCheckers x).stage = s.stage := rfl
@[simp] theorem State.setCheckers_audit (x : Vector Checker 8) : (s.setCheckers x).audit = s.audit := rfl
@[simp] theorem State.setCheckers_snapshot (x : Vector Checker 8) : (s.setCheckers x).snapshot = s.snapshot := rfl
@[simp] theorem State.setCheckers_links (x : Vector Checker 8) : (s.setCheckers x).links = s.links := rfl
@[simp] theorem State.setCheckers_key (x : Vector Checker 8) : (s.setCheckers x).key = s.key := rfl
@[simp] theorem State.setCheckers_reports (x : Vector Checker 8) : (s.setCheckers x).reports = s.reports := rfl
@[simp] theorem State.setCheckers_late (x : Vector Checker 8) : (s.setCheckers x).late = s.late := rfl
@[simp] theorem State.setCheckers_choices (x : Vector Checker 8) : (s.setCheckers x).choices = s.choices := rfl
@[simp] theorem State.setCheckers_pending (x : Vector Checker 8) : (s.setCheckers x).pending = s.pending := rfl

/-! ### `setMonitor` -/

@[simp] theorem State.setMonitor_pins (x : Crosspoint) : (s.setMonitor x).pins = s.pins := rfl
@[simp] theorem State.setMonitor_intake (x : Crosspoint) : (s.setMonitor x).intake = s.intake := rfl
@[simp] theorem State.setMonitor_store (x : Crosspoint) : (s.setMonitor x).store = s.store := rfl
@[simp] theorem State.setMonitor_feeders (x : Crosspoint) : (s.setMonitor x).feeders = s.feeders := rfl
@[simp] theorem State.setMonitor_pulses (x : Crosspoint) : (s.setMonitor x).pulses = s.pulses := rfl
@[simp] theorem State.setMonitor_filters (x : Crosspoint) : (s.setMonitor x).filters = s.filters := rfl
@[simp] theorem State.setMonitor_gate (x : Crosspoint) : (s.setMonitor x).gate = s.gate := rfl
@[simp] theorem State.setMonitor_tables (x : Crosspoint) : (s.setMonitor x).tables = s.tables := rfl
@[simp] theorem State.setMonitor_flags (x : Crosspoint) : (s.setMonitor x).flags = s.flags := rfl
@[simp] theorem State.setMonitor_panel (x : Crosspoint) : (s.setMonitor x).panel = s.panel := rfl
@[simp] theorem State.setMonitor_routing (x : Crosspoint) : (s.setMonitor x).routing = s.routing := rfl
@[simp] theorem State.setMonitor_power (x : Crosspoint) : (s.setMonitor x).power = s.power := rfl
@[simp] theorem State.setMonitor_checkers (x : Crosspoint) : (s.setMonitor x).checkers = s.checkers := rfl
@[simp] theorem State.setMonitor_monitor (x : Crosspoint) : (s.setMonitor x).monitor = x := rfl
@[simp] theorem State.setMonitor_stage (x : Crosspoint) : (s.setMonitor x).stage = s.stage := rfl
@[simp] theorem State.setMonitor_audit (x : Crosspoint) : (s.setMonitor x).audit = s.audit := rfl
@[simp] theorem State.setMonitor_snapshot (x : Crosspoint) : (s.setMonitor x).snapshot = s.snapshot := rfl
@[simp] theorem State.setMonitor_links (x : Crosspoint) : (s.setMonitor x).links = s.links := rfl
@[simp] theorem State.setMonitor_key (x : Crosspoint) : (s.setMonitor x).key = s.key := rfl
@[simp] theorem State.setMonitor_reports (x : Crosspoint) : (s.setMonitor x).reports = s.reports := rfl
@[simp] theorem State.setMonitor_late (x : Crosspoint) : (s.setMonitor x).late = s.late := rfl
@[simp] theorem State.setMonitor_choices (x : Crosspoint) : (s.setMonitor x).choices = s.choices := rfl
@[simp] theorem State.setMonitor_pending (x : Crosspoint) : (s.setMonitor x).pending = s.pending := rfl

/-! ### `setStage` -/

@[simp] theorem State.setStage_pins (x : Stage) : (s.setStage x).pins = s.pins := rfl
@[simp] theorem State.setStage_intake (x : Stage) : (s.setStage x).intake = s.intake := rfl
@[simp] theorem State.setStage_store (x : Stage) : (s.setStage x).store = s.store := rfl
@[simp] theorem State.setStage_feeders (x : Stage) : (s.setStage x).feeders = s.feeders := rfl
@[simp] theorem State.setStage_pulses (x : Stage) : (s.setStage x).pulses = s.pulses := rfl
@[simp] theorem State.setStage_filters (x : Stage) : (s.setStage x).filters = s.filters := rfl
@[simp] theorem State.setStage_gate (x : Stage) : (s.setStage x).gate = s.gate := rfl
@[simp] theorem State.setStage_tables (x : Stage) : (s.setStage x).tables = s.tables := rfl
@[simp] theorem State.setStage_flags (x : Stage) : (s.setStage x).flags = s.flags := rfl
@[simp] theorem State.setStage_panel (x : Stage) : (s.setStage x).panel = s.panel := rfl
@[simp] theorem State.setStage_routing (x : Stage) : (s.setStage x).routing = s.routing := rfl
@[simp] theorem State.setStage_power (x : Stage) : (s.setStage x).power = s.power := rfl
@[simp] theorem State.setStage_checkers (x : Stage) : (s.setStage x).checkers = s.checkers := rfl
@[simp] theorem State.setStage_monitor (x : Stage) : (s.setStage x).monitor = s.monitor := rfl
@[simp] theorem State.setStage_stage (x : Stage) : (s.setStage x).stage = x := rfl
@[simp] theorem State.setStage_audit (x : Stage) : (s.setStage x).audit = s.audit := rfl
@[simp] theorem State.setStage_snapshot (x : Stage) : (s.setStage x).snapshot = s.snapshot := rfl
@[simp] theorem State.setStage_links (x : Stage) : (s.setStage x).links = s.links := rfl
@[simp] theorem State.setStage_key (x : Stage) : (s.setStage x).key = s.key := rfl
@[simp] theorem State.setStage_reports (x : Stage) : (s.setStage x).reports = s.reports := rfl
@[simp] theorem State.setStage_late (x : Stage) : (s.setStage x).late = s.late := rfl
@[simp] theorem State.setStage_choices (x : Stage) : (s.setStage x).choices = s.choices := rfl
@[simp] theorem State.setStage_pending (x : Stage) : (s.setStage x).pending = s.pending := rfl

/-! ### `setAudit` -/

@[simp] theorem State.setAudit_pins (x : Audit) : (s.setAudit x).pins = s.pins := rfl
@[simp] theorem State.setAudit_intake (x : Audit) : (s.setAudit x).intake = s.intake := rfl
@[simp] theorem State.setAudit_store (x : Audit) : (s.setAudit x).store = s.store := rfl
@[simp] theorem State.setAudit_feeders (x : Audit) : (s.setAudit x).feeders = s.feeders := rfl
@[simp] theorem State.setAudit_pulses (x : Audit) : (s.setAudit x).pulses = s.pulses := rfl
@[simp] theorem State.setAudit_filters (x : Audit) : (s.setAudit x).filters = s.filters := rfl
@[simp] theorem State.setAudit_gate (x : Audit) : (s.setAudit x).gate = s.gate := rfl
@[simp] theorem State.setAudit_tables (x : Audit) : (s.setAudit x).tables = s.tables := rfl
@[simp] theorem State.setAudit_flags (x : Audit) : (s.setAudit x).flags = s.flags := rfl
@[simp] theorem State.setAudit_panel (x : Audit) : (s.setAudit x).panel = s.panel := rfl
@[simp] theorem State.setAudit_routing (x : Audit) : (s.setAudit x).routing = s.routing := rfl
@[simp] theorem State.setAudit_power (x : Audit) : (s.setAudit x).power = s.power := rfl
@[simp] theorem State.setAudit_checkers (x : Audit) : (s.setAudit x).checkers = s.checkers := rfl
@[simp] theorem State.setAudit_monitor (x : Audit) : (s.setAudit x).monitor = s.monitor := rfl
@[simp] theorem State.setAudit_stage (x : Audit) : (s.setAudit x).stage = s.stage := rfl
@[simp] theorem State.setAudit_audit (x : Audit) : (s.setAudit x).audit = x := rfl
@[simp] theorem State.setAudit_snapshot (x : Audit) : (s.setAudit x).snapshot = s.snapshot := rfl
@[simp] theorem State.setAudit_links (x : Audit) : (s.setAudit x).links = s.links := rfl
@[simp] theorem State.setAudit_key (x : Audit) : (s.setAudit x).key = s.key := rfl
@[simp] theorem State.setAudit_reports (x : Audit) : (s.setAudit x).reports = s.reports := rfl
@[simp] theorem State.setAudit_late (x : Audit) : (s.setAudit x).late = s.late := rfl
@[simp] theorem State.setAudit_choices (x : Audit) : (s.setAudit x).choices = s.choices := rfl
@[simp] theorem State.setAudit_pending (x : Audit) : (s.setAudit x).pending = s.pending := rfl

/-! ### `setSnapshot` -/

@[simp] theorem State.setSnapshot_pins (x : Option Snapshot) : (s.setSnapshot x).pins = s.pins := rfl
@[simp] theorem State.setSnapshot_intake (x : Option Snapshot) : (s.setSnapshot x).intake = s.intake := rfl
@[simp] theorem State.setSnapshot_store (x : Option Snapshot) : (s.setSnapshot x).store = s.store := rfl
@[simp] theorem State.setSnapshot_feeders (x : Option Snapshot) : (s.setSnapshot x).feeders = s.feeders := rfl
@[simp] theorem State.setSnapshot_pulses (x : Option Snapshot) : (s.setSnapshot x).pulses = s.pulses := rfl
@[simp] theorem State.setSnapshot_filters (x : Option Snapshot) : (s.setSnapshot x).filters = s.filters := rfl
@[simp] theorem State.setSnapshot_gate (x : Option Snapshot) : (s.setSnapshot x).gate = s.gate := rfl
@[simp] theorem State.setSnapshot_tables (x : Option Snapshot) : (s.setSnapshot x).tables = s.tables := rfl
@[simp] theorem State.setSnapshot_flags (x : Option Snapshot) : (s.setSnapshot x).flags = s.flags := rfl
@[simp] theorem State.setSnapshot_panel (x : Option Snapshot) : (s.setSnapshot x).panel = s.panel := rfl
@[simp] theorem State.setSnapshot_routing (x : Option Snapshot) : (s.setSnapshot x).routing = s.routing := rfl
@[simp] theorem State.setSnapshot_power (x : Option Snapshot) : (s.setSnapshot x).power = s.power := rfl
@[simp] theorem State.setSnapshot_checkers (x : Option Snapshot) : (s.setSnapshot x).checkers = s.checkers := rfl
@[simp] theorem State.setSnapshot_monitor (x : Option Snapshot) : (s.setSnapshot x).monitor = s.monitor := rfl
@[simp] theorem State.setSnapshot_stage (x : Option Snapshot) : (s.setSnapshot x).stage = s.stage := rfl
@[simp] theorem State.setSnapshot_audit (x : Option Snapshot) : (s.setSnapshot x).audit = s.audit := rfl
@[simp] theorem State.setSnapshot_snapshot (x : Option Snapshot) : (s.setSnapshot x).snapshot = x := rfl
@[simp] theorem State.setSnapshot_links (x : Option Snapshot) : (s.setSnapshot x).links = s.links := rfl
@[simp] theorem State.setSnapshot_key (x : Option Snapshot) : (s.setSnapshot x).key = s.key := rfl
@[simp] theorem State.setSnapshot_reports (x : Option Snapshot) : (s.setSnapshot x).reports = s.reports := rfl
@[simp] theorem State.setSnapshot_late (x : Option Snapshot) : (s.setSnapshot x).late = s.late := rfl
@[simp] theorem State.setSnapshot_choices (x : Option Snapshot) : (s.setSnapshot x).choices = s.choices := rfl
@[simp] theorem State.setSnapshot_pending (x : Option Snapshot) : (s.setSnapshot x).pending = s.pending := rfl

/-! ### `setLinks` -/

@[simp] theorem State.setLinks_pins (x : Links) : (s.setLinks x).pins = s.pins := rfl
@[simp] theorem State.setLinks_intake (x : Links) : (s.setLinks x).intake = s.intake := rfl
@[simp] theorem State.setLinks_store (x : Links) : (s.setLinks x).store = s.store := rfl
@[simp] theorem State.setLinks_feeders (x : Links) : (s.setLinks x).feeders = s.feeders := rfl
@[simp] theorem State.setLinks_pulses (x : Links) : (s.setLinks x).pulses = s.pulses := rfl
@[simp] theorem State.setLinks_filters (x : Links) : (s.setLinks x).filters = s.filters := rfl
@[simp] theorem State.setLinks_gate (x : Links) : (s.setLinks x).gate = s.gate := rfl
@[simp] theorem State.setLinks_tables (x : Links) : (s.setLinks x).tables = s.tables := rfl
@[simp] theorem State.setLinks_flags (x : Links) : (s.setLinks x).flags = s.flags := rfl
@[simp] theorem State.setLinks_panel (x : Links) : (s.setLinks x).panel = s.panel := rfl
@[simp] theorem State.setLinks_routing (x : Links) : (s.setLinks x).routing = s.routing := rfl
@[simp] theorem State.setLinks_power (x : Links) : (s.setLinks x).power = s.power := rfl
@[simp] theorem State.setLinks_checkers (x : Links) : (s.setLinks x).checkers = s.checkers := rfl
@[simp] theorem State.setLinks_monitor (x : Links) : (s.setLinks x).monitor = s.monitor := rfl
@[simp] theorem State.setLinks_stage (x : Links) : (s.setLinks x).stage = s.stage := rfl
@[simp] theorem State.setLinks_audit (x : Links) : (s.setLinks x).audit = s.audit := rfl
@[simp] theorem State.setLinks_snapshot (x : Links) : (s.setLinks x).snapshot = s.snapshot := rfl
@[simp] theorem State.setLinks_links (x : Links) : (s.setLinks x).links = x := rfl
@[simp] theorem State.setLinks_key (x : Links) : (s.setLinks x).key = s.key := rfl
@[simp] theorem State.setLinks_reports (x : Links) : (s.setLinks x).reports = s.reports := rfl
@[simp] theorem State.setLinks_late (x : Links) : (s.setLinks x).late = s.late := rfl
@[simp] theorem State.setLinks_choices (x : Links) : (s.setLinks x).choices = s.choices := rfl
@[simp] theorem State.setLinks_pending (x : Links) : (s.setLinks x).pending = s.pending := rfl

/-! ### `setKey` -/

@[simp] theorem State.setKey_pins (x : ServiceKey) : (s.setKey x).pins = s.pins := rfl
@[simp] theorem State.setKey_intake (x : ServiceKey) : (s.setKey x).intake = s.intake := rfl
@[simp] theorem State.setKey_store (x : ServiceKey) : (s.setKey x).store = s.store := rfl
@[simp] theorem State.setKey_feeders (x : ServiceKey) : (s.setKey x).feeders = s.feeders := rfl
@[simp] theorem State.setKey_pulses (x : ServiceKey) : (s.setKey x).pulses = s.pulses := rfl
@[simp] theorem State.setKey_filters (x : ServiceKey) : (s.setKey x).filters = s.filters := rfl
@[simp] theorem State.setKey_gate (x : ServiceKey) : (s.setKey x).gate = s.gate := rfl
@[simp] theorem State.setKey_tables (x : ServiceKey) : (s.setKey x).tables = s.tables := rfl
@[simp] theorem State.setKey_flags (x : ServiceKey) : (s.setKey x).flags = s.flags := rfl
@[simp] theorem State.setKey_panel (x : ServiceKey) : (s.setKey x).panel = s.panel := rfl
@[simp] theorem State.setKey_routing (x : ServiceKey) : (s.setKey x).routing = s.routing := rfl
@[simp] theorem State.setKey_power (x : ServiceKey) : (s.setKey x).power = s.power := rfl
@[simp] theorem State.setKey_checkers (x : ServiceKey) : (s.setKey x).checkers = s.checkers := rfl
@[simp] theorem State.setKey_monitor (x : ServiceKey) : (s.setKey x).monitor = s.monitor := rfl
@[simp] theorem State.setKey_stage (x : ServiceKey) : (s.setKey x).stage = s.stage := rfl
@[simp] theorem State.setKey_audit (x : ServiceKey) : (s.setKey x).audit = s.audit := rfl
@[simp] theorem State.setKey_snapshot (x : ServiceKey) : (s.setKey x).snapshot = s.snapshot := rfl
@[simp] theorem State.setKey_links (x : ServiceKey) : (s.setKey x).links = s.links := rfl
@[simp] theorem State.setKey_key (x : ServiceKey) : (s.setKey x).key = x := rfl
@[simp] theorem State.setKey_reports (x : ServiceKey) : (s.setKey x).reports = s.reports := rfl
@[simp] theorem State.setKey_late (x : ServiceKey) : (s.setKey x).late = s.late := rfl
@[simp] theorem State.setKey_choices (x : ServiceKey) : (s.setKey x).choices = s.choices := rfl
@[simp] theorem State.setKey_pending (x : ServiceKey) : (s.setKey x).pending = s.pending := rfl

/-! ### `setReports` -/

@[simp] theorem State.setReports_pins (x : List Report) : (s.setReports x).pins = s.pins := rfl
@[simp] theorem State.setReports_intake (x : List Report) : (s.setReports x).intake = s.intake := rfl
@[simp] theorem State.setReports_store (x : List Report) : (s.setReports x).store = s.store := rfl
@[simp] theorem State.setReports_feeders (x : List Report) : (s.setReports x).feeders = s.feeders := rfl
@[simp] theorem State.setReports_pulses (x : List Report) : (s.setReports x).pulses = s.pulses := rfl
@[simp] theorem State.setReports_filters (x : List Report) : (s.setReports x).filters = s.filters := rfl
@[simp] theorem State.setReports_gate (x : List Report) : (s.setReports x).gate = s.gate := rfl
@[simp] theorem State.setReports_tables (x : List Report) : (s.setReports x).tables = s.tables := rfl
@[simp] theorem State.setReports_flags (x : List Report) : (s.setReports x).flags = s.flags := rfl
@[simp] theorem State.setReports_panel (x : List Report) : (s.setReports x).panel = s.panel := rfl
@[simp] theorem State.setReports_routing (x : List Report) : (s.setReports x).routing = s.routing := rfl
@[simp] theorem State.setReports_power (x : List Report) : (s.setReports x).power = s.power := rfl
@[simp] theorem State.setReports_checkers (x : List Report) : (s.setReports x).checkers = s.checkers := rfl
@[simp] theorem State.setReports_monitor (x : List Report) : (s.setReports x).monitor = s.monitor := rfl
@[simp] theorem State.setReports_stage (x : List Report) : (s.setReports x).stage = s.stage := rfl
@[simp] theorem State.setReports_audit (x : List Report) : (s.setReports x).audit = s.audit := rfl
@[simp] theorem State.setReports_snapshot (x : List Report) : (s.setReports x).snapshot = s.snapshot := rfl
@[simp] theorem State.setReports_links (x : List Report) : (s.setReports x).links = s.links := rfl
@[simp] theorem State.setReports_key (x : List Report) : (s.setReports x).key = s.key := rfl
@[simp] theorem State.setReports_reports (x : List Report) : (s.setReports x).reports = x := rfl
@[simp] theorem State.setReports_late (x : List Report) : (s.setReports x).late = s.late := rfl
@[simp] theorem State.setReports_choices (x : List Report) : (s.setReports x).choices = s.choices := rfl
@[simp] theorem State.setReports_pending (x : List Report) : (s.setReports x).pending = s.pending := rfl

/-! ### `setLate` -/

@[simp] theorem State.setLate_pins (x : Option Report) : (s.setLate x).pins = s.pins := rfl
@[simp] theorem State.setLate_intake (x : Option Report) : (s.setLate x).intake = s.intake := rfl
@[simp] theorem State.setLate_store (x : Option Report) : (s.setLate x).store = s.store := rfl
@[simp] theorem State.setLate_feeders (x : Option Report) : (s.setLate x).feeders = s.feeders := rfl
@[simp] theorem State.setLate_pulses (x : Option Report) : (s.setLate x).pulses = s.pulses := rfl
@[simp] theorem State.setLate_filters (x : Option Report) : (s.setLate x).filters = s.filters := rfl
@[simp] theorem State.setLate_gate (x : Option Report) : (s.setLate x).gate = s.gate := rfl
@[simp] theorem State.setLate_tables (x : Option Report) : (s.setLate x).tables = s.tables := rfl
@[simp] theorem State.setLate_flags (x : Option Report) : (s.setLate x).flags = s.flags := rfl
@[simp] theorem State.setLate_panel (x : Option Report) : (s.setLate x).panel = s.panel := rfl
@[simp] theorem State.setLate_routing (x : Option Report) : (s.setLate x).routing = s.routing := rfl
@[simp] theorem State.setLate_power (x : Option Report) : (s.setLate x).power = s.power := rfl
@[simp] theorem State.setLate_checkers (x : Option Report) : (s.setLate x).checkers = s.checkers := rfl
@[simp] theorem State.setLate_monitor (x : Option Report) : (s.setLate x).monitor = s.monitor := rfl
@[simp] theorem State.setLate_stage (x : Option Report) : (s.setLate x).stage = s.stage := rfl
@[simp] theorem State.setLate_audit (x : Option Report) : (s.setLate x).audit = s.audit := rfl
@[simp] theorem State.setLate_snapshot (x : Option Report) : (s.setLate x).snapshot = s.snapshot := rfl
@[simp] theorem State.setLate_links (x : Option Report) : (s.setLate x).links = s.links := rfl
@[simp] theorem State.setLate_key (x : Option Report) : (s.setLate x).key = s.key := rfl
@[simp] theorem State.setLate_reports (x : Option Report) : (s.setLate x).reports = s.reports := rfl
@[simp] theorem State.setLate_late (x : Option Report) : (s.setLate x).late = x := rfl
@[simp] theorem State.setLate_choices (x : Option Report) : (s.setLate x).choices = s.choices := rfl
@[simp] theorem State.setLate_pending (x : Option Report) : (s.setLate x).pending = s.pending := rfl

/-! ### `setChoices` -/

@[simp] theorem State.setChoices_pins (x : Nat) : (s.setChoices x).pins = s.pins := rfl
@[simp] theorem State.setChoices_intake (x : Nat) : (s.setChoices x).intake = s.intake := rfl
@[simp] theorem State.setChoices_store (x : Nat) : (s.setChoices x).store = s.store := rfl
@[simp] theorem State.setChoices_feeders (x : Nat) : (s.setChoices x).feeders = s.feeders := rfl
@[simp] theorem State.setChoices_pulses (x : Nat) : (s.setChoices x).pulses = s.pulses := rfl
@[simp] theorem State.setChoices_filters (x : Nat) : (s.setChoices x).filters = s.filters := rfl
@[simp] theorem State.setChoices_gate (x : Nat) : (s.setChoices x).gate = s.gate := rfl
@[simp] theorem State.setChoices_tables (x : Nat) : (s.setChoices x).tables = s.tables := rfl
@[simp] theorem State.setChoices_flags (x : Nat) : (s.setChoices x).flags = s.flags := rfl
@[simp] theorem State.setChoices_panel (x : Nat) : (s.setChoices x).panel = s.panel := rfl
@[simp] theorem State.setChoices_routing (x : Nat) : (s.setChoices x).routing = s.routing := rfl
@[simp] theorem State.setChoices_power (x : Nat) : (s.setChoices x).power = s.power := rfl
@[simp] theorem State.setChoices_checkers (x : Nat) : (s.setChoices x).checkers = s.checkers := rfl
@[simp] theorem State.setChoices_monitor (x : Nat) : (s.setChoices x).monitor = s.monitor := rfl
@[simp] theorem State.setChoices_stage (x : Nat) : (s.setChoices x).stage = s.stage := rfl
@[simp] theorem State.setChoices_audit (x : Nat) : (s.setChoices x).audit = s.audit := rfl
@[simp] theorem State.setChoices_snapshot (x : Nat) : (s.setChoices x).snapshot = s.snapshot := rfl
@[simp] theorem State.setChoices_links (x : Nat) : (s.setChoices x).links = s.links := rfl
@[simp] theorem State.setChoices_key (x : Nat) : (s.setChoices x).key = s.key := rfl
@[simp] theorem State.setChoices_reports (x : Nat) : (s.setChoices x).reports = s.reports := rfl
@[simp] theorem State.setChoices_late (x : Nat) : (s.setChoices x).late = s.late := rfl
@[simp] theorem State.setChoices_choices (x : Nat) : (s.setChoices x).choices = x := rfl
@[simp] theorem State.setChoices_pending (x : Nat) : (s.setChoices x).pending = s.pending := rfl

/-! ### `setPending` -/

@[simp] theorem State.setPending_pins (x : List Instr) : (s.setPending x).pins = s.pins := rfl
@[simp] theorem State.setPending_intake (x : List Instr) : (s.setPending x).intake = s.intake := rfl
@[simp] theorem State.setPending_store (x : List Instr) : (s.setPending x).store = s.store := rfl
@[simp] theorem State.setPending_feeders (x : List Instr) : (s.setPending x).feeders = s.feeders := rfl
@[simp] theorem State.setPending_pulses (x : List Instr) : (s.setPending x).pulses = s.pulses := rfl
@[simp] theorem State.setPending_filters (x : List Instr) : (s.setPending x).filters = s.filters := rfl
@[simp] theorem State.setPending_gate (x : List Instr) : (s.setPending x).gate = s.gate := rfl
@[simp] theorem State.setPending_tables (x : List Instr) : (s.setPending x).tables = s.tables := rfl
@[simp] theorem State.setPending_flags (x : List Instr) : (s.setPending x).flags = s.flags := rfl
@[simp] theorem State.setPending_panel (x : List Instr) : (s.setPending x).panel = s.panel := rfl
@[simp] theorem State.setPending_routing (x : List Instr) : (s.setPending x).routing = s.routing := rfl
@[simp] theorem State.setPending_power (x : List Instr) : (s.setPending x).power = s.power := rfl
@[simp] theorem State.setPending_checkers (x : List Instr) : (s.setPending x).checkers = s.checkers := rfl
@[simp] theorem State.setPending_monitor (x : List Instr) : (s.setPending x).monitor = s.monitor := rfl
@[simp] theorem State.setPending_stage (x : List Instr) : (s.setPending x).stage = s.stage := rfl
@[simp] theorem State.setPending_audit (x : List Instr) : (s.setPending x).audit = s.audit := rfl
@[simp] theorem State.setPending_snapshot (x : List Instr) : (s.setPending x).snapshot = s.snapshot := rfl
@[simp] theorem State.setPending_links (x : List Instr) : (s.setPending x).links = s.links := rfl
@[simp] theorem State.setPending_key (x : List Instr) : (s.setPending x).key = s.key := rfl
@[simp] theorem State.setPending_reports (x : List Instr) : (s.setPending x).reports = s.reports := rfl
@[simp] theorem State.setPending_late (x : List Instr) : (s.setPending x).late = s.late := rfl
@[simp] theorem State.setPending_choices (x : List Instr) : (s.setPending x).choices = s.choices := rfl
@[simp] theorem State.setPending_pending (x : List Instr) : (s.setPending x).pending = x := rfl

end

end Sys2Proof.Machine
end

