-- ==== Sys2Proof/Laws/Frames.lean ====
section
/-! SUPPORT. What the shared operations leave as it is, field by field. -/

namespace Sys2Proof.Machine

section
variable (s : State)

/-! ### `notifyOn` -/

@[simp] theorem State.notifyOn_pins (l : Link) (n : Notice) : (s.notifyOn l n).pins = s.pins := by cases l <;> rfl
@[simp] theorem State.notifyOn_intake (l : Link) (n : Notice) : (s.notifyOn l n).intake = s.intake := by cases l <;> rfl
@[simp] theorem State.notifyOn_store (l : Link) (n : Notice) : (s.notifyOn l n).store = s.store := by cases l <;> rfl
@[simp] theorem State.notifyOn_feeders (l : Link) (n : Notice) : (s.notifyOn l n).feeders = s.feeders := by cases l <;> rfl
@[simp] theorem State.notifyOn_pulses (l : Link) (n : Notice) : (s.notifyOn l n).pulses = s.pulses := by cases l <;> rfl
@[simp] theorem State.notifyOn_filters (l : Link) (n : Notice) : (s.notifyOn l n).filters = s.filters := by cases l <;> rfl
@[simp] theorem State.notifyOn_gate (l : Link) (n : Notice) : (s.notifyOn l n).gate = s.gate := by cases l <;> rfl
@[simp] theorem State.notifyOn_tables (l : Link) (n : Notice) : (s.notifyOn l n).tables = s.tables := by cases l <;> rfl
@[simp] theorem State.notifyOn_flags (l : Link) (n : Notice) : (s.notifyOn l n).flags = s.flags := by cases l <;> rfl
@[simp] theorem State.notifyOn_panel (l : Link) (n : Notice) : (s.notifyOn l n).panel = s.panel := by cases l <;> rfl
@[simp] theorem State.notifyOn_routing (l : Link) (n : Notice) : (s.notifyOn l n).routing = s.routing := by cases l <;> rfl
@[simp] theorem State.notifyOn_power (l : Link) (n : Notice) : (s.notifyOn l n).power = s.power := by cases l <;> rfl
@[simp] theorem State.notifyOn_checkers (l : Link) (n : Notice) : (s.notifyOn l n).checkers = s.checkers := by cases l <;> rfl
@[simp] theorem State.notifyOn_monitor (l : Link) (n : Notice) : (s.notifyOn l n).monitor = s.monitor := by cases l <;> rfl
@[simp] theorem State.notifyOn_stage (l : Link) (n : Notice) : (s.notifyOn l n).stage = s.stage := by cases l <;> rfl
@[simp] theorem State.notifyOn_audit (l : Link) (n : Notice) : (s.notifyOn l n).audit = s.audit := by cases l <;> rfl
@[simp] theorem State.notifyOn_snapshot (l : Link) (n : Notice) : (s.notifyOn l n).snapshot = s.snapshot := by cases l <;> rfl
@[simp] theorem State.notifyOn_key (l : Link) (n : Notice) : (s.notifyOn l n).key = s.key := by cases l <;> rfl
@[simp] theorem State.notifyOn_reports (l : Link) (n : Notice) : (s.notifyOn l n).reports = s.reports := by cases l <;> rfl
@[simp] theorem State.notifyOn_late (l : Link) (n : Notice) : (s.notifyOn l n).late = s.late := by cases l <;> rfl
@[simp] theorem State.notifyOn_choices (l : Link) (n : Notice) : (s.notifyOn l n).choices = s.choices := by cases l <;> rfl
@[simp] theorem State.notifyOn_pending (l : Link) (n : Notice) : (s.notifyOn l n).pending = s.pending := by cases l <;> rfl

/-! ### `notify` -/

@[simp] theorem State.notify_pins (n : Notice) : (s.notify n).pins = s.pins := rfl
@[simp] theorem State.notify_intake (n : Notice) : (s.notify n).intake = s.intake := rfl
@[simp] theorem State.notify_store (n : Notice) : (s.notify n).store = s.store := rfl
@[simp] theorem State.notify_feeders (n : Notice) : (s.notify n).feeders = s.feeders := rfl
@[simp] theorem State.notify_pulses (n : Notice) : (s.notify n).pulses = s.pulses := rfl
@[simp] theorem State.notify_filters (n : Notice) : (s.notify n).filters = s.filters := rfl
@[simp] theorem State.notify_gate (n : Notice) : (s.notify n).gate = s.gate := rfl
@[simp] theorem State.notify_tables (n : Notice) : (s.notify n).tables = s.tables := rfl
@[simp] theorem State.notify_flags (n : Notice) : (s.notify n).flags = s.flags := rfl
@[simp] theorem State.notify_panel (n : Notice) : (s.notify n).panel = s.panel := rfl
@[simp] theorem State.notify_routing (n : Notice) : (s.notify n).routing = s.routing := rfl
@[simp] theorem State.notify_power (n : Notice) : (s.notify n).power = s.power := rfl
@[simp] theorem State.notify_checkers (n : Notice) : (s.notify n).checkers = s.checkers := rfl
@[simp] theorem State.notify_monitor (n : Notice) : (s.notify n).monitor = s.monitor := rfl
@[simp] theorem State.notify_stage (n : Notice) : (s.notify n).stage = s.stage := rfl
@[simp] theorem State.notify_audit (n : Notice) : (s.notify n).audit = s.audit := rfl
@[simp] theorem State.notify_snapshot (n : Notice) : (s.notify n).snapshot = s.snapshot := rfl
@[simp] theorem State.notify_key (n : Notice) : (s.notify n).key = s.key := rfl
@[simp] theorem State.notify_reports (n : Notice) : (s.notify n).reports = s.reports := rfl
@[simp] theorem State.notify_late (n : Notice) : (s.notify n).late = s.late := rfl
@[simp] theorem State.notify_choices (n : Notice) : (s.notify n).choices = s.choices := rfl
@[simp] theorem State.notify_pending (n : Notice) : (s.notify n).pending = s.pending := rfl

/-! ### `setLink` -/

@[simp] theorem State.setLink_pins (l : Link) (k : LinkState) : (s.setLink l k).pins = s.pins := by cases l <;> rfl
@[simp] theorem State.setLink_intake (l : Link) (k : LinkState) : (s.setLink l k).intake = s.intake := by cases l <;> rfl
@[simp] theorem State.setLink_store (l : Link) (k : LinkState) : (s.setLink l k).store = s.store := by cases l <;> rfl
@[simp] theorem State.setLink_feeders (l : Link) (k : LinkState) : (s.setLink l k).feeders = s.feeders := by cases l <;> rfl
@[simp] theorem State.setLink_pulses (l : Link) (k : LinkState) : (s.setLink l k).pulses = s.pulses := by cases l <;> rfl
@[simp] theorem State.setLink_filters (l : Link) (k : LinkState) : (s.setLink l k).filters = s.filters := by cases l <;> rfl
@[simp] theorem State.setLink_gate (l : Link) (k : LinkState) : (s.setLink l k).gate = s.gate := by cases l <;> rfl
@[simp] theorem State.setLink_tables (l : Link) (k : LinkState) : (s.setLink l k).tables = s.tables := by cases l <;> rfl
@[simp] theorem State.setLink_flags (l : Link) (k : LinkState) : (s.setLink l k).flags = s.flags := by cases l <;> rfl
@[simp] theorem State.setLink_panel (l : Link) (k : LinkState) : (s.setLink l k).panel = s.panel := by cases l <;> rfl
@[simp] theorem State.setLink_routing (l : Link) (k : LinkState) : (s.setLink l k).routing = s.routing := by cases l <;> rfl
@[simp] theorem State.setLink_power (l : Link) (k : LinkState) : (s.setLink l k).power = s.power := by cases l <;> rfl
@[simp] theorem State.setLink_checkers (l : Link) (k : LinkState) : (s.setLink l k).checkers = s.checkers := by cases l <;> rfl
@[simp] theorem State.setLink_monitor (l : Link) (k : LinkState) : (s.setLink l k).monitor = s.monitor := by cases l <;> rfl
@[simp] theorem State.setLink_stage (l : Link) (k : LinkState) : (s.setLink l k).stage = s.stage := by cases l <;> rfl
@[simp] theorem State.setLink_audit (l : Link) (k : LinkState) : (s.setLink l k).audit = s.audit := by cases l <;> rfl
@[simp] theorem State.setLink_snapshot (l : Link) (k : LinkState) : (s.setLink l k).snapshot = s.snapshot := by cases l <;> rfl
@[simp] theorem State.setLink_key (l : Link) (k : LinkState) : (s.setLink l k).key = s.key := by cases l <;> rfl
@[simp] theorem State.setLink_reports (l : Link) (k : LinkState) : (s.setLink l k).reports = s.reports := by cases l <;> rfl
@[simp] theorem State.setLink_late (l : Link) (k : LinkState) : (s.setLink l k).late = s.late := by cases l <;> rfl
@[simp] theorem State.setLink_choices (l : Link) (k : LinkState) : (s.setLink l k).choices = s.choices := by cases l <;> rfl
@[simp] theorem State.setLink_pending (l : Link) (k : LinkState) : (s.setLink l k).pending = s.pending := by cases l <;> rfl

/-! ### `setFeeder` -/

@[simp] theorem State.setFeeder_pins (b : Bay) (f : Feeder) : (s.setFeeder b f).pins = s.pins := rfl
@[simp] theorem State.setFeeder_intake (b : Bay) (f : Feeder) : (s.setFeeder b f).intake = s.intake := rfl
@[simp] theorem State.setFeeder_store (b : Bay) (f : Feeder) : (s.setFeeder b f).store = s.store := rfl
@[simp] theorem State.setFeeder_pulses (b : Bay) (f : Feeder) : (s.setFeeder b f).pulses = s.pulses := rfl
@[simp] theorem State.setFeeder_filters (b : Bay) (f : Feeder) : (s.setFeeder b f).filters = s.filters := rfl
@[simp] theorem State.setFeeder_gate (b : Bay) (f : Feeder) : (s.setFeeder b f).gate = s.gate := rfl
@[simp] theorem State.setFeeder_tables (b : Bay) (f : Feeder) : (s.setFeeder b f).tables = s.tables := rfl
@[simp] theorem State.setFeeder_flags (b : Bay) (f : Feeder) : (s.setFeeder b f).flags = s.flags := rfl
@[simp] theorem State.setFeeder_panel (b : Bay) (f : Feeder) : (s.setFeeder b f).panel = s.panel := rfl
@[simp] theorem State.setFeeder_routing (b : Bay) (f : Feeder) : (s.setFeeder b f).routing = s.routing := rfl
@[simp] theorem State.setFeeder_power (b : Bay) (f : Feeder) : (s.setFeeder b f).power = s.power := rfl
@[simp] theorem State.setFeeder_checkers (b : Bay) (f : Feeder) : (s.setFeeder b f).checkers = s.checkers := rfl
@[simp] theorem State.setFeeder_monitor (b : Bay) (f : Feeder) : (s.setFeeder b f).monitor = s.monitor := rfl
@[simp] theorem State.setFeeder_stage (b : Bay) (f : Feeder) : (s.setFeeder b f).stage = s.stage := rfl
@[simp] theorem State.setFeeder_audit (b : Bay) (f : Feeder) : (s.setFeeder b f).audit = s.audit := rfl
@[simp] theorem State.setFeeder_snapshot (b : Bay) (f : Feeder) : (s.setFeeder b f).snapshot = s.snapshot := rfl
@[simp] theorem State.setFeeder_links (b : Bay) (f : Feeder) : (s.setFeeder b f).links = s.links := rfl
@[simp] theorem State.setFeeder_key (b : Bay) (f : Feeder) : (s.setFeeder b f).key = s.key := rfl
@[simp] theorem State.setFeeder_reports (b : Bay) (f : Feeder) : (s.setFeeder b f).reports = s.reports := rfl
@[simp] theorem State.setFeeder_late (b : Bay) (f : Feeder) : (s.setFeeder b f).late = s.late := rfl
@[simp] theorem State.setFeeder_choices (b : Bay) (f : Feeder) : (s.setFeeder b f).choices = s.choices := rfl
@[simp] theorem State.setFeeder_pending (b : Bay) (f : Feeder) : (s.setFeeder b f).pending = s.pending := rfl

/-! ### `setBay` -/

@[simp] theorem State.setBay_pins (b : Bay) (p : BayPower) : (s.setBay b p).pins = s.pins := rfl
@[simp] theorem State.setBay_intake (b : Bay) (p : BayPower) : (s.setBay b p).intake = s.intake := rfl
@[simp] theorem State.setBay_store (b : Bay) (p : BayPower) : (s.setBay b p).store = s.store := rfl
@[simp] theorem State.setBay_feeders (b : Bay) (p : BayPower) : (s.setBay b p).feeders = s.feeders := rfl
@[simp] theorem State.setBay_pulses (b : Bay) (p : BayPower) : (s.setBay b p).pulses = s.pulses := rfl
@[simp] theorem State.setBay_filters (b : Bay) (p : BayPower) : (s.setBay b p).filters = s.filters := rfl
@[simp] theorem State.setBay_gate (b : Bay) (p : BayPower) : (s.setBay b p).gate = s.gate := rfl
@[simp] theorem State.setBay_tables (b : Bay) (p : BayPower) : (s.setBay b p).tables = s.tables := rfl
@[simp] theorem State.setBay_flags (b : Bay) (p : BayPower) : (s.setBay b p).flags = s.flags := rfl
@[simp] theorem State.setBay_panel (b : Bay) (p : BayPower) : (s.setBay b p).panel = s.panel := rfl
@[simp] theorem State.setBay_routing (b : Bay) (p : BayPower) : (s.setBay b p).routing = s.routing := rfl
@[simp] theorem State.setBay_checkers (b : Bay) (p : BayPower) : (s.setBay b p).checkers = s.checkers := rfl
@[simp] theorem State.setBay_monitor (b : Bay) (p : BayPower) : (s.setBay b p).monitor = s.monitor := rfl
@[simp] theorem State.setBay_stage (b : Bay) (p : BayPower) : (s.setBay b p).stage = s.stage := rfl
@[simp] theorem State.setBay_audit (b : Bay) (p : BayPower) : (s.setBay b p).audit = s.audit := rfl
@[simp] theorem State.setBay_snapshot (b : Bay) (p : BayPower) : (s.setBay b p).snapshot = s.snapshot := rfl
@[simp] theorem State.setBay_links (b : Bay) (p : BayPower) : (s.setBay b p).links = s.links := rfl
@[simp] theorem State.setBay_key (b : Bay) (p : BayPower) : (s.setBay b p).key = s.key := rfl
@[simp] theorem State.setBay_reports (b : Bay) (p : BayPower) : (s.setBay b p).reports = s.reports := rfl
@[simp] theorem State.setBay_late (b : Bay) (p : BayPower) : (s.setBay b p).late = s.late := rfl
@[simp] theorem State.setBay_choices (b : Bay) (p : BayPower) : (s.setBay b p).choices = s.choices := rfl
@[simp] theorem State.setBay_pending (b : Bay) (p : BayPower) : (s.setBay b p).pending = s.pending := rfl

/-! ### `setChecker` -/

@[simp] theorem State.setChecker_pins (b : Bay) (c : Checker) : (s.setChecker b c).pins = s.pins := rfl
@[simp] theorem State.setChecker_intake (b : Bay) (c : Checker) : (s.setChecker b c).intake = s.intake := rfl
@[simp] theorem State.setChecker_store (b : Bay) (c : Checker) : (s.setChecker b c).store = s.store := rfl
@[simp] theorem State.setChecker_feeders (b : Bay) (c : Checker) : (s.setChecker b c).feeders = s.feeders := rfl
@[simp] theorem State.setChecker_pulses (b : Bay) (c : Checker) : (s.setChecker b c).pulses = s.pulses := rfl
@[simp] theorem State.setChecker_filters (b : Bay) (c : Checker) : (s.setChecker b c).filters = s.filters := rfl
@[simp] theorem State.setChecker_gate (b : Bay) (c : Checker) : (s.setChecker b c).gate = s.gate := rfl
@[simp] theorem State.setChecker_tables (b : Bay) (c : Checker) : (s.setChecker b c).tables = s.tables := rfl
@[simp] theorem State.setChecker_flags (b : Bay) (c : Checker) : (s.setChecker b c).flags = s.flags := rfl
@[simp] theorem State.setChecker_panel (b : Bay) (c : Checker) : (s.setChecker b c).panel = s.panel := rfl
@[simp] theorem State.setChecker_routing (b : Bay) (c : Checker) : (s.setChecker b c).routing = s.routing := rfl
@[simp] theorem State.setChecker_power (b : Bay) (c : Checker) : (s.setChecker b c).power = s.power := rfl
@[simp] theorem State.setChecker_monitor (b : Bay) (c : Checker) : (s.setChecker b c).monitor = s.monitor := rfl
@[simp] theorem State.setChecker_stage (b : Bay) (c : Checker) : (s.setChecker b c).stage = s.stage := rfl
@[simp] theorem State.setChecker_audit (b : Bay) (c : Checker) : (s.setChecker b c).audit = s.audit := rfl
@[simp] theorem State.setChecker_snapshot (b : Bay) (c : Checker) : (s.setChecker b c).snapshot = s.snapshot := rfl
@[simp] theorem State.setChecker_links (b : Bay) (c : Checker) : (s.setChecker b c).links = s.links := rfl
@[simp] theorem State.setChecker_key (b : Bay) (c : Checker) : (s.setChecker b c).key = s.key := rfl
@[simp] theorem State.setChecker_reports (b : Bay) (c : Checker) : (s.setChecker b c).reports = s.reports := rfl
@[simp] theorem State.setChecker_late (b : Bay) (c : Checker) : (s.setChecker b c).late = s.late := rfl
@[simp] theorem State.setChecker_choices (b : Bay) (c : Checker) : (s.setChecker b c).choices = s.choices := rfl
@[simp] theorem State.setChecker_pending (b : Bay) (c : Checker) : (s.setChecker b c).pending = s.pending := rfl

/-! ### `setChute` -/

@[simp] theorem State.setChute_pins (c : Chute) (r : ChuteRecord) : (s.setChute c r).pins = s.pins := rfl
@[simp] theorem State.setChute_store (c : Chute) (r : ChuteRecord) : (s.setChute c r).store = s.store := rfl
@[simp] theorem State.setChute_feeders (c : Chute) (r : ChuteRecord) : (s.setChute c r).feeders = s.feeders := rfl
@[simp] theorem State.setChute_pulses (c : Chute) (r : ChuteRecord) : (s.setChute c r).pulses = s.pulses := rfl
@[simp] theorem State.setChute_filters (c : Chute) (r : ChuteRecord) : (s.setChute c r).filters = s.filters := rfl
@[simp] theorem State.setChute_gate (c : Chute) (r : ChuteRecord) : (s.setChute c r).gate = s.gate := rfl
@[simp] theorem State.setChute_tables (c : Chute) (r : ChuteRecord) : (s.setChute c r).tables = s.tables := rfl
@[simp] theorem State.setChute_flags (c : Chute) (r : ChuteRecord) : (s.setChute c r).flags = s.flags := rfl
@[simp] theorem State.setChute_panel (c : Chute) (r : ChuteRecord) : (s.setChute c r).panel = s.panel := rfl
@[simp] theorem State.setChute_routing (c : Chute) (r : ChuteRecord) : (s.setChute c r).routing = s.routing := rfl
@[simp] theorem State.setChute_power (c : Chute) (r : ChuteRecord) : (s.setChute c r).power = s.power := rfl
@[simp] theorem State.setChute_checkers (c : Chute) (r : ChuteRecord) : (s.setChute c r).checkers = s.checkers := rfl
@[simp] theorem State.setChute_monitor (c : Chute) (r : ChuteRecord) : (s.setChute c r).monitor = s.monitor := rfl
@[simp] theorem State.setChute_stage (c : Chute) (r : ChuteRecord) : (s.setChute c r).stage = s.stage := rfl
@[simp] theorem State.setChute_audit (c : Chute) (r : ChuteRecord) : (s.setChute c r).audit = s.audit := rfl
@[simp] theorem State.setChute_snapshot (c : Chute) (r : ChuteRecord) : (s.setChute c r).snapshot = s.snapshot := rfl
@[simp] theorem State.setChute_links (c : Chute) (r : ChuteRecord) : (s.setChute c r).links = s.links := rfl
@[simp] theorem State.setChute_key (c : Chute) (r : ChuteRecord) : (s.setChute c r).key = s.key := rfl
@[simp] theorem State.setChute_reports (c : Chute) (r : ChuteRecord) : (s.setChute c r).reports = s.reports := rfl
@[simp] theorem State.setChute_late (c : Chute) (r : ChuteRecord) : (s.setChute c r).late = s.late := rfl
@[simp] theorem State.setChute_choices (c : Chute) (r : ChuteRecord) : (s.setChute c r).choices = s.choices := rfl
@[simp] theorem State.setChute_pending (c : Chute) (r : ChuteRecord) : (s.setChute c r).pending = s.pending := rfl

/-! ### `setPulse` -/

@[simp] theorem State.setPulse_pins (u : PulseId) (p : Option Pulse) : (s.setPulse u p).pins = s.pins := by cases u <;> rfl
@[simp] theorem State.setPulse_intake (u : PulseId) (p : Option Pulse) : (s.setPulse u p).intake = s.intake := by cases u <;> rfl
@[simp] theorem State.setPulse_store (u : PulseId) (p : Option Pulse) : (s.setPulse u p).store = s.store := by cases u <;> rfl
@[simp] theorem State.setPulse_feeders (u : PulseId) (p : Option Pulse) : (s.setPulse u p).feeders = s.feeders := by cases u <;> rfl
@[simp] theorem State.setPulse_filters (u : PulseId) (p : Option Pulse) : (s.setPulse u p).filters = s.filters := by cases u <;> rfl
@[simp] theorem State.setPulse_gate (u : PulseId) (p : Option Pulse) : (s.setPulse u p).gate = s.gate := by cases u <;> rfl
@[simp] theorem State.setPulse_tables (u : PulseId) (p : Option Pulse) : (s.setPulse u p).tables = s.tables := by cases u <;> rfl
@[simp] theorem State.setPulse_flags (u : PulseId) (p : Option Pulse) : (s.setPulse u p).flags = s.flags := by cases u <;> rfl
@[simp] theorem State.setPulse_panel (u : PulseId) (p : Option Pulse) : (s.setPulse u p).panel = s.panel := by cases u <;> rfl
@[simp] theorem State.setPulse_routing (u : PulseId) (p : Option Pulse) : (s.setPulse u p).routing = s.routing := by cases u <;> rfl
@[simp] theorem State.setPulse_power (u : PulseId) (p : Option Pulse) : (s.setPulse u p).power = s.power := by cases u <;> rfl
@[simp] theorem State.setPulse_checkers (u : PulseId) (p : Option Pulse) : (s.setPulse u p).checkers = s.checkers := by cases u <;> rfl
@[simp] theorem State.setPulse_monitor (u : PulseId) (p : Option Pulse) : (s.setPulse u p).monitor = s.monitor := by cases u <;> rfl
@[simp] theorem State.setPulse_stage (u : PulseId) (p : Option Pulse) : (s.setPulse u p).stage = s.stage := by cases u <;> rfl
@[simp] theorem State.setPulse_audit (u : PulseId) (p : Option Pulse) : (s.setPulse u p).audit = s.audit := by cases u <;> rfl
@[simp] theorem State.setPulse_snapshot (u : PulseId) (p : Option Pulse) : (s.setPulse u p).snapshot = s.snapshot := by cases u <;> rfl
@[simp] theorem State.setPulse_links (u : PulseId) (p : Option Pulse) : (s.setPulse u p).links = s.links := by cases u <;> rfl
@[simp] theorem State.setPulse_key (u : PulseId) (p : Option Pulse) : (s.setPulse u p).key = s.key := by cases u <;> rfl
@[simp] theorem State.setPulse_reports (u : PulseId) (p : Option Pulse) : (s.setPulse u p).reports = s.reports := by cases u <;> rfl
@[simp] theorem State.setPulse_late (u : PulseId) (p : Option Pulse) : (s.setPulse u p).late = s.late := by cases u <;> rfl
@[simp] theorem State.setPulse_choices (u : PulseId) (p : Option Pulse) : (s.setPulse u p).choices = s.choices := by cases u <;> rfl
@[simp] theorem State.setPulse_pending (u : PulseId) (p : Option Pulse) : (s.setPulse u p).pending = s.pending := by cases u <;> rfl

/-! ### `setFilter` -/

@[simp] theorem State.setFilter_pins (b : Bay) (m : CoinLine) (f : EchoFilter) : (s.setFilter b m f).pins = s.pins := by cases m <;> rfl
@[simp] theorem State.setFilter_intake (b : Bay) (m : CoinLine) (f : EchoFilter) : (s.setFilter b m f).intake = s.intake := by cases m <;> rfl
@[simp] theorem State.setFilter_store (b : Bay) (m : CoinLine) (f : EchoFilter) : (s.setFilter b m f).store = s.store := by cases m <;> rfl
@[simp] theorem State.setFilter_feeders (b : Bay) (m : CoinLine) (f : EchoFilter) : (s.setFilter b m f).feeders = s.feeders := by cases m <;> rfl
@[simp] theorem State.setFilter_pulses (b : Bay) (m : CoinLine) (f : EchoFilter) : (s.setFilter b m f).pulses = s.pulses := by cases m <;> rfl
@[simp] theorem State.setFilter_gate (b : Bay) (m : CoinLine) (f : EchoFilter) : (s.setFilter b m f).gate = s.gate := by cases m <;> rfl
@[simp] theorem State.setFilter_tables (b : Bay) (m : CoinLine) (f : EchoFilter) : (s.setFilter b m f).tables = s.tables := by cases m <;> rfl
@[simp] theorem State.setFilter_flags (b : Bay) (m : CoinLine) (f : EchoFilter) : (s.setFilter b m f).flags = s.flags := by cases m <;> rfl
@[simp] theorem State.setFilter_panel (b : Bay) (m : CoinLine) (f : EchoFilter) : (s.setFilter b m f).panel = s.panel := by cases m <;> rfl
@[simp] theorem State.setFilter_routing (b : Bay) (m : CoinLine) (f : EchoFilter) : (s.setFilter b m f).routing = s.routing := by cases m <;> rfl
@[simp] theorem State.setFilter_power (b : Bay) (m : CoinLine) (f : EchoFilter) : (s.setFilter b m f).power = s.power := by cases m <;> rfl
@[simp] theorem State.setFilter_checkers (b : Bay) (m : CoinLine) (f : EchoFilter) : (s.setFilter b m f).checkers = s.checkers := by cases m <;> rfl
@[simp] theorem State.setFilter_monitor (b : Bay) (m : CoinLine) (f : EchoFilter) : (s.setFilter b m f).monitor = s.monitor := by cases m <;> rfl
@[simp] theorem State.setFilter_stage (b : Bay) (m : CoinLine) (f : EchoFilter) : (s.setFilter b m f).stage = s.stage := by cases m <;> rfl
@[simp] theorem State.setFilter_audit (b : Bay) (m : CoinLine) (f : EchoFilter) : (s.setFilter b m f).audit = s.audit := by cases m <;> rfl
@[simp] theorem State.setFilter_snapshot (b : Bay) (m : CoinLine) (f : EchoFilter) : (s.setFilter b m f).snapshot = s.snapshot := by cases m <;> rfl
@[simp] theorem State.setFilter_links (b : Bay) (m : CoinLine) (f : EchoFilter) : (s.setFilter b m f).links = s.links := by cases m <;> rfl
@[simp] theorem State.setFilter_key (b : Bay) (m : CoinLine) (f : EchoFilter) : (s.setFilter b m f).key = s.key := by cases m <;> rfl
@[simp] theorem State.setFilter_reports (b : Bay) (m : CoinLine) (f : EchoFilter) : (s.setFilter b m f).reports = s.reports := by cases m <;> rfl
@[simp] theorem State.setFilter_late (b : Bay) (m : CoinLine) (f : EchoFilter) : (s.setFilter b m f).late = s.late := by cases m <;> rfl
@[simp] theorem State.setFilter_choices (b : Bay) (m : CoinLine) (f : EchoFilter) : (s.setFilter b m f).choices = s.choices := by cases m <;> rfl
@[simp] theorem State.setFilter_pending (b : Bay) (m : CoinLine) (f : EchoFilter) : (s.setFilter b m f).pending = s.pending := by cases m <;> rfl

/-! ### `report` -/

@[simp] theorem State.report_pins (r : Report) : (s.report r).pins = s.pins := rfl
@[simp] theorem State.report_intake (r : Report) : (s.report r).intake = s.intake := rfl
@[simp] theorem State.report_store (r : Report) : (s.report r).store = s.store := rfl
@[simp] theorem State.report_feeders (r : Report) : (s.report r).feeders = s.feeders := rfl
@[simp] theorem State.report_pulses (r : Report) : (s.report r).pulses = s.pulses := rfl
@[simp] theorem State.report_filters (r : Report) : (s.report r).filters = s.filters := rfl
@[simp] theorem State.report_gate (r : Report) : (s.report r).gate = s.gate := rfl
@[simp] theorem State.report_tables (r : Report) : (s.report r).tables = s.tables := rfl
@[simp] theorem State.report_flags (r : Report) : (s.report r).flags = s.flags := rfl
@[simp] theorem State.report_panel (r : Report) : (s.report r).panel = s.panel := rfl
@[simp] theorem State.report_routing (r : Report) : (s.report r).routing = s.routing := rfl
@[simp] theorem State.report_power (r : Report) : (s.report r).power = s.power := rfl
@[simp] theorem State.report_checkers (r : Report) : (s.report r).checkers = s.checkers := rfl
@[simp] theorem State.report_monitor (r : Report) : (s.report r).monitor = s.monitor := rfl
@[simp] theorem State.report_stage (r : Report) : (s.report r).stage = s.stage := rfl
@[simp] theorem State.report_audit (r : Report) : (s.report r).audit = s.audit := rfl
@[simp] theorem State.report_snapshot (r : Report) : (s.report r).snapshot = s.snapshot := rfl
@[simp] theorem State.report_links (r : Report) : (s.report r).links = s.links := rfl
@[simp] theorem State.report_key (r : Report) : (s.report r).key = s.key := rfl
@[simp] theorem State.report_choices (r : Report) : (s.report r).choices = s.choices := rfl
@[simp] theorem State.report_pending (r : Report) : (s.report r).pending = s.pending := rfl

/-! ### `bump` -/

@[simp] theorem State.bump_pins (i : CounterIx) (k : Nat) : (s.bump i k).pins = s.pins := rfl
@[simp] theorem State.bump_intake (i : CounterIx) (k : Nat) : (s.bump i k).intake = s.intake := rfl
@[simp] theorem State.bump_store (i : CounterIx) (k : Nat) : (s.bump i k).store = s.store := rfl
@[simp] theorem State.bump_feeders (i : CounterIx) (k : Nat) : (s.bump i k).feeders = s.feeders := rfl
@[simp] theorem State.bump_pulses (i : CounterIx) (k : Nat) : (s.bump i k).pulses = s.pulses := rfl
@[simp] theorem State.bump_filters (i : CounterIx) (k : Nat) : (s.bump i k).filters = s.filters := rfl
@[simp] theorem State.bump_gate (i : CounterIx) (k : Nat) : (s.bump i k).gate = s.gate := rfl
@[simp] theorem State.bump_tables (i : CounterIx) (k : Nat) : (s.bump i k).tables = s.tables := rfl
@[simp] theorem State.bump_flags (i : CounterIx) (k : Nat) : (s.bump i k).flags = s.flags := rfl
@[simp] theorem State.bump_panel (i : CounterIx) (k : Nat) : (s.bump i k).panel = s.panel := rfl
@[simp] theorem State.bump_routing (i : CounterIx) (k : Nat) : (s.bump i k).routing = s.routing := rfl
@[simp] theorem State.bump_power (i : CounterIx) (k : Nat) : (s.bump i k).power = s.power := rfl
@[simp] theorem State.bump_checkers (i : CounterIx) (k : Nat) : (s.bump i k).checkers = s.checkers := rfl
@[simp] theorem State.bump_monitor (i : CounterIx) (k : Nat) : (s.bump i k).monitor = s.monitor := rfl
@[simp] theorem State.bump_stage (i : CounterIx) (k : Nat) : (s.bump i k).stage = s.stage := rfl
@[simp] theorem State.bump_snapshot (i : CounterIx) (k : Nat) : (s.bump i k).snapshot = s.snapshot := rfl
@[simp] theorem State.bump_links (i : CounterIx) (k : Nat) : (s.bump i k).links = s.links := rfl
@[simp] theorem State.bump_key (i : CounterIx) (k : Nat) : (s.bump i k).key = s.key := rfl
@[simp] theorem State.bump_reports (i : CounterIx) (k : Nat) : (s.bump i k).reports = s.reports := rfl
@[simp] theorem State.bump_late (i : CounterIx) (k : Nat) : (s.bump i k).late = s.late := rfl
@[simp] theorem State.bump_choices (i : CounterIx) (k : Nat) : (s.bump i k).choices = s.choices := rfl
@[simp] theorem State.bump_pending (i : CounterIx) (k : Nat) : (s.bump i k).pending = s.pending := rfl

/-! ### `followCoils` -/

@[simp] theorem State.followCoils_pins : (s.followCoils).pins = s.pins := rfl
@[simp] theorem State.followCoils_store : (s.followCoils).store = s.store := rfl
@[simp] theorem State.followCoils_feeders : (s.followCoils).feeders = s.feeders := rfl
@[simp] theorem State.followCoils_pulses : (s.followCoils).pulses = s.pulses := rfl
@[simp] theorem State.followCoils_filters : (s.followCoils).filters = s.filters := rfl
@[simp] theorem State.followCoils_gate : (s.followCoils).gate = s.gate := rfl
@[simp] theorem State.followCoils_tables : (s.followCoils).tables = s.tables := rfl
@[simp] theorem State.followCoils_flags : (s.followCoils).flags = s.flags := rfl
@[simp] theorem State.followCoils_panel : (s.followCoils).panel = s.panel := rfl
@[simp] theorem State.followCoils_routing : (s.followCoils).routing = s.routing := rfl
@[simp] theorem State.followCoils_power : (s.followCoils).power = s.power := rfl
@[simp] theorem State.followCoils_checkers : (s.followCoils).checkers = s.checkers := rfl
@[simp] theorem State.followCoils_monitor : (s.followCoils).monitor = s.monitor := rfl
@[simp] theorem State.followCoils_stage : (s.followCoils).stage = s.stage := rfl
@[simp] theorem State.followCoils_audit : (s.followCoils).audit = s.audit := rfl
@[simp] theorem State.followCoils_snapshot : (s.followCoils).snapshot = s.snapshot := rfl
@[simp] theorem State.followCoils_links : (s.followCoils).links = s.links := rfl
@[simp] theorem State.followCoils_key : (s.followCoils).key = s.key := rfl
@[simp] theorem State.followCoils_reports : (s.followCoils).reports = s.reports := rfl
@[simp] theorem State.followCoils_late : (s.followCoils).late = s.late := rfl
@[simp] theorem State.followCoils_choices : (s.followCoils).choices = s.choices := rfl
@[simp] theorem State.followCoils_pending : (s.followCoils).pending = s.pending := rfl

/-! ### `notifyIntake` -/

@[simp] theorem State.notifyIntake_pins (e : IntakeEvent) (c : Option Chute) : (s.notifyIntake e c).pins = s.pins := rfl
@[simp] theorem State.notifyIntake_intake (e : IntakeEvent) (c : Option Chute) : (s.notifyIntake e c).intake = s.intake := rfl
@[simp] theorem State.notifyIntake_store (e : IntakeEvent) (c : Option Chute) : (s.notifyIntake e c).store = s.store := rfl
@[simp] theorem State.notifyIntake_feeders (e : IntakeEvent) (c : Option Chute) : (s.notifyIntake e c).feeders = s.feeders := rfl
@[simp] theorem State.notifyIntake_pulses (e : IntakeEvent) (c : Option Chute) : (s.notifyIntake e c).pulses = s.pulses := rfl
@[simp] theorem State.notifyIntake_filters (e : IntakeEvent) (c : Option Chute) : (s.notifyIntake e c).filters = s.filters := rfl
@[simp] theorem State.notifyIntake_gate (e : IntakeEvent) (c : Option Chute) : (s.notifyIntake e c).gate = s.gate := rfl
@[simp] theorem State.notifyIntake_tables (e : IntakeEvent) (c : Option Chute) : (s.notifyIntake e c).tables = s.tables := rfl
@[simp] theorem State.notifyIntake_flags (e : IntakeEvent) (c : Option Chute) : (s.notifyIntake e c).flags = s.flags := rfl
@[simp] theorem State.notifyIntake_panel (e : IntakeEvent) (c : Option Chute) : (s.notifyIntake e c).panel = s.panel := rfl
@[simp] theorem State.notifyIntake_routing (e : IntakeEvent) (c : Option Chute) : (s.notifyIntake e c).routing = s.routing := rfl
@[simp] theorem State.notifyIntake_power (e : IntakeEvent) (c : Option Chute) : (s.notifyIntake e c).power = s.power := rfl
@[simp] theorem State.notifyIntake_checkers (e : IntakeEvent) (c : Option Chute) : (s.notifyIntake e c).checkers = s.checkers := rfl
@[simp] theorem State.notifyIntake_monitor (e : IntakeEvent) (c : Option Chute) : (s.notifyIntake e c).monitor = s.monitor := rfl
@[simp] theorem State.notifyIntake_stage (e : IntakeEvent) (c : Option Chute) : (s.notifyIntake e c).stage = s.stage := rfl
@[simp] theorem State.notifyIntake_audit (e : IntakeEvent) (c : Option Chute) : (s.notifyIntake e c).audit = s.audit := rfl
@[simp] theorem State.notifyIntake_snapshot (e : IntakeEvent) (c : Option Chute) : (s.notifyIntake e c).snapshot = s.snapshot := rfl
@[simp] theorem State.notifyIntake_key (e : IntakeEvent) (c : Option Chute) : (s.notifyIntake e c).key = s.key := rfl
@[simp] theorem State.notifyIntake_reports (e : IntakeEvent) (c : Option Chute) : (s.notifyIntake e c).reports = s.reports := rfl
@[simp] theorem State.notifyIntake_late (e : IntakeEvent) (c : Option Chute) : (s.notifyIntake e c).late = s.late := rfl
@[simp] theorem State.notifyIntake_choices (e : IntakeEvent) (c : Option Chute) : (s.notifyIntake e c).choices = s.choices := rfl
@[simp] theorem State.notifyIntake_pending (e : IntakeEvent) (c : Option Chute) : (s.notifyIntake e c).pending = s.pending := rfl

/-! ### `settleClosure` -/

@[simp] theorem State.settleClosure_links : (s.settleClosure).links = s.links := rfl
@[simp] theorem State.settleClosure_pins : (s.settleClosure).pins = s.pins := rfl
@[simp] theorem State.settleClosure_store : (s.settleClosure).store = s.store := rfl
@[simp] theorem State.settleClosure_feeders : (s.settleClosure).feeders = s.feeders := rfl
@[simp] theorem State.settleClosure_pulses : (s.settleClosure).pulses = s.pulses := rfl
@[simp] theorem State.settleClosure_filters : (s.settleClosure).filters = s.filters := rfl
@[simp] theorem State.settleClosure_gate : (s.settleClosure).gate = s.gate := rfl
@[simp] theorem State.settleClosure_tables : (s.settleClosure).tables = s.tables := rfl
@[simp] theorem State.settleClosure_flags : (s.settleClosure).flags = s.flags := rfl
@[simp] theorem State.settleClosure_panel : (s.settleClosure).panel = s.panel := rfl
@[simp] theorem State.settleClosure_routing : (s.settleClosure).routing = s.routing := rfl
@[simp] theorem State.settleClosure_power : (s.settleClosure).power = s.power := rfl
@[simp] theorem State.settleClosure_checkers : (s.settleClosure).checkers = s.checkers := rfl
@[simp] theorem State.settleClosure_monitor : (s.settleClosure).monitor = s.monitor := rfl
@[simp] theorem State.settleClosure_stage : (s.settleClosure).stage = s.stage := rfl
@[simp] theorem State.settleClosure_audit : (s.settleClosure).audit = s.audit := rfl
@[simp] theorem State.settleClosure_snapshot : (s.settleClosure).snapshot = s.snapshot := rfl
@[simp] theorem State.settleClosure_key : (s.settleClosure).key = s.key := rfl
@[simp] theorem State.settleClosure_reports : (s.settleClosure).reports = s.reports := rfl
@[simp] theorem State.settleClosure_late : (s.settleClosure).late = s.late := rfl
@[simp] theorem State.settleClosure_choices : (s.settleClosure).choices = s.choices := rfl
@[simp] theorem State.settleClosure_pending : (s.settleClosure).pending = s.pending := rfl

/-! ### `tellClosure` -/

@[simp] theorem State.tellClosure_intake (was : Bool) : (s.tellClosure was).intake = s.intake := by unfold State.tellClosure; split <;> rfl
@[simp] theorem State.tellClosure_pins (was : Bool) : (s.tellClosure was).pins = s.pins := by unfold State.tellClosure; split <;> rfl
@[simp] theorem State.tellClosure_store (was : Bool) : (s.tellClosure was).store = s.store := by unfold State.tellClosure; split <;> rfl
@[simp] theorem State.tellClosure_feeders (was : Bool) : (s.tellClosure was).feeders = s.feeders := by unfold State.tellClosure; split <;> rfl
@[simp] theorem State.tellClosure_pulses (was : Bool) : (s.tellClosure was).pulses = s.pulses := by unfold State.tellClosure; split <;> rfl
@[simp] theorem State.tellClosure_filters (was : Bool) : (s.tellClosure was).filters = s.filters := by unfold State.tellClosure; split <;> rfl
@[simp] theorem State.tellClosure_gate (was : Bool) : (s.tellClosure was).gate = s.gate := by unfold State.tellClosure; split <;> rfl
@[simp] theorem State.tellClosure_tables (was : Bool) : (s.tellClosure was).tables = s.tables := by unfold State.tellClosure; split <;> rfl
@[simp] theorem State.tellClosure_flags (was : Bool) : (s.tellClosure was).flags = s.flags := by unfold State.tellClosure; split <;> rfl
@[simp] theorem State.tellClosure_panel (was : Bool) : (s.tellClosure was).panel = s.panel := by unfold State.tellClosure; split <;> rfl
@[simp] theorem State.tellClosure_routing (was : Bool) : (s.tellClosure was).routing = s.routing := by unfold State.tellClosure; split <;> rfl
@[simp] theorem State.tellClosure_power (was : Bool) : (s.tellClosure was).power = s.power := by unfold State.tellClosure; split <;> rfl
@[simp] theorem State.tellClosure_checkers (was : Bool) : (s.tellClosure was).checkers = s.checkers := by unfold State.tellClosure; split <;> rfl
@[simp] theorem State.tellClosure_monitor (was : Bool) : (s.tellClosure was).monitor = s.monitor := by unfold State.tellClosure; split <;> rfl
@[simp] theorem State.tellClosure_stage (was : Bool) : (s.tellClosure was).stage = s.stage := by unfold State.tellClosure; split <;> rfl
@[simp] theorem State.tellClosure_audit (was : Bool) : (s.tellClosure was).audit = s.audit := by unfold State.tellClosure; split <;> rfl
@[simp] theorem State.tellClosure_snapshot (was : Bool) : (s.tellClosure was).snapshot = s.snapshot := by unfold State.tellClosure; split <;> rfl
@[simp] theorem State.tellClosure_key (was : Bool) : (s.tellClosure was).key = s.key := by unfold State.tellClosure; split <;> rfl
@[simp] theorem State.tellClosure_reports (was : Bool) : (s.tellClosure was).reports = s.reports := by unfold State.tellClosure; split <;> rfl
@[simp] theorem State.tellClosure_late (was : Bool) : (s.tellClosure was).late = s.late := by unfold State.tellClosure; split <;> rfl
@[simp] theorem State.tellClosure_choices (was : Bool) : (s.tellClosure was).choices = s.choices := by unfold State.tellClosure; split <;> rfl
@[simp] theorem State.tellClosure_pending (was : Bool) : (s.tellClosure was).pending = s.pending := by unfold State.tellClosure; split <;> rfl

/-! ### `evalClosure` -/

@[simp] theorem State.evalClosure_pins : (s.evalClosure).pins = s.pins := by simp [State.evalClosure]
@[simp] theorem State.evalClosure_store : (s.evalClosure).store = s.store := by simp [State.evalClosure]
@[simp] theorem State.evalClosure_feeders : (s.evalClosure).feeders = s.feeders := by simp [State.evalClosure]
@[simp] theorem State.evalClosure_pulses : (s.evalClosure).pulses = s.pulses := by simp [State.evalClosure]
@[simp] theorem State.evalClosure_filters : (s.evalClosure).filters = s.filters := by simp [State.evalClosure]
@[simp] theorem State.evalClosure_gate : (s.evalClosure).gate = s.gate := by simp [State.evalClosure]
@[simp] theorem State.evalClosure_tables : (s.evalClosure).tables = s.tables := by simp [State.evalClosure]
@[simp] theorem State.evalClosure_flags : (s.evalClosure).flags = s.flags := by simp [State.evalClosure]
@[simp] theorem State.evalClosure_panel : (s.evalClosure).panel = s.panel := by simp [State.evalClosure]
@[simp] theorem State.evalClosure_routing : (s.evalClosure).routing = s.routing := by simp [State.evalClosure]
@[simp] theorem State.evalClosure_power : (s.evalClosure).power = s.power := by simp [State.evalClosure]
@[simp] theorem State.evalClosure_checkers : (s.evalClosure).checkers = s.checkers := by simp [State.evalClosure]
@[simp] theorem State.evalClosure_monitor : (s.evalClosure).monitor = s.monitor := by simp [State.evalClosure]
@[simp] theorem State.evalClosure_stage : (s.evalClosure).stage = s.stage := by simp [State.evalClosure]
@[simp] theorem State.evalClosure_audit : (s.evalClosure).audit = s.audit := by simp [State.evalClosure]
@[simp] theorem State.evalClosure_snapshot : (s.evalClosure).snapshot = s.snapshot := by simp [State.evalClosure]
@[simp] theorem State.evalClosure_key : (s.evalClosure).key = s.key := by simp [State.evalClosure]
@[simp] theorem State.evalClosure_reports : (s.evalClosure).reports = s.reports := by simp [State.evalClosure]
@[simp] theorem State.evalClosure_late : (s.evalClosure).late = s.late := by simp [State.evalClosure]
@[simp] theorem State.evalClosure_choices : (s.evalClosure).choices = s.choices := by simp [State.evalClosure]
@[simp] theorem State.evalClosure_pending : (s.evalClosure).pending = s.pending := by simp [State.evalClosure]
@[simp] theorem State.evalClosure_intake : (s.evalClosure).intake = s.settleClosure.intake := by simp [State.evalClosure]

/-! ### `storeChanged` -/

@[simp] theorem State.storeChanged_pins (c : PoolCause) (n : Nat) (b : Option Bay) : (s.storeChanged c n b).pins = s.pins := by unfold State.storeChanged; simp
@[simp] theorem State.storeChanged_store (c : PoolCause) (n : Nat) (b : Option Bay) : (s.storeChanged c n b).store = s.store := by unfold State.storeChanged; simp
@[simp] theorem State.storeChanged_feeders (c : PoolCause) (n : Nat) (b : Option Bay) : (s.storeChanged c n b).feeders = s.feeders := by unfold State.storeChanged; simp
@[simp] theorem State.storeChanged_pulses (c : PoolCause) (n : Nat) (b : Option Bay) : (s.storeChanged c n b).pulses = s.pulses := by unfold State.storeChanged; simp
@[simp] theorem State.storeChanged_filters (c : PoolCause) (n : Nat) (b : Option Bay) : (s.storeChanged c n b).filters = s.filters := by unfold State.storeChanged; simp
@[simp] theorem State.storeChanged_gate (c : PoolCause) (n : Nat) (b : Option Bay) : (s.storeChanged c n b).gate = s.gate := by unfold State.storeChanged; simp
@[simp] theorem State.storeChanged_tables (c : PoolCause) (n : Nat) (b : Option Bay) : (s.storeChanged c n b).tables = s.tables := by unfold State.storeChanged; simp
@[simp] theorem State.storeChanged_flags (c : PoolCause) (n : Nat) (b : Option Bay) : (s.storeChanged c n b).flags = s.flags := by unfold State.storeChanged; simp
@[simp] theorem State.storeChanged_panel (c : PoolCause) (n : Nat) (b : Option Bay) : (s.storeChanged c n b).panel = s.panel := by unfold State.storeChanged; simp
@[simp] theorem State.storeChanged_routing (c : PoolCause) (n : Nat) (b : Option Bay) : (s.storeChanged c n b).routing = s.routing := by unfold State.storeChanged; simp
@[simp] theorem State.storeChanged_power (c : PoolCause) (n : Nat) (b : Option Bay) : (s.storeChanged c n b).power = s.power := by unfold State.storeChanged; simp
@[simp] theorem State.storeChanged_checkers (c : PoolCause) (n : Nat) (b : Option Bay) : (s.storeChanged c n b).checkers = s.checkers := by unfold State.storeChanged; simp
@[simp] theorem State.storeChanged_monitor (c : PoolCause) (n : Nat) (b : Option Bay) : (s.storeChanged c n b).monitor = s.monitor := by unfold State.storeChanged; simp
@[simp] theorem State.storeChanged_stage (c : PoolCause) (n : Nat) (b : Option Bay) : (s.storeChanged c n b).stage = s.stage := by unfold State.storeChanged; simp
@[simp] theorem State.storeChanged_audit (c : PoolCause) (n : Nat) (b : Option Bay) : (s.storeChanged c n b).audit = s.audit := by unfold State.storeChanged; simp
@[simp] theorem State.storeChanged_snapshot (c : PoolCause) (n : Nat) (b : Option Bay) : (s.storeChanged c n b).snapshot = s.snapshot := by unfold State.storeChanged; simp
@[simp] theorem State.storeChanged_key (c : PoolCause) (n : Nat) (b : Option Bay) : (s.storeChanged c n b).key = s.key := by unfold State.storeChanged; simp
@[simp] theorem State.storeChanged_reports (c : PoolCause) (n : Nat) (b : Option Bay) : (s.storeChanged c n b).reports = s.reports := by unfold State.storeChanged; simp
@[simp] theorem State.storeChanged_late (c : PoolCause) (n : Nat) (b : Option Bay) : (s.storeChanged c n b).late = s.late := by unfold State.storeChanged; simp
@[simp] theorem State.storeChanged_choices (c : PoolCause) (n : Nat) (b : Option Bay) : (s.storeChanged c n b).choices = s.choices := by unfold State.storeChanged; simp
@[simp] theorem State.storeChanged_pending (c : PoolCause) (n : Nat) (b : Option Bay) : (s.storeChanged c n b).pending = s.pending := by unfold State.storeChanged; simp

end

end Sys2Proof.Machine
end

