-- ==== Sys2Proof/Laws/Store.lean ====
section
/-! SUPPORT. What each change of the Token Store does to its length and to its sequence numbers (R8 to R12). -/

namespace Sys2Proof.Machine

/-- The sequence numbers of an arrival list. -/
def seqsOf (l : List Token) : List Seq := l.map Token.seq

/-! ## Creation (R9) -/

theorem nextFreeSeq_hit {used : List Seq} {fuel : Nat} {a : Seq} (h : nextFreeSeq used fuel a ∈ used) :
    ∀ k : Nat, k ≤ fuel → a + BitVec.ofNat 16 k ∈ used := by
  induction fuel generalizing a with
  | zero =>
    intro k hk
    obtain rfl : k = 0 := by omega
    simpa [nextFreeSeq] using h
  | succ n ih =>
    rw [nextFreeSeq] at h
    split at h
    · rename_i hc
      intro k hk
      cases k with
      | zero => simpa using hc
      | succ m =>
        have := ih h m (by omega)
        have e : a + 1 + BitVec.ofNat 16 m = a + BitVec.ofNat 16 (m + 1) := by
          apply BitVec.eq_of_toNat_eq
          simp [BitVec.toNat_add]
          omega
        rwa [e] at this
    · rename_i hc
      exact absurd h (by simpa using hc)

theorem nextFreeSeq_fresh (used : List Seq) (a : Seq) (h : used.length ≤ 64) :
    nextFreeSeq used 64 a ∉ used := by
  intro hm
  have hall := nextFreeSeq_hit hm
  have hsub : ((List.range 65).map fun k => a + BitVec.ofNat 16 k) ⊆ used := by
    intro x hx
    obtain ⟨k, hk, rfl⟩ := List.mem_map.1 hx
    exact hall k (by have := List.mem_range.1 hk; omega)
  have hnd : ((List.range 65).map fun k => a + BitVec.ofNat 16 k).Nodup := by
    refine List.Nodup.map_on ?_ List.nodup_range
    intro x hx y hy hxy
    have hx := List.mem_range.1 hx
    have hy := List.mem_range.1 hy
    have := congrArg BitVec.toNat (add_left_cancel hxy)
    simp only [BitVec.toNat_ofNat] at this
    omega
  have := (hnd.subperm hsub).length_le
  simp at this
  omega

theorem TokenStore.createOne_live (t : TokenStore) (o : Origin) (c : Option Chute) :
    (t.createOne o c).live = t.live + 1 := by
  simp [TokenStore.createOne, TokenStore.live]

theorem TokenStore.create_live (t : TokenStore) (o : Origin) (c : Option Chute) (n : Nat) :
    (t.create o c n).live = t.live + n := by
  induction n generalizing t with
  | zero => rfl
  | succ n ih => rw [TokenStore.create, ih, TokenStore.createOne_live]; omega

theorem TokenStore.createOne_nodup (t : TokenStore) (o : Origin) (c : Option Chute)
    (h : (seqsOf t.arrival).Nodup) (hl : t.live ≤ 64) : (seqsOf (t.createOne o c).arrival).Nodup := by
  have hf := nextFreeSeq_fresh (seqsOf t.arrival) t.allocator (by simpa [seqsOf, TokenStore.live] using hl)
  simp only [seqsOf, TokenStore.createOne, Config.storeCapacity] at hf ⊢
  rw [List.map_append, List.nodup_append]
  refine ⟨h, by simp, ?_⟩
  intro x hx y hy hxy
  simp only [List.map_cons, List.map_nil, List.mem_singleton] at hy
  subst hy
  exact hf (hxy ▸ hx)

theorem TokenStore.create_nodup (t : TokenStore) (o : Origin) (c : Option Chute) (n : Nat)
    (h : (seqsOf t.arrival).Nodup) (hl : t.live + n ≤ 64) : (seqsOf (t.create o c n).arrival).Nodup := by
  induction n generalizing t with
  | zero => exact h
  | succ n ih =>
    rw [TokenStore.create]
    exact ih _ (t.createOne_nodup o c h (by omega)) (by rw [TokenStore.createOne_live]; omega)

/-! ## Places (R10, R11, R24) -/

theorem placeFirst_seqs (p : Place) (n : Nat) (l : List Token) : seqsOf (placeFirst p n l) = seqsOf l := by
  induction l generalizing n with
  | nil => cases n <;> rfl
  | cons k rest ih =>
    cases n with
    | zero => rfl
    | succ n =>
      rw [placeFirst]
      split <;> simp only [seqsOf, List.map_cons] at ih ⊢ <;> rw [ih]

theorem TokenStore.giveBack_seqs (t : TokenStore) (b : Bay) (ns : List UnitNo) :
    seqsOf (t.giveBack b ns).arrival = seqsOf t.arrival := by
  simp only [seqsOf, TokenStore.giveBack, List.map_map]
  refine List.map_congr_left fun k _ => ?_
  simp only [Function.comp]
  split <;> rfl

theorem TokenStore.allToPool_seqs (t : TokenStore) : seqsOf t.allToPool.arrival = seqsOf t.arrival := by
  simp [seqsOf, TokenStore.allToPool, Function.comp_def]

theorem live_of_seqs {t u : TokenStore} (h : seqsOf u.arrival = seqsOf t.arrival) : u.live = t.live := by
  simpa [seqsOf, TokenStore.live] using congrArg List.length h

/-! ## Retirement (R12, R23) -/

theorem dropFirst_sublist (n : Nat) (l : List Token) : (dropFirst n l).Sublist l := by
  induction l generalizing n with
  | nil => cases n <;> exact List.Sublist.refl _
  | cons k rest ih =>
    cases n with
    | zero => exact List.Sublist.refl _
    | succ n =>
      rw [dropFirst]
      split
      · exact (ih n).cons k
      · exact (ih (n + 1)).cons_cons k

theorem dropFirst_length (n : Nat) (l : List Token)
    (h : n ≤ (l.filter fun k => decide (k.place = .pool)).length) : (dropFirst n l).length + n = l.length := by
  induction l generalizing n with
  | nil => cases n <;> simp_all [dropFirst]
  | cons k rest ih =>
    cases n with
    | zero => rfl
    | succ n =>
      rw [dropFirst]
      by_cases hk : k.place = .pool
      · simp only [hk, decide_true, List.filter_cons_of_pos, List.length_cons] at h ⊢
        rw [if_pos trivial]
        have := ih n (by omega)
        omega
      · rw [List.filter_cons_of_neg (by simpa using hk)] at h
        rw [if_neg hk]
        have := ih (n + 1) h
        simp only [List.length_cons]
        omega

theorem TokenStore.retire_sublist (t : TokenStore) (b : Bay) (n : UnitNo) :
    (t.retire b n).arrival.Sublist t.arrival := List.filter_sublist

theorem TokenStore.retire_live_le (t : TokenStore) (b : Bay) (n : UnitNo) : (t.retire b n).live ≤ t.live :=
  (t.retire_sublist b n).length_le

/-- Retiring a unit takes exactly its tokens out of the arrival list (R12). -/
theorem TokenStore.mem_retire (t : TokenStore) (b : Bay) (n : UnitNo) (k : Token) :
    k ∈ (t.retire b n).arrival ↔ k ∈ t.arrival ∧ k.place ≠ .feeder b n := by
  simp [TokenStore.retire]

end Sys2Proof.Machine
end

