-- ==== Sys2Proof/Laws/Moves.lean ====
section
/-! SUPPORT. What every shared operation keeps, said once for each: the queue of commands, tables under a FIXED lock,
counters that only grow, the token balance, the store's form and the blank picture of a settling monitor. -/

namespace Sys2Proof.Machine

/-- What no event short of a part reset can undo between two states. -/
structure Moves (s t : State) : Prop where
  queue : t.pending = s.pending
  fixed : s.tables.lock = .fixed → t.tables = s.tables
  bounded : s.Bounded → t.Bounded
  grows : s.Bounded → ∀ i, s.counter i ≤ t.counter i
  full : s.audit.full = true → t.audit.full = true
  balance : s.Bounded → s.Balanced → t.Balanced
  store : s.StoreOk → t.StoreOk
  blank : s.SettlesBlank → t.SettlesBlank

theorem Moves.refl (s : State) : Moves s s :=
  ⟨rfl, fun _ => rfl, id, fun _ _ => le_refl _, id, fun _ => id, id, id⟩

theorem Moves.trans {s t u : State} (h : Moves s t) (g : Moves t u) : Moves s u where
  queue := g.queue.trans h.queue
  fixed hl := (g.fixed (by rw [h.fixed hl]; exact hl)).trans (h.fixed hl)
  bounded hb := g.bounded (h.bounded hb)
  grows hb i := (h.grows hb i).trans (g.grows (h.bounded hb) i)
  full hf := g.full (h.full hf)
  balance hb ha := g.balance (h.bounded hb) (h.balance hb ha)
  store hs := g.store (h.store hs)
  blank hk := g.blank (h.blank hk)

/-! ## Primitive moves -/

/-- A change of anything but the queue, the tables, the counters, the store and the Crosspoint. -/
theorem Moves.quiet {s t : State} (hp : t.pending = s.pending) (ht : t.tables = s.tables) (ha : t.audit = s.audit)
    (hs : t.store = s.store) (hm : t.monitor = s.monitor) : Moves s t where
  queue := hp
  fixed _ := ht
  bounded h := by intro i; simpa [State.counter, ha] using h i
  grows _ i := by simp [State.counter, ha]
  full h := by rw [ha]; exact h
  balance _ h := by simpa [State.Balanced, State.counter, ha, hs] using h
  store h := by simpa [State.StoreOk, hs] using h
  blank h := by simpa [State.SettlesBlank, hm] using h

/-- A change of the tables when the lock is not FIXED. -/
theorem Moves.tables {s : State} (x : Tables) (h : s.tables.lock ≠ .fixed) : Moves s (s.setTables x) where
  queue := rfl
  fixed hl := absurd hl h
  bounded := id
  grows _ _ := le_refl _
  full := id
  balance _ := id
  store := id
  blank := id

/-- A change of the Crosspoint that keeps a settling monitor blank. -/
theorem Moves.monitor {s : State} (x : Crosspoint)
    (h : s.SettlesBlank → x.settle.isSome = true → x.source = .blank) : Moves s (s.setMonitor x) where
  queue := rfl
  fixed _ := rfl
  bounded := id
  grows _ _ := le_refl _
  full := id
  balance _ := id
  store := id
  blank := h

/-- A change of places in the store: the same tokens in the same order. -/
theorem Moves.places {s : State} (x : TokenStore) (h : seqsOf x.arrival = seqsOf s.store.arrival) :
    Moves s (s.setStore x) where
  queue := rfl
  fixed _ := rfl
  bounded := id
  grows _ _ := le_refl _
  full := id
  balance _ hb := by
    have := live_of_seqs h
    simpa [State.Balanced, State.counter, this] using hb
  store hs := by
    have := live_of_seqs h
    unfold seqsOf at h
    simpa [State.StoreOk, this, h] using hs
  blank := id

theorem Audit.advance_self (a : Audit) (i : CounterIx) (k : Nat) :
    (a.advance i k).counters[i] = min Config.counterMax (a.counters[i] + k) := by
  simp [Audit.advance]

theorem Audit.advance_other (a : Audit) {i j : CounterIx} (k : Nat) (h : j ≠ i) :
    (a.advance i k).counters[j] = a.counters[j] := by
  have : i.val ≠ j.val := fun e => h (Fin.ext e.symm)
  simp [Audit.advance, this]

theorem State.bump_counter_self (s : State) (i : CounterIx) (k : Nat) :
    (s.bump i k).counter i = min Config.counterMax (s.counter i + k) := s.audit.advance_self i k

theorem State.bump_counter_other (s : State) {i j : CounterIx} (k : Nat) (h : j ≠ i) :
    (s.bump i k).counter j = s.counter j := s.audit.advance_other k h

theorem State.bump_bounded {s : State} (i : CounterIx) (k : Nat) (h : s.Bounded) : (s.bump i k).Bounded := by
  intro j
  by_cases e : j = i
  · subst e; rw [s.bump_counter_self]; exact min_le_left _ _
  · rw [s.bump_counter_other k e]; exact h j

theorem State.bump_grows {s : State} (i : CounterIx) (k : Nat) (h : s.Bounded) (j : CounterIx) :
    s.counter j ≤ (s.bump i k).counter j := by
  by_cases e : j = i
  · subst e; rw [s.bump_counter_self]; have := h j; omega
  · rw [s.bump_counter_other k e]

theorem State.bump_full {s : State} (i : CounterIx) (k : Nat) (h : s.audit.full = true) :
    (s.bump i k).audit.full = true := by
  simp [State.bump, State.setAudit, Audit.advance, h]

/-- A counter outside the four of R176 advanced. -/
theorem Moves.bumpOf (s : State) (i : CounterIx) (k : Nat) (h1 : i ≠ tokensInIx) (h2 : i ≠ tokensSpentIx)
    (h3 : i ≠ tokensVoidedIx) (h4 : i ≠ tokensWithdrawnIx) : Moves s (s.bump i k) where
  queue := rfl
  fixed _ := rfl
  bounded := State.bump_bounded i k
  grows := State.bump_grows i k
  full := State.bump_full i k
  balance _ hb := by
    simp only [State.Balanced, State.bump_store, State.bump_counter_other s k (Ne.symm h1),
      State.bump_counter_other s k (Ne.symm h2), State.bump_counter_other s k (Ne.symm h3),
      State.bump_counter_other s k (Ne.symm h4)]
    exact hb
  store := id
  blank := id

/-- Tokens created with TOKENS_IN, when the store has room (R7, R22). -/
theorem Moves.mintOf (s : State) (o : Origin) (c : Option Chute) (n : Nat) (hn : n ≤ s.store.free) :
    Moves s (s.mint o c n) where
  queue := rfl
  fixed _ := rfl
  bounded h := State.bump_bounded _ _ h
  grows h := State.bump_grows (s := s.setStore _) _ _ h
  full h := State.bump_full (s := s.setStore _) _ _ h
  balance hb ha := by
    unfold State.mint State.Balanced
    rw [State.bump_counter_self, State.bump_counter_other _ _ (by decide), State.bump_counter_other _ _ (by decide),
      State.bump_counter_other _ _ (by decide)]
    simp only [State.bump_store, State.setStore_store, TokenStore.create_live]
    have hc : ∀ i, (s.setStore (s.store.create o c n)).counter i = s.counter i := fun _ => rfl
    simp only [hc]
    intro h1 h2 h3 h4
    have := ha (by omega) h2 h3 h4
    omega
  store h := by
    have hf : s.store.live + n ≤ 64 := by
      have := h.1
      simp only [TokenStore.free, Config.storeCapacity] at hn this
      omega
    refine ⟨?_, ?_⟩
    · simpa [State.mint, TokenStore.create_live, Config.storeCapacity] using hf
    · exact TokenStore.create_nodup _ _ _ _ h.2 hf
  blank := id

/-- A retirement: fewer tokens in the same order, counted by one of the three counters (R12, R23). -/
theorem Moves.retireOf (s : State) (x : TokenStore) (i : CounterIx) (k : Nat)
    (hi : i = tokensSpentIx ∨ i = tokensVoidedIx ∨ i = tokensWithdrawnIx)
    (hsub : x.arrival.Sublist s.store.arrival) (hk : x.live + k = s.store.live) :
    Moves s ((s.setStore x).bump i k) where
  queue := rfl
  fixed _ := rfl
  bounded h := State.bump_bounded _ _ h
  grows h := State.bump_grows (s := s.setStore _) _ _ h
  full h := State.bump_full (s := s.setStore _) _ _ h
  balance hb ha := by
    unfold State.Balanced
    have hc : ∀ j, (s.setStore x).counter j = s.counter j := fun _ => rfl
    rcases hi with rfl | rfl | rfl <;>
    · rw [State.bump_counter_self]
      simp only [State.bump_store, State.setStore_store]
      repeat rw [State.bump_counter_other _ _ (by decide)]
      simp only [hc]
      intro h1 h2 h3 h4
      have := ha (by omega) (by omega) (by omega) (by omega)
      omega
  store h := by
    refine ⟨?_, ?_⟩
    · have := hsub.length_le
      simp only [State.bump_store, State.setStore_store]
      exact le_trans (by simpa [TokenStore.live] using this) h.1
    · exact (hsub.map Token.seq).nodup h.2
  blank := id

/-- Two parts of an event in a free order (log entry 8). -/
theorem Moves.inFreeOrderOf {f g : State → State} (hf : ∀ s, Moves s (f s)) (hg : ∀ s, Moves s (g s)) (s : State) :
    Moves s (inFreeOrder f g s) := by
  have hd : Moves s s.drawn := .quiet rfl rfl rfl rfl rfl
  unfold Machine.inFreeOrder
  split
  · exact hd.trans ((hf _).trans (hg _))
  · exact hd.trans ((hg _).trans (hf _))

/-- An operation repeated over a list. -/
theorem Moves.foldlOf {α : Type} {f : State → α → State} (hf : ∀ s x, Moves s (f s x)) (l : List α) (s : State) :
    Moves s (l.foldl f s) := by
  induction l generalizing s with
  | nil => exact .refl s
  | cons x rest ih => exact (hf s x).trans (ih _)

/-! ## Setters

From here on every lemma has one form: what has been reached by moves stays reached by one operation more, so that a
proof follows the text of a definition from left to right. -/

section
variable {s a : State}

theorem Moves.setPins (h : Moves s a) {x} : Moves s (a.setPins x) := h.trans (.quiet rfl rfl rfl rfl rfl)
theorem Moves.setIntake (h : Moves s a) {x} : Moves s (a.setIntake x) := h.trans (.quiet rfl rfl rfl rfl rfl)
theorem Moves.setFeeders (h : Moves s a) {x} : Moves s (a.setFeeders x) := h.trans (.quiet rfl rfl rfl rfl rfl)
theorem Moves.setPulses (h : Moves s a) {x} : Moves s (a.setPulses x) := h.trans (.quiet rfl rfl rfl rfl rfl)
theorem Moves.setFilters (h : Moves s a) {x} : Moves s (a.setFilters x) := h.trans (.quiet rfl rfl rfl rfl rfl)
theorem Moves.setGate (h : Moves s a) {x} : Moves s (a.setGate x) := h.trans (.quiet rfl rfl rfl rfl rfl)
theorem Moves.setFlags (h : Moves s a) {x} : Moves s (a.setFlags x) := h.trans (.quiet rfl rfl rfl rfl rfl)
theorem Moves.setPanel (h : Moves s a) {x} : Moves s (a.setPanel x) := h.trans (.quiet rfl rfl rfl rfl rfl)
theorem Moves.setRouting (h : Moves s a) {x} : Moves s (a.setRouting x) := h.trans (.quiet rfl rfl rfl rfl rfl)
theorem Moves.setPower (h : Moves s a) {x} : Moves s (a.setPower x) := h.trans (.quiet rfl rfl rfl rfl rfl)
theorem Moves.setCheckers (h : Moves s a) {x} : Moves s (a.setCheckers x) := h.trans (.quiet rfl rfl rfl rfl rfl)
theorem Moves.setStage (h : Moves s a) {x} : Moves s (a.setStage x) := h.trans (.quiet rfl rfl rfl rfl rfl)
theorem Moves.setSnapshot (h : Moves s a) {x} : Moves s (a.setSnapshot x) := h.trans (.quiet rfl rfl rfl rfl rfl)
theorem Moves.setLinks (h : Moves s a) {x} : Moves s (a.setLinks x) := h.trans (.quiet rfl rfl rfl rfl rfl)
theorem Moves.setKey (h : Moves s a) {x} : Moves s (a.setKey x) := h.trans (.quiet rfl rfl rfl rfl rfl)
theorem Moves.setReports (h : Moves s a) {x} : Moves s (a.setReports x) := h.trans (.quiet rfl rfl rfl rfl rfl)
theorem Moves.setLate (h : Moves s a) {x} : Moves s (a.setLate x) := h.trans (.quiet rfl rfl rfl rfl rfl)
theorem Moves.setChoices (h : Moves s a) {x} : Moves s (a.setChoices x) := h.trans (.quiet rfl rfl rfl rfl rfl)
theorem Moves.setFeeder (h : Moves s a) {b f} : Moves s (a.setFeeder b f) := h.setFeeders
theorem Moves.setBay (h : Moves s a) {b p} : Moves s (a.setBay b p) := h.setPower
theorem Moves.setWarm (h : Moves s a) {w} : Moves s (a.setWarm w) := h.setPower
theorem Moves.setProtected (h : Moves s a) {w} : Moves s (a.setProtected w) := h.setPower
theorem Moves.setChecker (h : Moves s a) {b c} : Moves s (a.setChecker b c) := h.setCheckers
theorem Moves.setChute (h : Moves s a) {c r} : Moves s (a.setChute c r) := h.setIntake
theorem Moves.setBayFilters (h : Moves s a) {b f} : Moves s (a.setBayFilters b f) := h.setFilters
theorem Moves.setPulse (h : Moves s a) {u p} : Moves s (a.setPulse u p) := by cases u <;> exact h.setPulses
theorem Moves.setFilter (h : Moves s a) {b m f} : Moves s (a.setFilter b m f) := by cases m <;> exact h.setFilters
theorem Moves.setLink (h : Moves s a) {l k} : Moves s (a.setLink l k) := by cases l <;> exact h.setLinks
theorem Moves.notifyOn (h : Moves s a) {l n} : Moves s (a.notifyOn l n) := h.setLink
theorem Moves.notify (h : Moves s a) {n} : Moves s (a.notify n) := h.notifyOn.notifyOn
theorem Moves.report (h : Moves s a) {r} : Moves s (a.report r) := h.setReports
theorem Moves.drawn (h : Moves s a) : Moves s a.drawn := h.setChoices
theorem Moves.bump (h : Moves s a) {i k} (g : i ≠ tokensInIx ∧ i ≠ tokensSpentIx ∧ i ≠ tokensVoidedIx
    ∧ i ≠ tokensWithdrawnIx) : Moves s (a.bump i k) := h.trans (.bumpOf a i k g.1 g.2.1 g.2.2.1 g.2.2.2)
theorem Moves.inFreeOrder (h : Moves s a) {f g} (hf : ∀ {b}, Moves s b → Moves s (f b))
    (hg : ∀ {b}, Moves s b → Moves s (g b)) : Moves s (inFreeOrder f g a) := by
  unfold Machine.inFreeOrder
  split
  · exact hg (hf h.drawn)
  · exact hf (hg h.drawn)
theorem Moves.foldl (h : Moves s a) {α : Type} {f : State → α → State} (hf : ∀ {b} x, Moves s b → Moves s (f b x))
    (l : List α) : Moves s (l.foldl f a) := by
  induction l generalizing a with
  | nil => exact h
  | cons x rest ih => exact ih (hf x h)

/-! ## Store -/

theorem Moves.followCoils (h : Moves s a) : Moves s a.followCoils := h.setIntake
theorem Moves.notifyIntake (h : Moves s a) {e c} : Moves s (a.notifyIntake e c) := h.notify
theorem Moves.settleClosure (h : Moves s a) : Moves s a.settleClosure := h.setIntake.followCoils
theorem Moves.tellClosure (h : Moves s a) {was} : Moves s (a.tellClosure was) := by
  unfold State.tellClosure
  split
  · exact h
  · exact h.notifyIntake
theorem Moves.evalClosure (h : Moves s a) : Moves s a.evalClosure := h.settleClosure.tellClosure
theorem Moves.storeChanged (h : Moves s a) {c n b} : Moves s (a.storeChanged c n b) := h.notify.evalClosure
theorem Moves.mint (h : Moves s a) {o c n} (hn : n ≤ a.store.free) : Moves s (a.mint o c n) :=
  h.trans (.mintOf a o c n hn)
theorem Moves.withdrawTokens (h : Moves s a) {n} (hn : n ≤ a.store.poolCount) : Moves s (a.withdrawTokens n) :=
  h.trans (.retireOf a _ _ _ (by simp) (dropFirst_sublist _ _) (dropFirst_length _ _ hn))
theorem Moves.retireTokens (h : Moves s a) {kind b n} : Moves s (a.retireTokens kind b n) :=
  h.trans (.retireOf a _ _ _ (by cases kind <;> simp [retireIx]) (a.store.retire_sublist b n)
    (by have := a.store.retire_live_le b n; omega))
theorem Moves.returnUnits (h : Moves s a) {b ns} : Moves s (a.returnUnits b ns) := by
  unfold State.returnUnits
  split
  · exact h
  · exact (h.trans (.places _ (a.store.giveBack_seqs b ns))).storeChanged

theorem coinsIx_free (c : Chute) : coinsIx c ≠ tokensInIx ∧ coinsIx c ≠ tokensSpentIx ∧ coinsIx c ≠ tokensVoidedIx
    ∧ coinsIx c ≠ tokensWithdrawnIx := by revert c; decide
theorem playsIx_free (b : Bay) : playsIx b ≠ tokensInIx ∧ playsIx b ≠ tokensSpentIx ∧ playsIx b ≠ tokensVoidedIx
    ∧ playsIx b ≠ tokensWithdrawnIx := by revert b; decide
theorem confirmedIx_free (b : Bay) : confirmedIx b ≠ tokensInIx ∧ confirmedIx b ≠ tokensSpentIx
    ∧ confirmedIx b ≠ tokensVoidedIx ∧ confirmedIx b ≠ tokensWithdrawnIx := by revert b; decide
theorem voidedIx_free (b : Bay) : voidedIx b ≠ tokensInIx ∧ voidedIx b ≠ tokensSpentIx ∧ voidedIx b ≠ tokensVoidedIx
    ∧ voidedIx b ≠ tokensWithdrawnIx := by revert b; decide
theorem refundedIx_free (b : Bay) : refundedIx b ≠ tokensInIx ∧ refundedIx b ≠ tokensSpentIx
    ∧ refundedIx b ≠ tokensVoidedIx ∧ refundedIx b ≠ tokensWithdrawnIx := by revert b; decide
theorem strayIx_free (b : Bay) : strayIx b ≠ tokensInIx ∧ strayIx b ≠ tokensSpentIx ∧ strayIx b ≠ tokensVoidedIx
    ∧ strayIx b ≠ tokensWithdrawnIx := by revert b; decide

theorem Moves.validCoin (h : Moves s a) {c w} : Moves s (a.validCoin c w) := by
  unfold State.validCoin
  split
  · rename_i hw
    exact ((h.bump (coinsIx_free c)).mint hw).storeChanged
  · exact ((h.bump (coinsIx_free c)).bump (by decide)).notifyIntake
theorem Moves.coilFaultTrip (h : Moves s a) : Moves s a.coilFaultTrip := by
  unfold State.coilFaultTrip
  split
  · exact h.setIntake.notifyIntake
  · exact h
theorem Moves.jam (h : Moves s a) {c} : Moves s (a.jam c) := h.setChute.followCoils.notifyIntake
theorem Moves.applyChute (h : Moves s a) {w c} : Moves s (a.applyChute w c) := by
  unfold State.applyChute
  split
  · exact h
  · exact h.setChute

/-! ## Feeding -/

theorem Moves.putFeeder (h : Moves s a) {b f} : Moves s (a.putFeeder b f) := by
  unfold State.putFeeder
  split
  · exact h.setFeeder.report
  · exact h.setFeeder
theorem Moves.formUnit (h : Moves s a) {b c} : Moves s (a.formUnit b c) :=
  (h.trans (.places _ (placeFirst_seqs _ _ _))).setFeeder
theorem Moves.formUnits (h : Moves s a) {b c k} : Moves s (a.formUnits b c k) := by
  induction k generalizing a with
  | zero => exact h
  | succ k ih => exact ih h.formUnit
theorem Moves.drawUnits (h : Moves s a) {b c k} : Moves s (a.drawUnits b c k) := h.formUnits.storeChanged
theorem Moves.activeEdge (h : Moves s a) {u} : Moves s (a.activeEdge u) := by
  unfold State.activeEdge
  dsimp only
  repeat' split
  · exact h
  · exact h.setPulse
  · exact h.setPulse.setFeeder
  · exact h.setPulse
theorem Moves.grantPulse (h : Moves s a) {u b} : Moves s (a.grantPulse u b) := by
  unfold State.grantPulse
  dsimp only
  repeat' split
  · exact h
  · exact h.setFeeder.setPulses.setPulse.activeEdge
  · exact h.setFeeder.setPulses.setPulse
theorem Moves.grantOne (h : Moves s a) : Moves s a.grantOne := by
  unfold State.grantOne
  split
  · exact h.grantPulse
  · exact h
theorem Moves.arbitrate (h : Moves s a) : Moves s a.arbitrate := h.grantOne.grantOne
theorem Moves.cutPulse (h : Moves s a) {u} : Moves s (a.cutPulse u) := by
  unfold State.cutPulse
  split
  · exact h.setPulse
  · exact h
theorem Moves.returnQueued (h : Moves s a) {b p} : Moves s (a.returnQueued b p) := h.putFeeder.returnUnits

/-! ## Gating -/

theorem Moves.abandon (h : Moves s a) {b c} : Moves s (a.abandon b c) := by
  unfold State.abandon
  exact h.returnQueued.setGate.notify
theorem Moves.gateLeaves (h : Moves s a) {b c} : Moves s (a.gateLeaves b c) := by
  unfold State.gateLeaves
  repeat' split
  · exact h.abandon
  · exact h.setGate
  · exact h.setGate
  · exact h
theorem Moves.fire (h : Moves s a) {b} : Moves s (a.fire b) := by
  unfold State.fire
  exact (h.setGate.bump (playsIx_free b)).notify
theorem Moves.complete (h : Moves s a) {b} : Moves s (a.complete b) := by
  unfold State.complete
  repeat' split
  · exact h.abandon
  · exact h.abandon
  · exact h.fire
theorem Moves.gateConfirmed (h : Moves s a) {b n} : Moves s (a.gateConfirmed b n) := by
  unfold State.gateConfirmed
  dsimp only
  split
  · exact h.setGate.complete
  · exact h.setGate
theorem Moves.gateOutcome (h : Moves s a) {b n o} : Moves s (a.gateOutcome b n o) := by
  unfold State.gateOutcome
  repeat' split
  · exact h.gateConfirmed
  · exact h.abandon
  · exact h.abandon
  all_goals exact h
theorem Moves.handOutcome (h : Moves s a) {b k o} : Moves s (a.handOutcome b k o) := by
  unfold State.handOutcome
  split
  · exact h.gateOutcome
  · exact h
theorem Moves.handReturned (h : Moves s a) {b ks} : Moves s (a.handReturned b ks) :=
  h.foldl (fun _ g => g.handOutcome) ks
theorem Moves.openCharge (h : Moves s a) {b w k} : Moves s (a.openCharge b w k) := by
  unfold State.openCharge
  exact h.drawUnits.setGate.arbitrate
theorem Moves.startPress (h : Moves s a) {b w} : Moves s (a.startPress b w) := by
  unfold State.startPress
  dsimp only
  repeat' split
  · exact h
  · exact h
  · exact h
  · exact h.notify
  · exact h.notify
  · exact h.openCharge

/-! ## Settling -/

theorem Moves.confirmUnit (h : Moves s a) {b k} : Moves s (a.confirmUnit b k) := by
  unfold State.confirmUnit
  exact (h.retireTokens.bump (confirmedIx_free b)).storeChanged.handOutcome
theorem Moves.notifyFeeder (h : Moves s a) {e b k} : Moves s (a.notifyFeeder e b k) := h.notify
theorem Moves.emptySlot (h : Moves s a) {b} : Moves s (a.emptySlot b) := h.putFeeder
theorem Moves.trailEnd (h : Moves s a) {u p} : Moves s (a.trailEnd u p) := by
  unfold State.trailEnd
  dsimp only
  repeat' split
  · exact h.setPulse.setFeeder.arbitrate
  · exact h.setPulse.emptySlot.confirmUnit.arbitrate
  · exact h.setPulse.emptySlot.confirmUnit.arbitrate
  · exact h.setPulse.setFeeder.notifyFeeder.arbitrate
  · exact h.setPulse.setFeeder.arbitrate
  · exact h.setPulse.setFeeder.arbitrate
theorem Moves.stray (h : Moves s a) {b m r} : Moves s (a.stray b m r) := (h.bump (strayIx_free b)).notify
theorem Moves.confirmInTrail (h : Moves s a) {b k} : Moves s (a.confirmInTrail b k) := h.setFeeder
theorem Moves.judgeEcho (h : Moves s a) {b m} : Moves s (a.judgeEcho b m) := by
  unfold State.judgeEcho
  repeat' split
  · exact h.stray
  · exact h.stray
  · exact h.stray
  · exact h.stray
  · exact h.stray
  · exact h.stray
  · exact h.confirmInTrail
  · exact h.emptySlot.confirmUnit.arbitrate
  · exact h.confirmInTrail
  · exact h.emptySlot.confirmUnit.notifyFeeder.arbitrate
theorem Moves.windowExpires (h : Moves s a) {b} : Moves s (a.windowExpires b) := by
  unfold State.windowExpires
  dsimp only
  repeat' split
  · exact h.setFeeder.handOutcome
  · exact h.setFeeder.notifyFeeder.handOutcome
  · exact h
  · exact h
theorem Moves.voidUnit (h : Moves s a) {b k} : Moves s (a.voidUnit b k) := by
  unfold State.voidUnit
  exact (h.emptySlot.retireTokens.bump (voidedIx_free b)).storeChanged.notifyFeeder.handOutcome.arbitrate
theorem Moves.refundUnit (h : Moves s a) {b k} : Moves s (a.refundUnit b k) := by
  unfold State.refundUnit
  exact (h.emptySlot.bump (refundedIx_free b)).returnUnits.notifyFeeder.handOutcome.arbitrate
theorem Moves.leavePolicy (h : Moves s a) {b} : Moves s (a.leavePolicy b) := by
  unfold State.leavePolicy
  split
  · exact h
  · exact h.returnQueued.handReturned
theorem Moves.feederPowerLoss (h : Moves s a) {b} : Moves s (a.feederPowerLoss b) := by
  unfold State.feederPowerLoss
  dsimp only
  split
  · exact h
  · refine Moves.arbitrate (Moves.handReturned (Moves.returnUnits ?_))
    exact (h.cutPulse.putFeeder).foldl (fun _ g => g.confirmUnit) _

/-! ## Routing -/

theorem Moves.firstDebounce (h : Moves s a) {l} : Moves s (a.firstDebounce l) := h.setPanel
theorem Moves.notePress (h : Moves s a) {w e} : Moves s (a.notePress w e) := h.setPanel
theorem Moves.stopMenuHold (h : Moves s a) : Moves s a.stopMenuHold := h.setPanel
theorem Moves.menuSwitchEvent (h : Moves s a) {e} : Moves s (a.menuSwitchEvent e) := by
  cases e
  · exact h.setPanel
  · exact h.stopMenuHold
theorem Moves.startRoutePulses (h : Moves s a) {b w} : Moves s (a.startRoutePulses b w) := by
  unfold State.startRoutePulses
  split
  · exact h.setRouting
  · exact h
theorem Moves.stopRoutePulses (h : Moves s a) : Moves s a.stopRoutePulses := h.setRouting
theorem Moves.playEvent (h : Moves s a) {b w e} : Moves s (a.playEvent b w e) := by
  unfold State.playEvent
  repeat' split
  · exact h.menuSwitchEvent
  · exact h.startPress
  · exact h
  · exact h.startRoutePulses
  · exact h
theorem Moves.dealSwitch (h : Moves s a) {w e} : Moves s (a.dealSwitch w e) := by
  unfold State.dealSwitch
  repeat' split
  · exact h.notifyOn
  · exact h.menuSwitchEvent
  · exact h
  · exact h.playEvent
theorem Moves.quietCheck (h : Moves s a) {e} : Moves s (a.quietCheck e) := by
  unfold State.quietCheck
  split
  · exact h.setRouting.report
  · exact h
theorem Moves.takeSwitch (h : Moves s a) {w e} : Moves s (a.takeSwitch w e) := by
  unfold State.takeSwitch
  dsimp only
  split
  · exact h.notePress.quietCheck
  · exact h.notePress.dealSwitch.quietCheck
theorem Moves.quietExpires (h : Moves s a) : Moves s a.quietExpires := by
  unfold State.quietExpires
  exact h.setPanel.setRouting.report
theorem Moves.quietRequest (h : Moves s a) : Moves s a.quietRequest := by
  unfold State.quietRequest
  repeat' split
  · exact h.report
  · exact h.quietExpires
  · exact h.setRouting

/-! ## Monitoring -/

theorem Moves.setMonitor (h : Moves s a) {x : Crosspoint}
    (g : a.SettlesBlank → x.settle.isSome = true → x.source = .blank) : Moves s (a.setMonitor x) :=
  h.trans (.monitor x g)
theorem Moves.sameMonitor (h : Moves s a) {x : Crosspoint} (g1 : x.settle = a.monitor.settle)
    (g2 : x.source = a.monitor.source) : Moves s (a.setMonitor x) :=
  h.setMonitor fun k => by rw [g1, g2]; exact k
theorem Moves.reportFall (h : Moves s a) : Moves s a.reportFall := by
  unfold State.reportFall
  split
  · exact h.report
  · exact h
theorem Moves.blankSource (h : Moves s a) : Moves s a.blankSource := h.reportFall.setMonitor fun _ _ => rfl

theorem Crosspoint.rampDown_settle (x : Crosspoint) (n : Nat) : (x.rampDown n).settle = x.settle := by
  unfold Crosspoint.rampDown; split <;> rfl
theorem Crosspoint.rampDown_source (x : Crosspoint) (n : Nat) : (x.rampDown n).source = x.source := by
  unfold Crosspoint.rampDown; split <;> rfl
theorem Crosspoint.rampUp_settle (x : Crosspoint) (n : Nat) : (x.rampUp n).settle = x.settle := by
  unfold Crosspoint.rampUp; split <;> rfl
theorem Crosspoint.rampUp_source (x : Crosspoint) (n : Nat) : (x.rampUp n).source = x.source := by
  unfold Crosspoint.rampUp; split <;> rfl
theorem Crosspoint.take_settle (x : Crosspoint) (src : Source) (n : Nat) : (x.take src n).settle = x.settle := by
  unfold Crosspoint.take
  split
  · rfl
  · rw [Crosspoint.rampUp_settle]
theorem Crosspoint.take_source (x : Crosspoint) (src : Source) (n : Nat) : (x.take src n).source = src := by
  unfold Crosspoint.take
  split
  · rename_i h
    exact h.symm
  · rw [Crosspoint.rampUp_source]

theorem Moves.rampDownRequest (h : Moves s a) : Moves s a.rampDownRequest := by
  have g : Moves s (a.setMonitor (a.monitor.rampDown a.rampLength)) :=
    h.sameMonitor (Crosspoint.rampDown_settle _ _) (Crosspoint.rampDown_source _ _)
  unfold State.rampDownRequest
  dsimp only
  repeat' split
  · exact h.report
  · exact h
  · exact g.report
  · exact g
  · exact g.report
  · exact g
theorem Moves.reportFallIfBlank (h : Moves s a) {src} : Moves s (a.reportFallIfBlank src) := by
  unfold State.reportFallIfBlank
  split
  · exact h.reportFall
  · exact h
/-- A cut is made only while the settle timer is stopped (R149). -/
theorem Moves.makeCut (h : Moves s a) {t} (g : a.monitor.settle = none) : Moves s (a.makeCut t) := by
  unfold State.makeCut
  refine (h.reportFallIfBlank.setMonitor fun _ k => ?_).report
  rw [Crosspoint.take_settle, g] at k
  cases k
theorem Moves.classStep (h : Moves s a) {t} : Moves s (a.classStep t) := by
  unfold State.classStep
  split
  · exact h
  · exact h.reportFall.setMonitor fun _ _ => rfl
theorem Moves.cutRequest (h : Moves s a) {t} : Moves s (a.cutRequest t) := by
  have g : Moves s ((a.setMonitor { a.monitor with cut := some t }).classStep t) :=
    (h.sameMonitor (x := { a.monitor with cut := some t }) rfl rfl).classStep
  unfold State.cutRequest
  dsimp only
  split
  · exact g
  · rename_i k
    exact g.makeCut (by simpa using k)
theorem Moves.withdrawCut (h : Moves s a) : Moves s a.withdrawCut := h.sameMonitor rfl rfl
theorem Moves.settleStops (h : Moves s a) : Moves s a.settleStops := by
  have g : Moves s (a.setMonitor { a.monitor with settle := none }) := h.setMonitor fun _ k => by cases k
  unfold State.settleStops
  dsimp only
  split
  · exact g.makeCut rfl
  · exact g
theorem Moves.crosspointLoss (h : Moves s a) {b} : Moves s (a.crosspointLoss b) := by
  unfold State.crosspointLoss
  split
  · exact h.blankSource
  · exact h

/-! ## Powering -/

theorem Moves.notifyBay (h : Moves s a) {e b} : Moves s (a.notifyBay e b) := h.notify
theorem Moves.reportLoss (h : Moves s a) {b c} : Moves s (a.reportLoss b c) := by
  unfold State.reportLoss
  split
  · exact h.report
  · exact h
theorem Moves.reportTarget (h : Moves s a) {b r} : Moves s (a.reportTarget b r) := by
  unfold State.reportTarget
  repeat' split
  · exact h.report
  · exact h.report
  · exact h
theorem Moves.creditLoss (h : Moves s a) {b} : Moves s (a.creditLoss b) := by
  unfold State.creditLoss
  split
  · exact h.inFreeOrder (fun g => g.gateLeaves) (fun g => g.feederPowerLoss)
  · exact h.gateLeaves.feederPowerLoss
theorem Moves.routingLoss (h : Moves s a) {b} : Moves s (a.routingLoss b) := by
  unfold State.routingLoss
  split
  · exact h.stopRoutePulses
  · exact h
theorem Moves.handOnCut (h : Moves s a) {b} : Moves s (a.handOnCut b) := by
  unfold State.handOnCut
  exact h.creditLoss.setBayFilters.routingLoss.setChecker.crosspointLoss
theorem Moves.enterCut (h : Moves s a) {b p} : Moves s (a.enterCut b p) := h.setPower
theorem Moves.cutPower (h : Moves s a) {b p} : Moves s (a.cutPower b p) := by
  unfold State.cutPower
  split
  · exact h.enterCut.handOnCut
  · exact h.enterCut
theorem Moves.trip (h : Moves s a) {b} : Moves s (a.trip b) := by
  unfold State.trip
  exact h.cutPower.notifyBay.reportLoss.reportTarget
theorem Moves.enterStarting (h : Moves s a) {b} : Moves s (a.enterStarting b) := by
  unfold State.enterStarting
  dsimp only
  split
  · exact h.setBay.setChecker.trip
  · exact h.setBay.setChecker
theorem Moves.runningJoins (h : Moves s a) {b} : Moves s (a.runningJoins b) := by
  unfold State.runningJoins
  repeat' split
  · exact h.report
  · exact h
  · exact h.setWarm
theorem Moves.bayRunning (h : Moves s a) {b} : Moves s (a.bayRunning b) := h.setBay.notifyBay.runningJoins
theorem Moves.lockedReport (h : Moves s a) {b} : Moves s (a.lockedReport b) := by
  unfold State.lockedReport
  split
  · exact h.bayRunning
  · exact h
theorem Moves.resetHoldEnds (h : Moves s a) {b} : Moves s (a.resetHoldEnds b) := by
  unfold State.resetHoldEnds
  dsimp only
  split
  · exact h.setBay.setBayFilters.bayRunning
  · exact h.setBay.setBayFilters
theorem Moves.evict (h : Moves s a) {t b} : Moves s (a.evict t b) := h.cutPower.notifyBay
theorem Moves.evictFor (h : Moves s a) {t l n} : Moves s (a.evictFor t l n) := by
  induction l generalizing a n with
  | nil => exact h
  | cons k rest ih =>
    cases n with
    | zero => exact h
    | succ n => exact ih h.evict
theorem Moves.judgeHandover (h : Moves s a) {b} : Moves s (a.judgeHandover b) := by
  unfold State.judgeHandover
  dsimp only
  repeat' split
  · exact h.enterStarting
  · exact h.evictFor.enterStarting
  · exact h.report
theorem Moves.powerRequest (h : Moves s a) {b} : Moves s (a.powerRequest b) := by
  unfold State.powerRequest
  split
  all_goals first
    | exact h
    | exact h.report
    | exact h.setBay
    | exact h.judgeHandover
theorem Moves.judgeDeferred (h : Moves s a) {b k} : Moves s (a.judgeDeferred b k) := by
  unfold State.judgeDeferred
  split
  · exact h.enterStarting
  · exact h.notifyBay
theorem Moves.coolingEnds (h : Moves s a) {b} : Moves s (a.coolingEnds b) := by
  unfold State.coolingEnds
  dsimp only
  split
  · exact h.setBay
  · exact h.setBay.judgeDeferred
  · exact h.setBay.judgeDeferred
  · exact h.setBay.judgeHandover
theorem Moves.crash (h : Moves s a) {b} : Moves s (a.crash b) := by
  unfold State.crash
  dsimp only
  repeat' split
  · exact h.cutPower.notifyBay.reportLoss.reportTarget
  · exact h.cutPower.notifyBay.notifyBay.reportLoss.reportTarget
  · exact h.cutPower.setBay.notifyBay.reportLoss.reportTarget
theorem Moves.lostReport (h : Moves s a) {b} : Moves s (a.lostReport b) := by
  unfold State.lostReport
  split
  · exact h.crash
  · exact h
theorem Moves.nameTarget (h : Moves s a) {b r} : Moves s (a.nameTarget b r) := h.setPower
theorem Moves.dropDeferred (h : Moves s a) {b} : Moves s (a.dropDeferred b) := h.setBay
theorem Moves.releaseOrigin (h : Moves s a) {b} : Moves s (a.releaseOrigin b) := by
  unfold State.releaseOrigin
  dsimp only
  repeat' split
  all_goals first
    | exact h
    | exact h.dropDeferred
    | exact h.setWarm
    | exact h.cutPower
    | exact h.setWarm.setBay
theorem Moves.retargetedAway (h : Moves s a) {b} : Moves s (a.retargetedAway b) := by
  unfold State.retargetedAway
  dsimp only
  repeat' split
  all_goals first
    | exact h
    | exact h.dropDeferred
    | exact h.setWarm
    | exact h.cutPower
theorem Moves.feederIdle (h : Moves s a) {b} : Moves s (a.feederIdle b) := by
  unfold State.feederIdle
  split
  · exact h.cutPower
  · exact h
theorem Moves.powerOff (h : Moves s a) {b} : Moves s (a.powerOff b) := by
  unfold State.powerOff
  split
  all_goals first
    | exact h
    | exact h.cutPower
    | exact h.dropDeferred
theorem Moves.setEnabled (h : Moves s a) {b v} : Moves s (a.setEnabled b v) := h.setFlags
theorem Moves.disable (h : Moves s a) {b} : Moves s (a.disable b) := by
  have g := (h.setEnabled (b := b) (v := false)).cutPower (b := b) (p := .disabled) |>.notifyBay (e := .disabled) (b := b)
  unfold State.disable
  dsimp only
  repeat' split
  · exact g.reportLoss.reportTarget
  · exact g.reportTarget
  · exact g.reportLoss
  · exact g

/-! ## Handing -/

theorem Moves.setRecord (h : Moves s a) {r} : Moves s (a.setRecord r) := h.setStage
theorem Moves.nameIfBay (h : Moves s a) {t} : Moves s (a.nameIfBay t) := by
  cases t
  · exact h
  · exact h.nameTarget
theorem Moves.releaseCredit (h : Moves s a) {b} : Moves s (a.releaseCredit b) := by
  unfold State.releaseCredit
  split
  · exact h.inFreeOrder (fun g => g.gateLeaves) (fun g => g.leavePolicy)
  · exact h.gateLeaves.leavePolicy
theorem Moves.releaseParts (h : Moves s a) {t} : Moves s (a.releaseParts t) := by
  cases t
  · exact h
  · exact h.stopRoutePulses.releaseCredit
theorem Moves.begin (h : Moves s a) {t c} : Moves s (a.begin t c) := by
  unfold State.begin
  exact h.setRecord.setProtected.nameIfBay.notify.releaseParts.rampDownRequest
theorem Moves.startPower (h : Moves s a) {r b} : Moves s (a.startPower r b) := h.setRecord.powerRequest
theorem Moves.startClass (h : Moves s a) {r} : Moves s (a.startClass r) := h.setRecord.cutRequest
theorem Moves.afterRelease (h : Moves s a) {r} : Moves s (a.afterRelease r) := by
  unfold State.afterRelease
  split
  · exact h.startPower
  · exact h.startClass
theorem Moves.rampDone (h : Moves s a) : Moves s a.rampDone := by
  unfold State.rampDone
  repeat' split
  all_goals first | exact h | exact h.afterRelease
theorem Moves.ready (h : Moves s a) {b} : Moves s (a.ready b) := by
  unfold State.ready
  repeat' split
  all_goals first | exact h | exact h.startClass
theorem Moves.cutOverRelease (h : Moves s a) {r} : Moves s (a.cutOverRelease r) := by
  unfold State.cutOverRelease
  repeat' split
  · exact h
  · exact h
  · exact h.setRecord.releaseOrigin
theorem Moves.setPhase (h : Moves s a) {p} : Moves s (a.setPhase p) := by
  unfold State.setPhase
  split
  · exact h.setRecord
  · exact h
  · exact h
theorem Moves.cutDone (h : Moves s a) {src} : Moves s (a.cutDone src) := by
  unfold State.cutDone
  repeat' split
  all_goals first | exact h | exact h.cutOverRelease.setPhase.quietRequest
theorem Moves.enterActive (h : Moves s a) {b} : Moves s (a.enterActive b) := by
  unfold State.enterActive
  split
  · exact h.setBay
  · exact h
theorem Moves.enterStage (h : Moves s a) {t} : Moves s (a.enterStage t) := by
  cases t
  · exact h.setStage.stopMenuHold
  · exact h.setStage.enterActive.stopRoutePulses
theorem Moves.followOn (h : Moves s a) {r} : Moves s (a.followOn r) := by
  unfold State.followOn
  split
  · exact h.begin
  · exact h
  · exact h
theorem Moves.quietGrant (h : Moves s a) : Moves s a.quietGrant := by
  unfold State.quietGrant
  dsimp only
  repeat' split
  all_goals first | exact h | exact h.enterStage.setProtected.notify.followOn
theorem Moves.redirect (h : Moves s a) {r} : Moves s (a.redirect r) := by
  unfold State.redirect
  split
  · exact h
  · exact h.afterRelease
  · exact h.withdrawCut.afterRelease
  · exact h
theorem Moves.leaveTarget (h : Moves s a) {f o} : Moves s (a.leaveTarget f o) := by
  unfold State.leaveTarget
  repeat' split
  · exact h
  · exact h
  · exact h.retargetedAway
theorem Moves.protect (h : Moves s a) {t} : Moves s (a.protect t) := by
  unfold State.protect
  repeat' split
  · exact h
  · exact h
  · exact h.setProtected
theorem Moves.retarget (h : Moves s a) {r t c} : Moves s (a.retarget r t c) := by
  unfold State.retarget
  exact h.setRecord.leaveTarget.protect.nameIfBay.notify.redirect
theorem Moves.turnToMenu (h : Moves s a) {r b w} : Moves s (a.turnToMenu r b w) := by
  unfold State.turnToMenu
  exact h.setRecord.notify.redirect
theorem Moves.targetFailed (h : Moves s a) {b w} : Moves s (a.targetFailed b w) := by
  unfold State.targetFailed
  repeat' split
  all_goals first | exact h | exact h.setRecord | exact h.turnToMenu
theorem Moves.bayLost (h : Moves s a) {b c} : Moves s (a.bayLost b c) := by
  unfold State.bayLost
  repeat' split
  all_goals first | exact h | exact h.setRecord | exact h.begin
theorem Moves.targetCools (h : Moves s a) {b} : Moves s (a.targetCools b) := by
  unfold State.targetCools
  repeat' split
  all_goals first | exact h | exact h.setRecord | exact h.withdrawCut.setRecord
theorem Moves.menuRequest (h : Moves s a) : Moves s a.menuRequest := by
  unfold State.menuRequest
  repeat' split
  all_goals first | exact h | exact h.begin | exact h.setRecord | exact h.retarget
theorem Moves.takeReport (h : Moves s a) {r} : Moves s (a.takeReport r) := by
  cases r
  · exact h.rampDone
  · exact h.cutDone
  · exact h.ready
  · exact h.targetFailed
  · exact h.bayLost
  · exact h.targetCools
  · exact h.quietGrant
  · exact h.feederIdle
theorem Moves.takeOrLeave (h : Moves s a) {r} : Moves s (a.takeOrLeave r) := by
  unfold State.takeOrLeave
  repeat' split
  all_goals first | exact h.takeReport | exact h.drawn.takeReport | exact h.drawn.setLate
theorem Moves.drainWith (h : Moves s a) {n} : Moves s (a.drainWith n) := by
  induction n generalizing a with
  | zero => exact h.setReports
  | succ n ih =>
    unfold State.drainWith
    split
    · exact h
    · exact ih h.setReports.takeOrLeave
theorem Moves.takeLate (h : Moves s a) : Moves s a.takeLate := by
  unfold State.takeLate
  split
  · exact h
  · exact h.setLate.takeReport
theorem Moves.drain (h : Moves s a) : Moves s a.drain := h.takeLate.drainWith

end

end Sys2Proof.Machine
end

