-- ==== Sys2Proof/Laws/PerInstr.lean ====
section
/-! SUPPORT. One lemma for each command: a well-formed command that is a request has a payload a frame can carry. -/

namespace Sys2Proof.Laws.Framed

/-- A well-formed command that is a request has a payload of at most 60 bytes (R181). -/
def Statement (i : Instr) : Prop :=
  i.wf = true → ∀ (l : Link) (r : Request), i.request? = some (l, r) → r.payload.length ≤ 60

/-- An event is no request. -/
theorem event {i : Instr} (h : i.request? = none) : Statement i := by
  intro _ l r hr
  rw [h] at hr
  cases hr

/-- What a request's length says of its command. -/
theorem request {i : Instr} {k : Link} {q : Request} (h : i.request? = some (k, q))
    (hq : q.wf = true → q.payload.length ≤ 60) : Statement i := by
  intro hi l r hr
  rw [h] at hr
  cases hr
  apply hq
  simpa [Instr.wf, h] using hi

/-- A run of bytes behind a fixed number of others is short enough when its length suits. -/
theorem lengthSuits_le {req : Option Nat} {n k : Nat} (hreq : ∀ m, req = some m → m + k ≤ 60)
    (h : lengthSuits req n k = true) : n + k ≤ 60 := by
  cases req with
  | none => exact of_decide_eq_true h
  | some m =>
    have : n = m := by simpa [lengthSuits] using h
    have := hreq m rfl
    omega

theorem profileGroupLength_le (g : Byte) (m : Nat) (h : profileGroupLength g = some m) : m + 2 ≤ 60 := by
  unfold profileGroupLength at h
  split at h <;> cases h <;> omega

theorem cabinetGroupLength_le (g : Byte) (m : Nat) (h : cabinetGroupLength g = some m) : m + 1 ≤ 60 := by
  unfold cabinetGroupLength at h
  split at h <;> cases h <;> omega

theorem routeEntriesLength_le (n : Byte) (m : Nat) (h : routeEntriesLength n = some m) : m + 4 ≤ 60 := by
  unfold routeEntriesLength at h
  split at h
  · cases h; omega
  · cases h

theorem partReset (x0 : Found) : Statement (.partReset x0) := event rfl
theorem coinActiveEdge (x0 : Chute) : Statement (.coinActiveEdge x0) := event rfl
theorem coinRelease (x0 : Chute) (x1 : Nat) : Statement (.coinRelease x0 x1) := event rfl
theorem maxTimerExpiry (x0 : Chute) : Statement (.maxTimerExpiry x0) := event rfl
theorem jamReleaseExpiry (x0 : Chute) : Statement (.jamReleaseExpiry x0) := event rfl
theorem pullInExpiry (x0 : Chute) : Statement (.pullInExpiry x0) := event rfl
theorem pwmPeriodBoundary : Statement .pwmPeriodBoundary := event rfl
theorem coilFault (x0 : Bool) : Statement (.coilFault x0) := event rfl
theorem setIntake (x0 : Link) (x1 : Byte) :
    Statement (.setIntake x0 x1) := request rfl fun _ => by simp [Request.payload]
theorem armCoils (x0 : Link) : Statement (.armCoils x0) := request rfl fun _ => by simp [Request.payload]
theorem grant (x0 : Link) (x1 : Byte) : Statement (.grant x0 x1) := request rfl fun _ => by simp [Request.payload]
theorem withdraw (x0 : Link) (x1 : Byte) :
    Statement (.withdraw x0 x1) := request rfl fun _ => by simp [Request.payload]
theorem transfer (x0 : Link) (x1 : Byte) (x2 : Byte) :
    Statement (.transfer x0 x1 x2) := request rfl fun _ => by simp [Request.payload]
theorem leadEnd (x0 : PulseId) : Statement (.leadEnd x0) := event rfl
theorem activeEnd (x0 : PulseId) : Statement (.activeEnd x0) := event rfl
theorem trailEnd (x0 : PulseId) : Statement (.trailEnd x0) := event rfl
theorem meterActiveEdge (x0 : Bay) (x1 : CoinLine) : Statement (.meterActiveEdge x0 x1) := event rfl
theorem meterRelease (x0 : Bay) (x1 : CoinLine) : Statement (.meterRelease x0 x1) := event rfl
theorem echo (x0 : Bay) (x1 : CoinLine) : Statement (.echo x0 x1) := event rfl
theorem echoWindowExpiry (x0 : Bay) : Statement (.echoWindowExpiry x0) := event rfl
theorem voidDoubt (x0 : Link) (x1 : Byte) :
    Statement (.voidDoubt x0 x1) := request rfl fun _ => by simp [Request.payload]
theorem refundDoubt (x0 : Link) (x1 : Byte) :
    Statement (.refundDoubt x0 x1) := request rfl fun _ => by simp [Request.payload]
theorem startWidthExpiry : Statement .startWidthExpiry := event rfl
theorem writeProfile (x0 : Link) (x1 : Byte) (x2 : Byte) (x3 : List Byte) :
    Statement (.writeProfile x0 x1 x2 x3) := request rfl fun h => by
    have := lengthSuits_le (profileGroupLength_le x2) h
    simp only [Request.payload, List.length_cons]; omega
theorem readProfile (x0 : Link) (x1 : Byte) (x2 : Byte) :
    Statement (.readProfile x0 x1 x2) := request rfl fun _ => by simp [Request.payload]
theorem writeRoutes (x0 : Link) (x1 : Byte) (x2 : Byte) (x3 : Byte) (x4 : Byte) (x5 : List Byte) :
    Statement (.writeRoutes x0 x1 x2 x3 x4 x5) := request rfl fun h => by
    have := lengthSuits_le (routeEntriesLength_le x4) h
    simp only [Request.payload, List.length_cons]; omega
theorem readRoutes (x0 : Link) (x1 : Byte) (x2 : Byte) (x3 : Byte) :
    Statement (.readRoutes x0 x1 x2 x3) := request rfl fun _ => by simp [Request.payload]
theorem writeCabinet (x0 : Link) (x1 : Byte) (x2 : List Byte) :
    Statement (.writeCabinet x0 x1 x2) := request rfl fun h => by
    have := lengthSuits_le (cabinetGroupLength_le x1) h
    simp only [Request.payload, List.length_cons]; omega
theorem readCabinet (x0 : Link) (x1 : Byte) :
    Statement (.readCabinet x0 x1) := request rfl fun _ => by simp [Request.payload]
theorem setLock (x0 : Link) (x1 : Byte) : Statement (.setLock x0 x1) := request rfl fun _ => by simp [Request.payload]
theorem firstCompleteDebounce (x0 : BitVec 64) (x1 : BitVec 64) (x2 : BitVec 64) (x3 : BitVec 64) :
    Statement (.firstCompleteDebounce x0 x1 x2 x3) := event rfl
theorem switchEvent (x0 : Switch) (x1 : Edge) : Statement (.switchEvent x0 x1) := event rfl
theorem menuHoldExpiry : Statement .menuHoldExpiry := event rfl
theorem routePulseExpiry (x0 : Switch) (x1 : GeneralLine) : Statement (.routePulseExpiry x0 x1) := event rfl
theorem quietExpiry : Statement .quietExpiry := event rfl
theorem resetHoldExpiry (x0 : Bay) : Statement (.resetHoldExpiry x0) := event rfl
theorem bootLimitExpiry (x0 : Bay) : Statement (.bootLimitExpiry x0) := event rfl
theorem coolingExpiry (x0 : Bay) : Statement (.coolingExpiry x0) := event rfl
theorem overcurrent (x0 : Bay) (x1 : Bool) : Statement (.overcurrent x0 x1) := event rfl
theorem powerBayOn (x0 : Link) (x1 : Byte) :
    Statement (.powerBayOn x0 x1) := request rfl fun _ => by simp [Request.payload]
theorem powerBayOff (x0 : Link) (x1 : Byte) :
    Statement (.powerBayOff x0 x1) := request rfl fun _ => by simp [Request.payload]
theorem armBay (x0 : Link) (x1 : Byte) : Statement (.armBay x0 x1) := request rfl fun _ => by simp [Request.payload]
theorem clearFault (x0 : Link) (x1 : Byte) :
    Statement (.clearFault x0 x1) := request rfl fun _ => by simp [Request.payload]
theorem disableBay (x0 : Link) (x1 : Byte) :
    Statement (.disableBay x0 x1) := request rfl fun _ => by simp [Request.payload]
theorem enableBay (x0 : Link) (x1 : Byte) :
    Statement (.enableBay x0 x1) := request rfl fun _ => by simp [Request.payload]
theorem fieldSyncPulse (x0 : Bay) (x1 : Nat) (x2 : Nat) : Statement (.fieldSyncPulse x0 x1 x2) := event rfl
theorem fieldGapExpiry (x0 : Bay) : Statement (.fieldGapExpiry x0) := event rfl
theorem settleExpiry : Statement .settleExpiry := event rfl
theorem audioRampEnd : Statement .audioRampEnd := event rfl
theorem select (x0 : Link) (x1 : Byte) : Statement (.select x0 x1) := request rfl fun _ => by simp [Request.payload]
theorem latch (x0 : Link) : Statement (.latch x0) := request rfl fun _ => by simp [Request.payload]
theorem readCounters (x0 : Link) (x1 : Byte) (x2 : Byte) :
    Statement (.readCounters x0 x1 x2) := request rfl fun _ => by simp [Request.payload]
theorem freeSnapshot (x0 : Link) : Statement (.freeSnapshot x0) := request rfl fun _ => by simp [Request.payload]
theorem frameEnd (x0 : Link) (x1 : Byte) : Statement (.frameEnd x0 x1) := event rfl
theorem frameGapTimeout (x0 : Link) : Statement (.frameGapTimeout x0) := event rfl
theorem stopBitError (x0 : Link) : Statement (.stopBitError x0) := event rfl
theorem replySent (x0 : Link) (x1 : Bool) : Statement (.replySent x0 x1) := event rfl
theorem noticeSent (x0 : Link) : Statement (.noticeSent x0) := event rfl
theorem serviceKeyChange (x0 : Bool) : Statement (.serviceKeyChange x0) := event rfl
theorem status (x0 : Link) : Statement (.status x0) := request rfl fun _ => by simp [Request.payload]
theorem queryBay (x0 : Link) (x1 : Byte) :
    Statement (.queryBay x0 x1) := request rfl fun _ => by simp [Request.payload]
theorem restart (x0 : Link) : Statement (.restart x0) := request rfl fun _ => by simp [Request.payload]
theorem byteReceived (x0 : Link) (x1 : Byte) : Statement (.byteReceived x0 x1) := event rfl

end Sys2Proof.Laws.Framed
end

