-- ==== Sys2Proof/Laws/Requests.lean ====
section
/-! SUPPORT. What every request keeps, and what a link does with a request and with a byte (11). -/

namespace Sys2Proof.Machine

section
variable {s a : State}

theorem Moves.setTables (h : Moves s a) {x} (g : a.tables.lock ≠ .fixed) : Moves s (a.setTables x) :=
  h.trans (.tables x g)

theorem Moves.withBay (h : Moves s a) {x : Byte} {f : Bay → State × Answer} (hf : ∀ b, Moves s (f b).1) :
    Moves s (a.withBay x f).1 := by
  unfold State.withBay
  split
  · exact hf _
  · exact h

theorem Moves.askSetIntake (h : Moves s a) {v} : Moves s (a.askSetIntake v).1 := by
  unfold State.askSetIntake
  repeat' split
  · exact h
  · exact h
  · exact h.setFlags.evalClosure

theorem Moves.askArmCoils (h : Moves s a) : Moves s a.askArmCoils.1 := by
  unfold State.askArmCoils
  repeat' split
  · exact h
  · exact h.setIntake.followCoils.notifyIntake
  · exact h

theorem Moves.askGrant (h : Moves s a) {n} : Moves s (a.askGrant n).1 := by
  unfold State.askGrant
  repeat' split
  · exact h
  · exact h
  · rename_i k _ g
    exact ((h.mint (by omega)).bump (by decide)).storeChanged

theorem Moves.askWithdraw (h : Moves s a) {n} : Moves s (a.askWithdraw n).1 := by
  unfold State.askWithdraw
  repeat' split
  · exact h
  · exact h
  · rename_i k _ g
    exact (h.withdrawTokens (by omega)).storeChanged

theorem Moves.transfer (h : Moves s a) {b k} : Moves s (a.transfer b k).1 := by
  unfold State.transfer
  repeat' split
  · exact h
  · exact h
  · exact h
  · exact h
  · exact h.drawUnits.arbitrate

theorem Moves.askTransfer (h : Moves s a) {b n} : Moves s (a.askTransfer b n).1 := by
  unfold State.askTransfer
  split
  · exact h.transfer
  · exact h

theorem Moves.rule (h : Moves s a) {b} {f : CoinUnit → State} (hf : ∀ k, Moves s (f k)) : Moves s (a.rule b f).1 := by
  unfold State.rule
  repeat' split
  · exact h
  · exact h
  · exact hf _
  · exact h

theorem Moves.askVoid (h : Moves s a) {b} : Moves s (a.askVoid b).1 := h.withBay fun _ => h.rule fun _ => h.voidUnit

theorem Moves.askRefund (h : Moves s a) {b} : Moves s (a.askRefund b).1 :=
  h.withBay fun _ => h.rule fun _ => h.refundUnit

theorem Moves.askWriteProfile (h : Moves s a) {b g f} : Moves s (a.askWriteProfile b g f).1 := by
  unfold State.askWriteProfile State.writeProfile
  repeat' split
  · exact h
  · exact h
  · rename_i k _ _ _
    exact h.setTables (by simp_all)
  · exact h
  · exact h

theorem Moves.askWriteRoutes (h : Moves s a) {b st t n e} : Moves s (a.askWriteRoutes b st t n e).1 := by
  unfold State.askWriteRoutes State.writeRoutes
  dsimp only
  repeat' split
  · exact h
  · exact h
  · exact h
  · exact h
  · exact h.setTables (by simp_all)
  · exact h
  · exact h

theorem Moves.applyCabinet (h : Moves s a) {g w} : Moves s (a.applyCabinet g w) := by
  cases g
  · exact h.foldl (fun _ k => k.applyChute) _
  · exact h
  · exact h.setIntake

theorem Moves.tellJams (h : Moves s a) {g w} : Moves s (a.tellJams g w) := by
  cases g
  · exact h.foldl (fun _ k => k.notifyIntake) _
  · exact h
  · exact h

theorem Moves.takeCabinet (h : Moves s a) {g c} (k : a.tables.lock ≠ .fixed) : Moves s (a.takeCabinet g c) :=
  (h.setTables k).applyCabinet.settleClosure.tellJams.tellClosure

theorem Moves.askWriteCabinet (h : Moves s a) {g f} : Moves s (a.askWriteCabinet g f).1 := by
  unfold State.askWriteCabinet State.writeCabinet
  repeat' split
  · exact h
  · exact h
  · exact h
  · exact h
  · exact h.takeCabinet (by simp_all)
  · exact h

theorem Moves.askSetLock (h : Moves s a) {x} : Moves s (a.askSetLock x).1 := by
  unfold State.askSetLock
  repeat' split
  · exact h
  · exact h
  · rename_i g
    exact h.setTables g

theorem Moves.askLatch (h : Moves s a) {l} : Moves s (a.askLatch l).1 := by
  unfold State.askLatch
  repeat' split
  · exact h.setSnapshot
  · exact h
  · exact h

theorem Moves.askFreeSnapshot (h : Moves s a) {l} : Moves s (a.askFreeSnapshot l).1 := by
  unfold State.askFreeSnapshot
  split
  · exact h.setSnapshot
  · exact h

theorem Moves.askPowerOn (h : Moves s a) {b} : Moves s (a.askPowerOn b).1 := by
  unfold State.askPowerOn
  dsimp only
  repeat' split
  · exact h
  · exact h
  · exact h
  · exact h.setBay.enterStarting
  · exact h
  all_goals exact h.setBay

theorem Moves.askPowerOff (h : Moves s a) {b} : Moves s (a.askPowerOff b).1 := by
  unfold State.askPowerOff
  repeat' split
  · exact h
  · exact h
  · exact h.powerOff

theorem Moves.askPower (h : Moves s a) {b v} : Moves s (a.askPower b v).1 := by
  unfold State.askPower
  repeat' split
  · exact h.askPowerOn
  · exact h.askPowerOff
  · exact h

theorem Moves.askArm (h : Moves s a) {b} : Moves s (a.askArm b).1 := by
  unfold State.askArm
  repeat' split
  · exact h
  · exact h
  · exact h.setBay.notifyBay

theorem Moves.askClear (h : Moves s a) {b} : Moves s (a.askClear b).1 := by
  unfold State.askClear
  split
  · exact h
  · exact h.setBay.notifyBay

theorem Moves.askDisable (h : Moves s a) {b} : Moves s (a.askDisable b).1 := by
  unfold State.askDisable
  split
  · exact h
  · exact h.disable

theorem Moves.askEnable (h : Moves s a) {b} : Moves s (a.askEnable b).1 := by
  unfold State.askEnable
  split
  · exact h
  · exact h.setEnabled.setBay.notifyBay

theorem Moves.askSelect (h : Moves s a) {l t} : Moves s (a.askSelect l t).1 := by
  unfold State.askSelect
  repeat' split
  all_goals first | exact h | exact h.begin | exact h.retarget

/-- Every request moves the block, whatever its answer. -/
theorem Moves.perform (h : Moves s a) {l r} : Moves s (a.perform l r).1 := by
  cases r
  case status => exact h.setLink
  case select t =>
    unfold State.perform State.askSelectByte
    dsimp only
    split
    · exact h.askSelect
    · exact h
  case transfer => exact h.askTransfer
  case voidDoubt => exact h.askVoid
  case queryBay => exact h.withBay fun _ => h
  case latch => exact h.askLatch
  case readCounters =>
    unfold State.perform State.askReadCounters
    dsimp only
    split <;> exact h
  case freeSnapshot => exact h.askFreeSnapshot
  case readProfile =>
    unfold State.perform State.askReadProfile
    dsimp only
    split <;> exact h
  case writeProfile => exact h.askWriteProfile
  case readRoutes =>
    unfold State.perform State.askReadRoutes
    dsimp only
    repeat' split
    all_goals exact h
  case writeRoutes => exact h.askWriteRoutes
  case readCabinet =>
    unfold State.perform State.askReadCabinet
    dsimp only
    split <;> exact h
  case writeCabinet => exact h.askWriteCabinet
  case setLock => exact h.askSetLock
  case enableBay => exact h.withBay fun _ => h.askEnable
  case disableBay => exact h.withBay fun _ => h.askDisable
  case powerBay => exact h.askPower
  case armBay => exact h.withBay fun _ => h.askArm
  case clearFault => exact h.withBay fun _ => h.askClear
  case armCoils => exact h.askArmCoils
  case setIntake => exact h.askSetIntake
  case grant => exact h.askGrant
  case withdraw => exact h.askWithdraw
  case refundDoubt => exact h.askRefund
  case restart => exact h

/-! ## Links -/

theorem Moves.setRx (h : Moves s a) {l r} : Moves s (a.setRx l r) := h.setLink
theorem Moves.busyDiscard (h : Moves s a) {l t} : Moves s (a.busyDiscard l t) := by
  unfold State.busyDiscard
  split
  · exact h
  · exact h.setLink
theorem Moves.setPendingRequest (h : Moves s a) {l t} : Moves s (a.setPendingRequest l t) := h.setLink
theorem Moves.reply (h : Moves s a) {l t x y} : Moves s (a.reply l t x y) := h.setLink
theorem Moves.refuse (h : Moves s a) {l t r} : Moves s (a.refuse l t r) := h.setPendingRequest.reply
theorem Moves.takeRequest (h : Moves s a) {l r} : Moves s (a.takeRequest l r) :=
  h.setPendingRequest.perform.drain.reply
theorem Moves.judgeLevel (h : Moves s a) {l r} : Moves s (a.judgeLevel l r) := by
  unfold State.judgeLevel
  split
  · exact h.takeRequest
  · exact h.refuse
/-- A request that arrives on a link moves the block. -/
theorem Moves.command (h : Moves s a) {l r} : Moves s (a.command l r) := by
  unfold State.command
  repeat' split
  · exact h.busyDiscard
  · exact h.judgeLevel
  · exact h.refuse
theorem Moves.judgeFrame (h : Moves s a) {l t p} : Moves s (a.judgeFrame l t p) := by
  unfold State.judgeFrame
  split
  · exact h.refuse
  · exact h.refuse
  · exact h.judgeLevel
theorem Moves.frameComplete (h : Moves s a) {l n t p x} : Moves s (a.frameComplete l n t p x) := by
  unfold State.frameComplete
  repeat' split
  · exact h.busyDiscard
  · exact h.judgeFrame
  · exact h.refuse
theorem Moves.lengthError (h : Moves s a) {l} : Moves s (a.lengthError l) := by
  unfold State.lengthError
  split
  · exact h.busyDiscard
  · exact h.refuse
/-- A byte received moves the block. -/
theorem Moves.receive (h : Moves s a) {l x} : Moves s (a.receive l x) := by
  unfold State.receive
  repeat' split
  · exact h.setRx
  · exact h
  · exact h.setRx
  · exact h.setRx.lengthError
  · exact h.setRx
  · exact h.setRx
  · exact h.setRx
  · exact h.setRx
  · exact h.setRx.frameComplete
theorem Moves.requestDone (h : Moves s a) {l} : Moves s (a.requestDone l) := h.setLink
theorem Moves.emptySnapshot (h : Moves s a) {l} : Moves s (a.emptySnapshot l) := by
  unfold State.emptySnapshot
  split
  · exact h.setSnapshot
  · exact h
/-- The end of a reply moves the block, unless it is the ACK of a RESTART. -/
theorem Moves.replyDone (h : Moves s a) {l p i} (g : p.after ≠ .restart) : Moves s (a.replyDone l p i) := by
  unfold State.replyDone
  split
  · exact h.requestDone
  · exact h.emptySnapshot.requestDone
  · rename_i k
    exact absurd k g
theorem Moves.noticeSent (h : Moves s a) {l} : Moves s (a.noticeSent l) := by
  unfold State.noticeSent
  split
  all_goals first | exact h | exact h.setLink
theorem Moves.keyChange (h : Moves s a) {c} : Moves s (a.keyChange c) := h.setPins.setKey

/-- A tick's counting moves the block: no timer's advance changes which timers run, nor the source. -/
theorem Moves.tickCounts (h : Moves s a) : Moves s a.tickCounts := by
  have g : Moves a a.tickCounts :=
    { queue := rfl, fixed := fun _ => rfl, bounded := id, grows := fun _ _ => le_refl _, full := id,
      balance := fun _ => id, store := id
      blank := fun k g => k (by simpa [State.tickCounts, Crosspoint.tick] using g) }
  exact h.trans g

end

/-! ## What a link does with a request (R185, R186) -/

/-- A request that passes every test of R185 on a link with none pending is taken. -/
theorem State.command_taken (s : State) (l : Link) (r : Request) (h1 : (s.link l).busy = false) (h2 : r.wf = true)
    (h3 : s.holdsLevel l r = true) : s.command l r = s.takeRequest l r := by
  simp [State.command, State.judgeLevel, h1, h2, h3]

/-- A request without its level is refused with LEVEL. -/
theorem State.command_level (s : State) (l : Link) (r : Request) (h1 : (s.link l).busy = false) (h2 : r.wf = true)
    (h3 : s.holdsLevel l r = false) : s.command l r = s.refuse l r.typ .level := by
  simp [State.command, State.judgeLevel, h1, h2, h3]

/-- A request on a busy link is discarded (R186). -/
theorem State.command_busy (s : State) (l : Link) (r : Request) (h1 : (s.link l).busy = true) :
    s.command l r = s.busyDiscard l r.typ := by
  simp [State.command, h1]

theorem State.link_setLink (s : State) (l : Link) (k : LinkState) : (s.setLink l k).link l = k := by cases l <;> rfl

theorem State.link_setLink_other (s : State) {l m : Link} (k : LinkState) (h : m ≠ l) :
    (s.setLink l k).link m = s.link m := by
  cases l <;> cases m <;> first | rfl | exact absurd rfl h

/-- Without a report left by an earlier event there is none to take. -/
theorem State.takeLate_none {s : State} (h : s.late = none) : s.takeLate = s := by
  simp [State.takeLate, h]

/-- A report left by an earlier event is taken as any other. -/
theorem State.takeLate_some {s : State} {r : Report} (h : s.late = some r) :
    s.takeLate = (s.setLate none).takeReport r := by
  simp [State.takeLate, h]

/-- A report that may not wait is taken in its own event. -/
theorem State.takeOrLeave_now {s : State} {r : Report} (h : s.mayWait r = false) : s.takeOrLeave r = s.takeReport r := by
  simp [State.takeOrLeave, h]

/-- A report that may wait is taken, or is left with nothing else changed but the counter that draws the order. -/
theorem State.takeOrLeave_either {s : State} {r : Report} (h : s.mayWait r = true) :
    s.takeOrLeave r = s.drawn.takeReport r ∨ s.takeOrLeave r = s.drawn.setLate (some r) := by
  unfold State.takeOrLeave
  rw [if_pos h]
  split
  · exact .inl rfl
  · exact .inr rfl

/-- With no report waiting an event's end changes nothing. -/
theorem State.drain_settled (s : State) (h : s.Settled) : s.drain = s := by
  simp [State.drain, State.takeLate, State.drainWith, Config.reportFuel, h.1, h.2]

/-- An event leaves none of its reports in the list, and at most one aside (log entry 39). -/
theorem State.drain_reports (s : State) : s.drain.reports = [] := by
  have : ∀ n (t : State), (t.drainWith n).reports = [] := by
    intro n
    induction n with
    | zero => intro t; rfl
    | succ n ih =>
      intro t
      unfold State.drainWith
      split
      · assumption
      · exact ih _
  exact this _ _

end Sys2Proof.Machine
end

