-- ==== Sys2Proof/Laws/Replies.lean ====
section
/-! SUPPORT. When two states are one, what a notice does to each link, and what a request's reply leaves. -/

namespace Sys2Proof.Machine

/-- States that agree in every field are one. -/
@[ext] theorem State.ext {s t : State} (h0 : s.pins = t.pins) (h1 : s.intake = t.intake) (h2 : s.store = t.store) (h3 : s.feeders = t.feeders)
    (h4 : s.pulses = t.pulses) (h5 : s.filters = t.filters) (h6 : s.gate = t.gate) (h7 : s.tables = t.tables)
    (h8 : s.flags = t.flags) (h9 : s.panel = t.panel) (h10 : s.routing = t.routing) (h11 : s.power = t.power)
    (h12 : s.checkers = t.checkers) (h13 : s.monitor = t.monitor) (h14 : s.stage = t.stage) (h15 : s.audit = t.audit)
    (h16 : s.snapshot = t.snapshot) (h17 : s.links = t.links) (h18 : s.key = t.key) (h19 : s.reports = t.reports)
    (h20 : s.late = t.late) (h21 : s.choices = t.choices) (h22 : s.pending = t.pending) : s = t := by
  cases s
  cases t
  simp_all

/-- Two links that agree make two link records that agree. -/
theorem Links.ext_link {s t : State} (h : ∀ l, s.link l = t.link l) : s.links = t.links := by
  have h1 := h .selector
  have h2 := h .service
  cases hs : s.links
  cases ht : t.links
  simp_all [State.link]

/-- A notice on both links tells each. -/
@[simp] theorem State.link_notify (s : State) (n : Notice) (l : Link) : (s.notify n).link l = (s.link l).told n := by
  cases l <;> rfl

/-- A notice on one link tells that link and no other. -/
theorem State.link_notifyOn (s : State) (n : Notice) (l m : Link) :
    (s.notifyOn l n).link m = if m = l then (s.link m).told n else s.link m := by
  cases l <;> cases m <;> rfl

/-- Links are read from the field `links` alone. -/
theorem State.link_congr {s t : State} (h : s.links = t.links) (l : Link) : s.link l = t.link l := by
  cases l <;> simp [State.link, h]

/-- A reply that is owed is the reply the link shows. -/
theorem LinkState.replying_owes (k : LinkState) (typ : Byte) (r : Reply) (a : AfterReply) :
    (k.owes typ r a).replying = some r := by
  cases h : k.tx <;> simp [LinkState.owes, LinkState.replying, LinkState.txNext, h]

/-- A link with a request pending and no reply waiting keeps its transmitter as it is. -/
theorem LinkState.txNext_pending (k : LinkState) (p : PendingRequest) (h : k.pending = some p)
    (g : p.waiting = none) : k.txNext = k := by
  unfold LinkState.txNext
  split
  · rfl
  · rw [h]
    simp only [g]

/-- Placing a notice leaves the pending request. -/
@[simp] theorem LinkState.place_pending (k : LinkState) (n : Notice) : (k.place n).pending = k.pending := by
  unfold LinkState.place
  split <;> rfl

/-- A notice that comes while a request is being taken is placed, and not yet begun (R188). -/
theorem LinkState.told_pending (k : LinkState) (n : Notice) (p : PendingRequest) (h : k.pending = some p)
    (g : p.waiting = none) : k.told n = k.place n :=
  LinkState.txNext_pending _ p (by simpa using h) g

/-- A taken request is its owning rule's change, then its reply (R188). -/
theorem State.command_takes {s : State} {l : Link} {r : Request} (h : s.Takes l r) :
    s.command l r = s.takeRequest l r := s.command_taken l r h.free h.wf h.level

/-- Setting a link twice keeps the last. -/
@[simp] theorem State.setLink_setLink (s : State) (l : Link) (k k' : LinkState) :
    (s.setLink l k).setLink l k' = s.setLink l k' := by cases l <;> rfl

/-- Reading a link just set. -/
@[simp] theorem State.link_setLink_same (s : State) (l : Link) (k : LinkState) : (s.setLink l k).link l = k :=
  s.link_setLink l k

/-- A taken request whose change leaves no report: the change, then the reply on its link (R188). -/
theorem State.takeRequest_next {s t : State} {l : Link} {r : Request} {a : Answer}
    (hp : (s.setPendingRequest l r.typ).perform l r = (t, a)) (ht : t.Settled) :
    s.takeRequest l r = t.setLink l ((t.link l).owes r.typ (a.reply r.typ) (s.afterReply l r)) := by
  unfold State.takeRequest
  rw [hp]
  show t.drain.reply l r.typ a (s.afterReply l r) = _
  rw [State.drain_settled t ht]
  rfl

/-- A request refused by its owning rule changes nothing but its own link (R189). -/
theorem State.takeRequest_nak {s : State} {l : Link} {r : Request} {why : NakReason} (hs : s.Settled)
    (hp : (s.setPendingRequest l r.typ).perform l r = (s.setPendingRequest l r.typ, .nak why))
    (ha : s.afterReply l r = .nothing) :
    s.takeRequest l r = s.setLink l ((s.link l).owes r.typ (.nak r.typ why) .nothing) := by
  have ht : (s.setPendingRequest l r.typ).Settled := by cases l <;> exact hs
  rw [State.takeRequest_next hp ht, ha]
  simp [State.setPendingRequest, LinkState.owes, Answer.reply]

/-- A request acknowledged without a change changes nothing but its own link (R188). -/
theorem State.takeRequest_ack {s : State} {l : Link} {r : Request} {data : List Byte} (hs : s.Settled)
    (hp : (s.setPendingRequest l r.typ).perform l r = (s.setPendingRequest l r.typ, .ack data)) :
    s.takeRequest l r = s.setLink l ((s.link l).owes r.typ (.ack r.typ data) (s.afterReply l r)) := by
  have ht : (s.setPendingRequest l r.typ).Settled := by cases l <;> exact hs
  rw [State.takeRequest_next hp ht]
  simp [State.setPendingRequest, LinkState.owes, Answer.reply]

end Sys2Proof.Machine
end

