-- ==== Sys2Proof/Laws/Ticks.lean ====
section
/-! SUPPORT. What a strobe slot and a tick can do: the fields a slot moves, and the events taken one after another. -/

namespace Sys2Proof.Machine

/-! ## The panel at a slot's end -/

@[simp] theorem Panel.slotEnd_strobe (p : Panel) (x : BitVec 64) : (p.slotEnd x).strobe = p.strobe + 1 := rfl

@[simp] theorem Panel.slotEnd_settled (p : Panel) (x : BitVec 64) : (p.slotEnd x).settled = p.settled := by
  unfold Panel.slotEnd Panel.debounced Panel.gathered
  repeat' split
  all_goals rfl

@[simp] theorem Panel.slotEnd_pressed (p : Panel) (x : BitVec 64) : (p.slotEnd x).pressed = p.pressed := by
  unfold Panel.slotEnd Panel.debounced Panel.gathered
  repeat' split
  all_goals rfl

@[simp] theorem Panel.slotEnd_mask (p : Panel) (x : BitVec 64) : (p.slotEnd x).mask = p.mask := by
  unfold Panel.slotEnd Panel.debounced Panel.gathered
  repeat' split
  all_goals rfl

@[simp] theorem Panel.slotEnd_menuHold (p : Panel) (x : BitVec 64) : (p.slotEnd x).menuHold = p.menuHold := by
  unfold Panel.slotEnd Panel.debounced Panel.gathered
  repeat' split
  all_goals rfl

/-- After the first complete debounce a slot moves the counts of its own switches alone. -/
theorem Panel.slotEnd_of_settled {p : Panel} {x : BitVec 64} (h : p.settled = true) :
    p.slotEnd x = { p.debounced x with strobe := p.strobe + 1 } := by
  simp [Panel.slotEnd, h]

/-- Before it a slot keeps its samples for the scan. -/
theorem Panel.slotEnd_of_unsettled {p : Panel} {x : BitVec 64} (h : p.settled = false) :
    p.slotEnd x = { p.gathered x with strobe := p.strobe + 1 } := by
  simp [Panel.slotEnd, h]

/-! ## Events taken one after another -/

theorem State.takeDue_of_due {s : State} {i : Instr} (h : i ∈ s.due) : s.takeDue i = exec i s := by
  simp [State.takeDue, h]

theorem State.takeDue_of_not_due {s : State} {i : Instr} (h : i ∉ s.due) : s.takeDue i = .next s := by
  simp [State.takeDue, h]

@[simp] theorem takeAllDue_nil (s : State) : takeAllDue [] s = .next s := rfl

theorem takeAllDue_cons_of_next {i : Instr} {rest : List Instr} {s t : State} (h : s.takeDue i = .next t) :
    takeAllDue (i :: rest) s = takeAllDue rest t := by
  simp [takeAllDue, h]

theorem insertRanked_perm (x : Nat × List Instr) (l : List (Nat × List Instr)) : (insertRanked x l).Perm (x :: l) := by
  induction l with
  | nil => exact .refl _
  | cons y rest ih =>
    unfold insertRanked
    split
    · exact .refl _
    · exact (ih.cons y).trans (.swap x y rest)

/-- The free order holds the groups that are due, and no other. -/
theorem inFreeRank_perm (choice : Nat) (gs : List (List Instr)) : (inFreeRank choice gs).Perm gs := by
  have ranked : ∀ l : List (Nat × List Instr), (l.foldr insertRanked []).Perm l := by
    intro l
    induction l with
    | nil => exact .refl _
    | cons x rest ih => exact (insertRanked_perm x _).trans (ih.cons x)
  unfold inFreeRank
  refine ((ranked _).map Prod.snd).trans ?_
  simp [List.map_map, Function.comp_def]

/-- What every command keeps is kept by events taken one after another. -/
theorem takeAllDue_keeps {P : State → Prop} (keep : ∀ (i : Instr) (s t : State), P s → exec i s = .next t → P t) :
    ∀ {order : List Instr} {s t : State}, P s → takeAllDue order s = .next t → P t := by
  intro order
  induction order with
  | nil =>
    intro s t hs h
    cases h
    exact hs
  | cons i rest ih =>
    intro s t hs h
    cases hi : s.takeDue i with
    | next u =>
      rw [takeAllDue_cons_of_next hi] at h
      refine ih ?_ h
      by_cases hd : i ∈ s.due
      · rw [State.takeDue_of_due hd] at hi
        exact keep i s u hs hi
      · rw [State.takeDue_of_not_due hd] at hi
        cases hi
        exact hs
    | fault f => simp [takeAllDue, hi] at h
    | refused r => simp [takeAllDue, hi] at h

/-- What every command, the counts of a tick and a slot's samples keep is kept by a slot. -/
theorem State.slot_keeps {P : State → Prop} (keep : ∀ (i : Instr) (s t : State), P s → exec i s = .next t → P t)
    (panel : ∀ s : State, P s → P (s.setPanel (s.panel.slotEnd s.pins.panel))) (counts : ∀ s : State, P s → P s.tickCounts)
    (drawn : ∀ s : State, P s → P s.drawn) (drain : ∀ s : State, P s → P s.drain) {s t : State} (hs : P s) (h : s.slot = .next t) : P t := by
  have boundary : ∀ {l : List Instr} {r : Result} {u : State}, (∀ v, r = .next v → P v) →
      l.foldl (fun r i => match r with
        | .next u => exec i u
        | .fault f => .fault f
        | .refused q => .refused q) r = .next u → P u := by
    intro l
    induction l with
    | nil => exact fun hr h => hr _ h
    | cons i rest ih =>
      intro r u hr h
      refine ih ?_ h
      intro v hv
      cases r with
      | next w => exact keep i w v (hr w rfl) hv
      | fault f => cases hv
      | refused q => cases hv
  unfold State.slot at h
  dsimp only at h
  split at h
  · unfold State.tick at h
    split at h
    · rename_i u hu
      refine takeAllDue_keeps keep (drawn u ?_) h
      unfold State.periodBoundary at hu
      split at hu
      · rename_i v hv
        refine boundary ?_ hu
        intro w hw
        cases hw
        exact keep _ _ _ (counts _ (panel _ (drain s hs))) hv
      · cases hu
      · cases hu
    · cases h
    · cases h
  · exact takeAllDue_keeps keep (panel _ (drain s hs)) h

/-- What every command and every slot keeps is kept by every step, for a property that the queue does not touch. -/
theorem step_keeps {P : State → Prop} (keep : ∀ (i : Instr) (s t : State), P s → exec i s = .next t → P t)
    (slot : ∀ s t : State, P s → s.slot = .next t → P t) (queue : ∀ (s : State) (q : List Instr), P s → P (s.setPending q))
    {s t : State} (hs : P s) (h : step s = .next t) : P t := by
  unfold step at h
  split at h
  · exact slot s t hs h
  · exact keep _ _ _ (queue s _ hs) h

end Sys2Proof.Machine
end

