-- ==== Sys2Proof/Tests/Slice0.lean ====
section
/-! SUPPORT. Tests of the model's own: ill-formed commands, the reset state, single commands, and, for every statement
with hypotheses, a state and operands that meet them. -/

namespace Sys2Proof.Tests
open Sys2Proof.Machine

set_option maxRecDepth 10000

/-! ## States to test on -/

/-- The state a result goes on from. -/
def after (s : State) : Result → State
  | .next t => t
  | .fault _ => s
  | .refused _ => s

/-- After reset, with the service key closed. -/
def keyed : State := State.reset.setKey { closed := true, count := 0 }

/-- A state with a bay in a power state. -/
def inPower (s : State) (b : Bay) (p : PowerState) : State := s.setBay b { s.bay b with state := p }

/-- A bay's profile with another coin group and play group. -/
def withProfile (s : State) (b : Bay) (g : CoinGroup) (p : PlayGroup) : State :=
  s.setProfile b { s.profile b with coin := g, play := p }

/-- A state whose checker of a bay is LOCKED. -/
def locked (s : State) (b : Bay) : State :=
  s.setChecker b { Checker.fresh with state := .locked, begun := true }

/-- Tokens granted to the pool, and counted. -/
def funded (s : State) (n : Nat) : State :=
  ((s.setStore (s.store.create .grant none n)).bump tokensInIx n).bump tokensGrantedIx n

/-- PLAY on bay 2: the board RUNNING, its checker LOCKED, its picture and its sound on, two routes from P1 and P2, and
the panel past its first complete debounce. -/
def playing : State :=
  let s := (inPower (locked keyed 2) 2 .running).setStage (.play 2)
  let s := s.setMonitor { s.monitor with source := .bay 2, audio := .full, gain := Config.gainFull }
  let s := s.setPanel { s.panel with settled := true }
  s.setRoutes 2 [⟨0, 4, .direct, 10⟩, ⟨1, 5, .pulse, 20⟩, ⟨9, 6, .pulse, 30⟩]

/-- A coin unit of bay 2. -/
def coinUnit (n : UnitNo) (c : UnitCause) (st : UnitStatus) : CoinUnit where
  number := n
  tokens := [BitVec.zeroExtend 16 n]
  line := .one
  cause := c
  status := st

/-- `playing` with a unit in the slot of bay 2 and one queued behind it, each of one of the tokens granted. -/
def delivering (c : UnitCause) (st : UnitStatus) (held : Option PulseId) : State :=
  let s := funded playing 3
  let s := s.setStore
    { arrival := [⟨0, none, .grant, .feeder 2 0⟩, ⟨1, none, .grant, .feeder 2 1⟩, ⟨2, none, .grant, .pool⟩], allocator := 3 }
  s.setFeeder 2
    { queue := [coinUnit 1 .transfer .queued], slot := some (coinUnit 0 c st), held := held
      window := if st = .echoWait then some { count := 7, limit := 500 } else none, nextUnit := 2 }

/-- The pulse of the slot unit of `delivering`, in a phase. -/
def pulseIn (ph : PulsePhase) : Pulse := { Pulse.capture 2 (coinUnit 0 .transfer .queued) (playing.profile 2).coin with phase := ph }

/-- `delivering` with pulse unit A in a phase of its pulse. -/
def pulsing (c : UnitCause) (st : UnitStatus) (ph : PulsePhase) : State :=
  (delivering c st (some .a)).setPulse .a (some (pulseIn ph))

/-- A gate that charges bay 2 for one unit, number 0. -/
def charging : Gate := { Gate.fresh with state := .paying, bay := some 2, switch := some 0, owed := 1, units := [0] }

/-- `playing` with a switch pressed. -/
def pressing (w : Switch) : State := playing.setPanel { playing.panel with pressed := [w] }

/-- HANDOVER from MENU to a bay, in a phase. -/
def handing (s : State) (b : Bay) (ph : Phase) : State :=
  s.setStage (.handover { HandoverRecord.begun .menu (.bay b) (.select .service) with phase := ph })

/-- A link takes a request when four tests hold. -/
theorem takes {s : State} {l : Link} {r : Request}
    (h : ((s.link l).busy = false ∧ r.wf = true) ∧ s.holdsLevel l r = true ∧ s.reports = [] ∧ s.late = none) : s.Takes l r :=
  ⟨h.1.1, h.1.2, h.2.1, h.2.2⟩

/-! ## Ill-formed commands -/

/-- WRITE_PROFILE with 14 bytes for the general group, which takes 15. -/
theorem test_wf_profile_length : (Instr.writeProfile .service 0 0 (List.replicate 14 0)).wf = false
    ∧ (Instr.writeProfile .service 0 0 (List.replicate 15 0)).wf = true := by decide

/-- WRITE_PROFILE of no group whose payload would pass 60 bytes. -/
theorem test_wf_profile_payload : (Instr.writeProfile .service 0 4 (List.replicate 59 0)).wf = false
    ∧ (Instr.writeProfile .service 0 4 (List.replicate 58 0)).wf = true := by decide

/-- WRITE_ROUTES of two entries in five bytes. -/
theorem test_wf_routes_length : (Instr.writeRoutes .service 0 0 0 2 (List.replicate 5 0)).wf = false
    ∧ (Instr.writeRoutes .service 0 0 0 2 (List.replicate 6 0)).wf = true := by decide

/-- WRITE_ROUTES of a count out of range whose payload would pass 60 bytes. -/
theorem test_wf_routes_payload : (Instr.writeRoutes .service 0 0 0 19 (List.replicate 57 0)).wf = false
    ∧ (Instr.writeRoutes .service 0 0 0 19 (List.replicate 56 0)).wf = true := by decide

/-- WRITE_CABINET with 8 bytes for the system group, which takes 7. -/
theorem test_wf_cabinet_length : (Instr.writeCabinet .service 2 (List.replicate 8 0)).wf = false
    ∧ (Instr.writeCabinet .service 2 (List.replicate 7 0)).wf = true := by decide

/-- WRITE_CABINET of no group whose payload would pass 60 bytes. -/
theorem test_wf_cabinet_payload : (Instr.writeCabinet .service 3 (List.replicate 60 0)).wf = false
    ∧ (Instr.writeCabinet .service 3 (List.replicate 59 0)).wf = true := by decide

/-! ## Reset and words -/

/-- The state after reset is what a part reset that finds the store invalid leaves. -/
theorem test_reset_is_part_reset : State.reset.partReset false = State.reset := by decide

/-- A part reset that finds the factory tables intact keeps them. -/
theorem test_part_reset_keeps : ((funded keyed 5).partReset true).store.poolCount = 5 := by decide

/-- No word spells a command. -/
theorem test_no_word : decodeTableWord 8 7 = none ∧ State.reset.withFetchWord 8 7 = State.reset := ⟨rfl, rfl⟩

/-- The example of R183, and the CRC of a longer run. -/
theorem test_crc : crc8 [0x00, 0x01] = 0x07 ∧ crc8 [0x31, 0x32, 0x33, 0x34, 0x35, 0x36, 0x37, 0x38, 0x39] = 0xF4 := by
  decide

/-! ## Single commands -/

/-- A coin of 25 ms at chute A becomes a token. -/
theorem test_coin :
    let s := after keyed (exec (.coinRelease 0 25) (after keyed (exec (.coinActiveEdge 0) keyed)))
    s.store.poolCount = 1 ∧ s.counter (coinsIx 0) = 1 ∧ s.counter tokensInIx = 1 ∧ (s.chute 0).state = .idle := by
  decide

/-- A pulse of 20 ms is a coin, one of 19 ms is noise. -/
theorem test_coin_min_width :
    let s := after keyed (exec (.coinActiveEdge 0) keyed)
    (after s (exec (.coinRelease 0 20) s)).store.live = 1 ∧ (after s (exec (.coinRelease 0 19) s)).store.live = 0 := by
  decide

/-- GRANT is for the operator. -/
theorem test_grant_level : State.reset.Refuses (.grant .service 1) .service (.grant 1) .level := rfl

/-- A request on a link that has one sets the busy mark. -/
theorem test_busy_mark :
    let s := after keyed (exec (.status .service) keyed)
    ((after s (exec (.latch .service) s)).link .service).mark = some 0x06 := by decide

/-- TRANSFER of one unit starts a pulse on line 1 of bay 2. -/
theorem test_transfer_pulses :
    let s := funded playing 3
    (after s (exec (.transfer .service 2 1) s)).pulse .a = some { pulseIn .active with count := 0 } := by decide

/-- The completing confirmation fires the gate. -/
theorem test_fires :
    let s := (pulsing .gate .confirmedInTrail .trail).setGate charging
    let t := after s (exec (.trailEnd .a) s)
    t.gate.state = .firing ∧ t.counter (playsIx 2) = 1 ∧ t.counter tokensSpentIx = 1 ∧ t.store.live = 2 := by
  decide

/-- A switch of the active bay drives its line. -/
theorem test_direct_route :
    let s := after playing (exec (.switchEvent 9 .press) playing)
    s.lineActive 2 6 = true ∧ s.lineActive 2 4 = false := by decide

/-- `s` at the slot of a strobe of the panel scan. -/
def atStrobe (s : State) (k : Strobe) : State := s.setPanel { s.panel with strobe := k }

/-- A slot drives the next strobe, and strobe 7 ends a full scan of the switches. -/
theorem test_slot_strobes : (after keyed keyed.slot).panel.strobe = 1
    ∧ ((atStrobe keyed 7).panel.slotEnd 0).strobe = 0 ∧ ((atStrobe keyed 7).panel.slotEnd 0).samples = [0] := by
  decide +kernel

/-! ## Witnesses: states and operands that meet a statement's hypotheses, clause by clause -/

theorem test_w_empty_queue : keyed.pending = [] := rfl

/-- Strobes 0 and 7, before the first complete debounce and after it. -/
theorem test_w_slot : (keyed.panel.settled = false ∧ keyed.panel.strobe ≠ 7)
    ∧ ((atStrobe keyed 7).panel.settled = false ∧ (atStrobe keyed 7).panel.strobe = 7)
    ∧ playing.panel.settled = true ∧ playing.pending = [] := by decide

/-- Every running count of the tick statement, in one state. -/
def ticking : State :=
  let s := pulsing .transfer .echoWait .active
  let s := s.setPins { s.pins with coin := s.pins.coin.set 0 true }
  let s := s.setChute 0 { s.chute 0 with state := .inCoin }
  let s := s.setChute 1 { s.chute 1 with state := .jammed }
  let s := s.setFilter 2 .one (.counting 0)
  let w := some { count := 499, limit := 500 }
  let s := (s.setGate { s.gate with timer := w }).setPanel { s.panel with menuHold := w }
  let s := s.setRouting { pulses := [⟨1, 5, ⟨19, 20⟩⟩], quiet := w }
  let s := (s.setMonitor { s.monitor with settle := w }).setRx .service (.typ 0 20)
  s.setBay 1 { s.bay 1 with state := .cooling, timer := w }

theorem test_w_tick :
    let w := some { count := 499, limit := 500 }
    ((ticking.chute 0).state = .inCoin ∧ ticking.pins.coin[(0 : Chute)] = true)
    ∧ ((ticking.chute 1).state = .jammed ∧ ticking.pins.coin[(1 : Chute)] = false)
    ∧ ticking.pulse .a = some (pulseIn .active) ∧ ticking.filter 2 .one = .counting 0
    ∧ (ticking.feeder 2).window = some { count := 7, limit := 500 }
    ∧ (ticking.bay 1).timer = w ∧ (ticking.checker 2).state = .locked
    ∧ ticking.intake.coils[(0 : Chute)] = .pullIn 0 ∧ ticking.gate.timer = w ∧ ticking.panel.menuHold = w
    ∧ ticking.routing.quiet = w ∧ ticking.monitor.settle = w ∧ (ticking.link .service).rx ≠ .hunt := by
  decide

/-- At the first tick after reset nothing falls due. -/
theorem test_w_tick_quiet :
    let v := State.tickCounts { atStrobe keyed 7 with panel := (atStrobe keyed 7).panel.slotEnd keyed.pins.panel }
    (atStrobe keyed 7).pending = [] ∧ (atStrobe keyed 7).panel.strobe = 7
    ∧ State.due { v with intake := { v.intake with activeDuty := v.intake.pendingDuty } } = [] := by
  decide +kernel

/-- An event that is due, and events that are not. -/
theorem test_w_due : Instr.coolingExpiry 1 ∉ ticking.due ∧ Instr.echo 2 .one ∉ ticking.due
    ∧ Instr.menuHoldExpiry ∈ (ticking.setPanel { ticking.panel with menuHold := some { count := 500, limit := 500 } }).due
    ∧ ∃ t, exec .menuHoldExpiry
        (ticking.setPanel { ticking.panel with menuHold := some { count := 500, limit := 500 } }) = .next t := by
  refine ⟨by decide +kernel, by decide +kernel, by decide +kernel, _, rfl⟩

/-- A board in service with a unit on its way, the counters accounting for the store, and one command waiting. -/
def serving : State := (delivering .transfer .echoWait none).setPending [.echoWindowExpiry 2]

theorem test_w_step_answers : ∃ t, step serving = .next t := ⟨_, rfl⟩

theorem test_w_token_account : serving.Bounded ∧ serving.Balanced ∧ serving.StoreOk := by
  unfold State.Bounded State.Balanced State.StoreOk
  decide

theorem test_w_settling_blank :
    let s := serving.setMonitor { serving.monitor with source := .blank, settle := some { count := 0, limit := 1 } }
    s.SettlesBlank ∧ s.monitor.settle.isSome = true := by
  unfold State.SettlesBlank
  decide

theorem test_w_tables : serving.TablesOk := by
  unfold State.TablesOk
  decide

theorem test_w_queues : serving.reports = [] ∧ serving.late = none ∧ serving.QueuesOk := by
  unfold State.QueuesOk
  decide

theorem test_w_feeders : serving.FeedersOk := by
  unfold State.FeedersOk
  decide

/-- `serving` with a second board, RUNNING in no role and in the warm list. -/
def warmed : State := (inPower serving 5 .running).setWarm [5]

theorem test_w_load : warmed.HandoverOk ∧ warmed.WarmOk ∧ warmed.WithinBudget := by
  refine ⟨?_, ?_, ?_⟩
  · intro r h
    cases h
  · unfold State.WarmOk
    decide
  · unfold State.WithinBudget
    decide

/-- Counters at the maximum are bounded. -/
theorem test_w_counter : ({ keyed with audit := { counters := Vector.replicate 50 16777215, full := false } } : State).Bounded := by
  unfold State.Bounded
  decide

theorem test_w_counters_next : keyed.Bounded ∧ ∃ t, exec (.grant .service 16) keyed = .next t := by
  refine ⟨?_, _, rfl⟩
  unfold State.Bounded
  decide

theorem test_w_fixed_lock :
    let s := keyed.setTables { keyed.tables with lock := .fixed }
    s.tables.lock = .fixed ∧ ∃ t, exec (.partReset .whole) s = .next t := ⟨rfl, _, rfl⟩

/-- A power failure in the event that completes a charge, and in one that does not. -/
theorem test_w_torn :
    let s := (pulsing .gate .confirmedInTrail .trail).setGate charging
    let u := pulsing .transfer .confirmedInTrail .trail
    (s.gate.state = .paying ∧ (after s (exec (.trailEnd .a) s)).gate.state = .firing
      ∧ (after s (exec (.trailEnd .a) s)).gate.bay = some 2)
    ∧ (after u (exec (.trailEnd .a) u)).gate.state ≠ .firing := by decide

/-! ### Links -/

theorem test_w_link_busy :
    (Instr.grant .service 16).request? = some (.service, .grant 16)
    ∧ ((after keyed (exec (.status .service) keyed)).link .service).busy = true := by decide

theorem test_w_link_format :
    (Instr.writeCabinet .service 2 []).request? = some (.service, .writeCabinet 2 [])
    ∧ (keyed.link .service).busy = false ∧ (Request.writeCabinet 2 []).wf = false := by decide

theorem test_w_link_level :
    (Instr.grant .selector 1).request? = some (.selector, .grant 1)
    ∧ (keyed.link .selector).busy = false ∧ (Request.grant 1).wf = true
    ∧ keyed.holdsLevel .selector (.grant 1) = false := by decide

/-! ### Coin intake -/

/-- A chute in a pulse of a coin of weight `n`, its input active. -/
def inCoin (s : State) (n : Nat) : State :=
  (s.setPins { s.pins with coin := s.pins.coin.set 0 true }).setChute 0
    { state := .inCoin, width := 0, minWidth := 20, maxWidth := 150, weight := n, jamCount := 0 }

theorem test_w_coin_noise : ((inCoin keyed 1).chute 0).state = .inCoin
    ∧ ((inCoin keyed 1).chute 0).width + 19 < ((inCoin keyed 1).chute 0).minWidth
    ∧ ((inCoin keyed 1).chute 0).width + 19 ≤ ((inCoin keyed 1).chute 0).maxWidth := by decide

theorem test_w_coin_valid : ((inCoin keyed 64).chute 0).state = .inCoin
    ∧ ((inCoin keyed 64).chute 0).minWidth ≤ ((inCoin keyed 64).chute 0).width + 20
    ∧ ((inCoin keyed 64).chute 0).width + 150 ≤ ((inCoin keyed 64).chute 0).maxWidth
    ∧ ((inCoin keyed 64).chute 0).weight ≤ (inCoin keyed 64).store.free := by decide

theorem test_w_coin_overflow :
    let s := inCoin (funded keyed 57) 8
    (s.chute 0).state = .inCoin ∧ (s.chute 0).minWidth ≤ (s.chute 0).width + 150
    ∧ (s.chute 0).width + 150 ≤ (s.chute 0).maxWidth ∧ s.store.free < (s.chute 0).weight := by decide

theorem test_w_coin_too_long : ((inCoin keyed 1).chute 0).state = .inCoin
    ∧ ((inCoin keyed 1).chute 0).maxWidth < ((inCoin keyed 1).chute 0).width + 151 := by decide

theorem test_w_jam : ((inCoin keyed 1).chute 0).state = .inCoin
    ∧ ((keyed.setChute 3 (ChuteRecord.fresh .jammed)).chute 3).state = .jammed
    ∧ (keyed.setChute 3 (ChuteRecord.fresh .jammed)).pins.coin[(3 : Chute)] = false := by decide

theorem test_w_coils : keyed.intake.coils[(0 : Chute)] = .pullIn 0
    ∧ (after keyed (exec (.pullInExpiry 0) keyed)).intake.coils[(0 : Chute)] = .hold
    ∧ keyed.intake.faultLatch = false
    ∧ (after keyed (exec (.coilFault true) keyed)).intake.faultLatch = true := by decide

theorem test_w_set_intake : keyed.Takes .service (.setIntake 2) ∧ 1 < (2 : Byte).toNat
    ∧ keyed.Takes .service (.setIntake 1) ∧ (1 : Byte).toNat = true.toNat ∧ keyed.flags.intakeOpen = true
    ∧ keyed.Takes .service (.setIntake 0) ∧ (0 : Byte).toNat = false.toNat ∧ keyed.flags.intakeOpen ≠ false :=
  ⟨takes (by decide), by decide, takes (by decide), rfl, rfl, takes (by decide), rfl, by decide⟩

/-- `keyed` with its coils tripped, the fault input then active or not. -/
def coilsTripped (active : Bool) : State :=
  let s := after keyed (exec (.coilFault true) keyed)
  s.setPins { s.pins with coilFault := active }

theorem test_w_arm_coils :
    (coilsTripped true).Takes .service .armCoils ∧ (coilsTripped true).pins.coilFault = true
    ∧ keyed.Takes .service .armCoils ∧ keyed.pins.coilFault = false ∧ keyed.intake.faultLatch = false
    ∧ (coilsTripped false).Takes .service .armCoils ∧ (coilsTripped false).pins.coilFault = false
    ∧ (coilsTripped false).intake.faultLatch = true :=
  ⟨takes (by decide), by decide, takes (by decide), rfl, rfl, takes (by decide),
    by decide, by decide⟩

theorem test_w_grant :
    (keyed.Takes .service (.grant 0) ∧ (0 : Byte).toNat < 1) ∧ (keyed.Takes .service (.grant 17) ∧ 16 < (17 : Byte).toNat)
    ∧ ((funded keyed 49).Takes .service (.grant 16) ∧ (funded keyed 49).store.free < (16 : Byte).toNat)
    ∧ ((funded keyed 48).Takes .service (.grant 16) ∧ (16 : Byte).toNat ≤ 16
        ∧ (16 : Byte).toNat ≤ (funded keyed 48).store.free) :=
  ⟨⟨takes (by decide), by decide⟩, ⟨takes (by decide), by decide⟩,
    ⟨takes (by decide), by decide⟩, takes (by decide), by decide, by decide⟩

theorem test_w_withdraw :
    (keyed.Takes .service (.withdraw 0) ∧ (0 : Byte).toNat < 1)
    ∧ (keyed.Takes .service (.withdraw 65) ∧ 64 < (65 : Byte).toNat)
    ∧ ((funded keyed 63).Takes .service (.withdraw 64) ∧ (funded keyed 63).store.poolCount < (64 : Byte).toNat)
    ∧ ((funded keyed 64).Takes .service (.withdraw 64) ∧ (64 : Byte).toNat ≤ (funded keyed 64).store.poolCount) :=
  ⟨⟨takes (by decide), by decide⟩, ⟨takes (by decide), by decide⟩,
    ⟨takes (by decide), by decide⟩, takes (by decide), by decide⟩

theorem test_w_created_token : (funded keyed 63).store.live ≤ 63 := by decide

theorem test_w_return : (delivering .gate .doubt none).store.countUnits 2 [0] ≠ 0 := by decide

/-! ### Feeders, pulses and echoes -/

theorem test_w_transfer_range :
    (keyed.Takes .service (.transfer 8 1) ∧ 7 < (8 : Byte).toNat)
    ∧ (keyed.Takes .service (.transfer 2 0) ∧ (0 : Byte).toNat < 1)
    ∧ (keyed.Takes .service (.transfer 2 9) ∧ 8 < (9 : Byte).toNat)
    ∧ (keyed.Takes .service (.transfer 7 8) ∧ (7 : Byte).toNat = (7 : Bay).val ∧ (keyed.bay 7).state ≠ .running) :=
  ⟨⟨takes (by decide), by decide⟩, ⟨takes (by decide), by decide⟩,
    ⟨takes (by decide), by decide⟩, takes (by decide), by decide, by decide⟩

theorem test_w_transfer :
    ((funded playing 7).Takes .service (.transfer 2 8) ∧ ((funded playing 7).bay 2).state = .running
      ∧ ((funded playing 7).profile 2).play.payMode ≠ .freePlay
      ∧ (funded playing 7).store.poolCount < (8 : Byte).toNat * ((funded playing 7).profile 2).coin.rate)
    ∧ ((funded playing 8).Takes .service (.transfer 2 8)
      ∧ (8 : Byte).toNat * ((funded playing 8).profile 2).coin.rate ≤ (funded playing 8).store.poolCount
      ∧ (8 : Byte).toNat ≤ 8 - ((funded playing 8).feeder 2).queue.length)
    ∧ ((funded (delivering .transfer .sending none) 9).Takes .service (.transfer 2 8)
      ∧ (8 : Byte).toNat * ((delivering .transfer .sending none).profile 2).coin.rate
          ≤ (funded (delivering .transfer .sending none) 9).store.poolCount
      ∧ 8 - ((funded (delivering .transfer .sending none) 9).feeder 2).queue.length < (8 : Byte).toNat) :=
  ⟨⟨takes (by decide), by decide⟩, ⟨takes (by decide), by decide⟩,
    takes (by decide), by decide⟩

theorem test_w_formed_unit :
    let s := delivering .transfer .sending none
    s.StoreOk ∧ (s.feeder 2).numbers.length ≤ 9 := by
  unfold State.StoreOk
  decide

/-- Bays 1 and 6 wait for a pulse unit, the rotation pointer at 4, in an arbiter mode. -/
def contended (m : ArbiterMode) : State :=
  let f : Feeder := { Feeder.fresh with queue := [coinUnit 0 .transfer .queued] }
  let s := (keyed.setFeeder 1 f).setFeeder 6 f
  let s := s.setPulses { s.pulses with pointer := 4 }
  s.setCabinet { s.tables.cabinet with system := { s.tables.cabinet.system with arbiter := m } }

theorem test_w_arbiter :
    ((contended .fixed).tables.cabinet.system.arbiter = .fixed ∧ (contended .fixed).chosenBay = some 1)
    ∧ ((contended .rotating).tables.cabinet.system.arbiter = .rotating ∧ (contended .rotating).chosenBay = some 6)
    ∧ (contended .rotating).freePulse.isSome = true := by decide

theorem test_w_pulse :
    ((contended .fixed).feeder 1).queue = [coinUnit 0 .transfer .queued]
    ∧ (pulsing .transfer .sending .lead).pulse .a = some (pulseIn .lead)
    ∧ ((pulsing .transfer .sending .lead).feeder 2).slot = some (coinUnit 0 .transfer .sending)
    ∧ (pulsing .transfer .echoWait .active).pulse .a = some (pulseIn .active) := by decide

theorem test_w_trail_end :
    let s := fun st => pulsing .transfer st .trail
    (s .echoWait).Settled ∧ (s .echoWait).pulse .a = some (pulseIn .trail) ∧ (pulseIn .trail).phase = .trail
    ∧ ((s .echoWait).feeder 2).slot = some (coinUnit 0 .transfer .echoWait)
    ∧ ((s .doubt).feeder 2).slot = some (coinUnit 0 .transfer .doubt)
    ∧ ((s .confirmedInTrail).feeder 2).slot = some (coinUnit 0 .transfer .confirmedInTrail)
    ∧ ((s .sending).feeder 2).slot = some (coinUnit 0 .transfer .sending)
    ∧ ((s .sending).bay 2).releasePending = false := by
  unfold State.Settled
  decide

/-- With the pulse unit let go no feeder asks, or the feeder of bay 2 does, no other pulse unit being IDLE. -/
theorem test_w_arbiter_takes_up :
    let v := (pulsing .transfer .echoWait .trail).setPulse .a none
    let w := v.setPulse .b (some (pulseIn .lead))
    v.NoRequests ∧ (w.setFeeder 2 { w.feeder 2 with slot := none, held := none, window := none }).chosenBay = some 2
    ∧ (w.pulse .b).isSome = true := by
  unfold State.NoRequests
  decide

/-- A confirmation of the charge that leaves another owed, and one of another bay's charge. -/
theorem test_w_gate_counts :
    let s := (pulsing .gate .confirmedInTrail .trail).setGate { charging with owed := 2, units := [0, 1] }
    let u := (pulsing .gate .sending .trail).setGate { charging with bay := some 5 }
    (s.Settled ∧ s.pulse .a = some (pulseIn .trail) ∧ (s.feeder 2).slot = some (coinUnit 0 .gate .confirmedInTrail)
      ∧ (s.bay 2).releasePending = false ∧ s.gate.state = .paying ∧ s.gate.bay = some 2 ∧ (0 : UnitNo) ∈ s.gate.units
      ∧ s.gate.confirmed + 1 ≠ s.gate.owed)
    ∧ (u.feeder 2).slot = some (coinUnit 0 .gate .sending) ∧ u.gate.bay ≠ some 2 := by
  unfold State.Settled
  decide

/-- `s` past its handover, MENU on the monitor, and release pending at bay 2, whose queue is empty. -/
def emptying (s : State) : State :=
  let s := (s.setStage .menu).setMonitor { s.monitor with source := .menu }
  (s.setFeeder 2 { s.feeder 2 with queue := [] }).setBay 2 { s.bay 2 with releasePending := true }

theorem test_w_release_pending :
    let s := emptying (pulsing .transfer .sending .trail)
    s.Settled ∧ s.pulse .a = some (pulseIn .trail) ∧ (s.feeder 2).slot = some (coinUnit 0 .transfer .sending)
    ∧ (s.feeder 2).queue = [] ∧ (s.bay 2).releasePending = true ∧ (s.bay 2).state = .running ∧ s.NoRole 2
    ∧ s.gate.bay ≠ some 2 ∧ s.monitor.source ≠ .bay 2 := by
  unfold State.Settled State.NoRole
  decide

/-- A release-pending bay with a unit queued behind the one that is settled. -/
theorem test_w_release_goes_on :
    let s := (pulsing .gate .sending .trail).setBay 2 { playing.bay 2 with releasePending := true }
    s.Settled ∧ s.pulse .a = some (pulseIn .trail) ∧ (s.feeder 2).slot = some (coinUnit 0 .gate .sending)
    ∧ (s.bay 2).releasePending = true ∧ (s.feeder 2).queue ≠ [] := by
  unfold State.Settled
  decide

/-- `s` with a count running in the filter of line 1 of bay 2. -/
def echoing (s : State) : State := s.setFilter 2 .one (.counting 4)

/-- `s` with bay 2 in echo mode NONE. -/
def echoless (s : State) : State :=
  withProfile s 2 { (s.profile 2).coin with echoMode := .none } (s.profile 2).play

theorem test_w_echo_rows :
    let d := fun st h => echoing (delivering .transfer st h)
    ((echoing (echoless playing)).filter 2 .one = .counting 4 ∧ (echoing (echoless playing)).Settled
      ∧ ((echoing (echoless playing)).profile 2).coin.echoMode = .none)
    ∧ (((echoing playing).profile 2).coin.echoMode = .meter ∧ ((echoing playing).feeder 2).slot = none)
    ∧ ((delivering .transfer .sending none).setFilter 2 .two (.counting 4)).filter 2 .two = .counting 4
    ∧ CoinLine.two ≠ (coinUnit 0 .transfer .sending).line
    ∧ ((d .sending none).feeder 2).slot = some (coinUnit 0 .transfer .sending)
    ∧ CoinLine.one = (coinUnit 0 .transfer .sending).line
    ∧ ((d .confirmedInTrail (some .a)).feeder 2).slot = some (coinUnit 0 .transfer .confirmedInTrail)
    ∧ ((d .echoWait (some .a)).feeder 2).slot = some (coinUnit 0 .transfer .echoWait)
    ∧ ((d .echoWait (some .a)).feeder 2).held.isSome = true := by
  unfold State.Settled
  decide

theorem test_w_echo_after_pulse :
    let s := fun st => echoing (delivering .transfer st none)
    (s .doubt).filter 2 .one = .counting 4 ∧ (s .doubt).Settled ∧ ((s .doubt).profile 2).coin.echoMode = .meter
    ∧ ((s .doubt).feeder 2).slot = some (coinUnit 0 .transfer .doubt)
    ∧ ((s .echoWait).feeder 2).slot = some (coinUnit 0 .transfer .echoWait)
    ∧ ((s .doubt).feeder 2).held = none ∧ ((s .doubt).bay 2).releasePending = false := by
  unfold State.Settled
  decide

/-- Echoes of the charge that leave another owed, from doubt on another bay's charge, and that complete it. -/
theorem test_w_echo_gate :
    let d := fun st => echoing (delivering .gate st none)
    let s := (d .echoWait).setGate { charging with owed := 2, units := [0, 1] }
    let u := (d .doubt).setGate { charging with bay := some 5 }
    let f := (d .echoWait).setGate charging
    (s.filter 2 .one = .counting 4 ∧ s.Settled ∧ (s.profile 2).coin.echoMode = .meter
      ∧ (s.feeder 2).slot = some (coinUnit 0 .gate .echoWait) ∧ (s.feeder 2).held = none
      ∧ (s.bay 2).releasePending = false ∧ s.gate.state = .paying ∧ s.gate.bay = some 2 ∧ (0 : UnitNo) ∈ s.gate.units
      ∧ s.gate.confirmed + 1 ≠ s.gate.owed)
    ∧ ((u.feeder 2).slot = some (coinUnit 0 .gate .doubt) ∧ u.gate.bay ≠ some 2)
    ∧ (f.gate.confirmed + 1 = f.gate.owed ∧ (0 : UnitNo) ∈ f.gate.units ∧ f.stage = .play 2
      ∧ (f.bay 2).state = .running) := by
  unfold State.Settled
  decide

theorem test_w_last_echo :
    let s := fun st => emptying (echoing (delivering .transfer st none))
    (s .echoWait).filter 2 .one = .counting 4 ∧ (s .echoWait).Settled ∧ ((s .echoWait).profile 2).coin.echoMode = .meter
    ∧ ((s .echoWait).feeder 2).slot = some (coinUnit 0 .transfer .echoWait)
    ∧ ((s .doubt).feeder 2).slot = some (coinUnit 0 .transfer .doubt) ∧ ((s .echoWait).feeder 2).held = none
    ∧ ((s .echoWait).feeder 2).queue = [] ∧ ((s .echoWait).bay 2).releasePending = true
    ∧ ((s .echoWait).bay 2).state = .running ∧ (s .echoWait).NoRole 2 ∧ (s .echoWait).gate.bay ≠ some 2
    ∧ (s .echoWait).monitor.source ≠ .bay 2 := by
  unfold State.Settled State.NoRole
  decide

/-- A power loss cuts off the count of line 1, and no other. -/
theorem test_w_echo_behind_power_loss :
    let s := echoing (pulsing .transfer .echoWait .trail)
    let t := s.cutPower 2 .tripped
    (s.bay 2).state.powered = true ∧ CoinLine.one ∈ t.filters[(2 : Bay)].late ∧ CoinLine.two ∉ t.filters[(2 : Bay)].late
    ∧ t.filter 2 .one = .dark ∧ t.filter 2 .two = .dark
    ∧ (keyed.Settled ∧ (keyed.setFilters (keyed.filters.set 2 t.filters[(2 : Bay)])).filter 2 .one = .dark
      ∧ (keyed.feeder 2).slot = none) := by
  unfold State.Settled
  decide

theorem test_w_window_expiry :
    let s := delivering .transfer .echoWait none
    s.Settled ∧ (s.feeder 2).slot = some (coinUnit 0 .transfer .echoWait)
    ∧ (s.feeder 2).window = some { count := 7, limit := 500 } := by
  unfold State.Settled
  decide

theorem test_w_doubt_of_charge :
    let s := (delivering .gate .echoWait none).setGate charging
    s.Settled ∧ (s.feeder 2).slot = some (coinUnit 0 .gate .echoWait)
    ∧ (s.feeder 2).window = some { count := 7, limit := 500 } ∧ s.gate.state = .paying ∧ s.gate.bay = some 2
    ∧ (coinUnit 0 .gate .echoWait).number ∈ s.gate.units ∧ s.stage = .play 2 ∧ (s.bay 2).state = .running := by
  unfold State.Settled
  decide

theorem test_w_rulings_refused :
    (keyed.Takes .service (.voidDoubt 8) ∧ 7 < (8 : Byte).toNat)
    ∧ (keyed.Takes .service (.refundDoubt 7) ∧ (7 : Byte).toNat = (7 : Bay).val ∧ (keyed.feeder 7).hasDoubt = false)
    ∧ ((pulsing .transfer .doubt .trail).Takes .service (.voidDoubt 2)
      ∧ ((pulsing .transfer .doubt .trail).feeder 2).hasDoubt = true
      ∧ ((pulsing .transfer .doubt .trail).feeder 2).held.isSome = true) :=
  ⟨⟨takes (by decide), by decide⟩, ⟨takes (by decide), by decide, by decide⟩,
    takes (by decide), by decide⟩

theorem test_w_rulings :
    let s := delivering .gate .doubt none
    s.Takes .service (.voidDoubt 2) ∧ s.Takes .service (.refundDoubt 2) ∧ (2 : Byte).toNat = (2 : Bay).val
    ∧ (s.feeder 2).slot = some (coinUnit 0 .gate .doubt) ∧ (s.feeder 2).held = none
    ∧ (s.bay 2).releasePending = false ∧ 0 < s.store.countUnits 2 [(coinUnit 0 .gate .doubt).number] :=
  ⟨takes (by decide), takes (by decide), by decide⟩

theorem test_w_last_ruling :
    let s := emptying (delivering .transfer .doubt none)
    s.Takes .service (.voidDoubt 2) ∧ s.Takes .service (.refundDoubt 2) ∧ (2 : Byte).toNat = (2 : Bay).val
    ∧ (s.feeder 2).slot = some (coinUnit 0 .transfer .doubt) ∧ (s.feeder 2).held = none ∧ (s.feeder 2).queue = []
    ∧ (s.bay 2).releasePending = true ∧ (s.bay 2).state = .running ∧ s.NoRole 2 ∧ s.gate.bay ≠ some 2
    ∧ s.monitor.source ≠ .bay 2 ∧ 0 < s.store.countUnits 2 [(coinUnit 0 .transfer .doubt).number] := by
  refine ⟨takes (by decide), takes (by decide), ?_⟩
  unfold State.NoRole
  decide

/-! ### The start gate -/

theorem test_w_start_press :
    playing.Settled ∧ playing.stage = .play 2 ∧ playing.panel.settled = true
    ∧ ((0 : Switch) ∉ playing.panel.pressed ∧ (0 : Switch) ∉ playing.panel.mask ∧ playing.tables.cabinet.panel.menu ≠ 0)
    ∧ playing.tables.cabinet.panel.p1 = some 0 ∧ (playing.profile 2).play.payMode = .onStart
    ∧ (playing.bay 2).state = .running ∧ routesFrom (playing.routeMap 2) 0 = true ∧ playing.gate.state = .idle := by
  unfold State.Settled
  decide

/-- Its three clauses: no token, eight units queued before it, and room for the one unit owed. -/
theorem test_w_start_press_clauses :
    let full := (funded playing 1).setFeeder 2
      { Feeder.fresh with queue := (List.range 8).map fun n => coinUnit (BitVec.ofNat 8 n) .transfer .queued }
    let need := fun s : State => ((s.profile 2).play.price - s.gate.carry) * (s.profile 2).coin.rate
    playing.store.poolCount < need playing
    ∧ (need full ≤ full.store.poolCount ∧ 8 - (full.feeder 2).queue.length < (full.profile 2).play.price - full.gate.carry)
    ∧ (need (funded playing 1) ≤ (funded playing 1).store.poolCount
      ∧ ((funded playing 1).profile 2).play.price - 0 ≤ 8 - ((funded playing 1).feeder 2).queue.length) := by
  decide

/-- A start press on a bay that is BOOTING, and one on a bay without a route from the switch. -/
theorem test_w_start_press_no_route :
    let s := inPower playing 2 .booting
    let u := playing.setRoutes 2 []
    (s.Settled ∧ s.stage = .play 2 ∧ s.panel.settled = true ∧ (0 : Switch) ∉ s.panel.pressed
      ∧ (0 : Switch) ∉ s.panel.mask ∧ s.tables.cabinet.panel.menu ≠ 0 ∧ s.tables.cabinet.panel.p1 = some 0
      ∧ (s.profile 2).play.payMode = .onStart ∧ s.gate.state = .idle ∧ (s.bay 2).state ≠ .running)
    ∧ u.Settled ∧ (u.bay 2).state = .running ∧ u.routeMap 2 = [] := by
  unfold State.Settled
  decide

theorem test_w_completing :
    let s := (pulsing .gate .confirmedInTrail .trail).setGate charging
    s.Settled ∧ s.pulse .a = some (pulseIn .trail) ∧ (s.feeder 2).slot = some (coinUnit 0 .gate .confirmedInTrail)
    ∧ (s.bay 2).releasePending = false ∧ s.gate.state = .paying ∧ s.gate.bay = some 2
    ∧ (coinUnit 0 .gate .confirmedInTrail).number ∈ s.gate.units ∧ s.gate.confirmed + 1 = s.gate.owed
    ∧ s.stage = .play 2 ∧ (s.bay 2).state = .running := by
  unfold State.Settled
  decide

theorem test_w_completing_none :
    ((echoless ((pulsing .gate .sending .trail).setGate charging)).feeder 2).slot = some (coinUnit 0 .gate .sending)
    ∧ ((echoless playing).profile 2).coin.echoMode = .none := by decide

theorem test_w_firing : ({ playing with gate := { charging with state := .firing } } : State).gate.state = .firing := rfl

/-! ### Settings -/

theorem test_w_groups :
    let p := keyed.profile 0
    p.valid = true ∧ p.withGroup .play [0x01, 2, 0, 100] = none
    ∧ (p.withGroup .play (p.groupBytes .play)).isSome = true
    ∧ (keyed.tables.cabinet.withGroup .panel (keyed.tables.cabinet.panel.bytes)).isSome = true := by decide

theorem test_w_write_profile :
    (keyed.Takes .service (.writeProfile 8 0 (List.replicate 15 0)) ∧ 7 < (8 : Byte).toNat)
    ∧ (keyed.Takes .service (.writeProfile 7 4 []) ∧ 3 < (4 : Byte).toNat)
    ∧ (keyed.Takes .service (.writeProfile 7 3 (List.replicate 32 0)) ∧ profileGroupArg 3 = some .lines
      ∧ keyed.tables.lock = .opened ∧ (keyed.bay 7).state = .disabled ∧ (keyed.feeder 7).state = .idle
      ∧ ((keyed.profile 7).withGroup .lines (List.replicate 32 0)).isSome = true
      ∧ (keyed.profile 7).withGroup .lines (List.replicate 32 2) = none)
    ∧ (playing.bay 2).state ≠ .off ∧ (playing.bay 2).state ≠ .disabled ∧ (playing.bay 2).state ≠ .faulted :=
  ⟨⟨takes (by decide), by decide⟩, ⟨takes (by decide), by decide⟩,
    ⟨takes (by decide), by decide⟩, by decide⟩

theorem test_w_reads :
    (keyed.Takes .selector (.readProfile 8 0) ∧ 7 < (8 : Byte).toNat)
    ∧ (keyed.Takes .selector (.readProfile 7 3) ∧ profileGroupArg 3 = some .lines)
    ∧ (keyed.Takes .selector (.readCabinet 3) ∧ 2 < (3 : Byte).toNat)
    ∧ (keyed.Takes .selector (.readCabinet 2) ∧ cabinetGroupArg 2 = some .system)
    ∧ (keyed.Takes .selector (.readRoutes 2 0 0) ∧ (0 : Byte).toNat < 1)
    ∧ (keyed.Takes .selector (.readRoutes 2 0 19) ∧ 18 < (19 : Byte).toNat)
    ∧ (playing.Takes .selector (.readRoutes 2 3 18) ∧ (playing.routeMap 2).length ≤ (3 : Byte).toNat)
    ∧ (playing.Takes .selector (.readRoutes 2 2 18) ∧ (2 : Byte).toNat < (playing.routeMap 2).length) :=
  ⟨⟨takes (by decide), by decide⟩, ⟨takes (by decide), by decide⟩,
    ⟨takes (by decide), by decide⟩, ⟨takes (by decide), by decide⟩,
    ⟨takes (by decide), by decide⟩, ⟨takes (by decide), by decide⟩,
    ⟨takes (by decide), by decide⟩, takes (by decide), by decide⟩

/-- One entry of a route map, DIRECT from switch 0 to line 0. -/
def oneRoute : List Byte := [0, 0, 10]

theorem test_w_write_routes :
    (keyed.Takes .service (.writeRoutes 0 0 0 0 []) ∧ (0 : Byte).toNat < 1)
    ∧ (keyed.Takes .service (.writeRoutes 0 0 0 19 []) ∧ 18 < (19 : Byte).toNat)
    ∧ (keyed.Takes .service (.writeRoutes 0 0 1 1 oneRoute) ∧ (1 : Byte).toNat = true.toNat
      ∧ keyed.tables.lock = .opened ∧ keyed.writable 0 = true ∧ (0 : Byte).toNat ≤ (keyed.routeMap 0).length
      ∧ (routesArg oneRoute).isSome = true ∧ routesArg [0, 0, 9] = none ∧ routesArg [0x40, 0, 10] = none)
    ∧ (keyed.Takes .service (.writeRoutes 0 0 2 1 oneRoute) ∧ 1 < (2 : Byte).toNat)
    ∧ ((keyed.routeMap 0).length < (1 : Byte).toNat ∧ playing.writable 2 = false) :=
  ⟨⟨takes (by decide), by decide⟩, ⟨takes (by decide), by decide⟩,
    ⟨takes (by decide), by decide⟩, ⟨takes (by decide), by decide⟩, by decide⟩

/-- `keyed` with the table lock in a state. -/
def lockedTables (k : Lock) : State := keyed.setTables { keyed.tables with lock := k }

theorem test_w_write_cabinet :
    let sys := fun budget : Byte => [0, budget, 0, 0, 40, 0, 8]
    (keyed.Takes .service (.writeCabinet 3 []) ∧ 2 < (3 : Byte).toNat)
    ∧ (keyed.Takes .service (.writeCabinet 2 (sys 8)) ∧ cabinetGroupArg 2 = some .system
      ∧ keyed.tables.lock = .opened ∧ keyed.stage = .menu
      ∧ (keyed.tables.cabinet.withGroup .system (sys 8)).isSome = true
      ∧ (keyed.tables.cabinet.withGroup .system (sys 0)) = none)
    ∧ (lockedTables .locked).tables.lock ≠ .opened ∧ playing.stage ≠ .menu := by
  refine ⟨⟨takes (by decide), by decide⟩, ⟨takes (by decide), by decide⟩, by decide⟩

/-- A chutes write that enables chute B over an active input. -/
theorem test_w_cabinet_jam :
    let off := [0, 1, 20, 0, 150]
    let on := [1, 1, 20, 0, 150]
    let c := (keyed.tables.cabinet.withGroup .chutes (off ++ off ++ off ++ off)).getD keyed.tables.cabinet
    let s := keyed.setCabinet c
    let s := s.setPins { s.pins with coin := s.pins.coin.set 1 true }
    s.Takes .service (.writeCabinet 0 (off ++ on ++ off ++ off)) ∧ cabinetGroupArg 0 = some .chutes
    ∧ s.tables.lock = .opened ∧ s.stage = .menu ∧ (s.chuteConfig 1).enabled = false
    ∧ ((s.tables.cabinet.withGroup .chutes (off ++ on ++ off ++ off)).map
        fun q => q.chutes[(1 : Chute)].enabled) = some true :=
  ⟨takes (by decide), by decide⟩

theorem test_w_cabinet_budget :
    let s := inPower (inPower keyed 1 .running) 2 .running
    let q := s.tables.cabinet.withGroup .system [0, 8, 0, 0, 40, 0, 8]
    (q.map fun q => q.system.budget).isSome = true ∧ (q.map fun q => q.system.budget) = some 8 ∧ 8 < s.committedLoad := by
  decide

theorem test_w_set_lock :
    (keyed.Takes .service (.setLock 3) ∧ 2 < (3 : Byte).toNat)
    ∧ (keyed.Takes .service (.setLock 2) ∧ lockArg 2 = some .fixed ∧ keyed.tables.lock ≠ .fixed)
    ∧ ((lockedTables .fixed).Takes .service (.setLock 0) ∧ lockArg 0 = some .opened
      ∧ (lockedTables .fixed).tables.lock = .fixed) :=
  ⟨⟨takes (by decide), by decide⟩, ⟨takes (by decide), by decide⟩,
    takes (by decide), by decide⟩

/-! ### Panel, routes and quiet wait -/

theorem test_w_first_debounce : keyed.panel.settled = false := rfl

theorem test_w_menu_event :
    let s := keyed.setPanel { keyed.panel with settled := true, pressed := [9] }
    s.Settled ∧ s.stage = .menu ∧ s.panel.settled = true ∧ s.routing.quiet = none
    ∧ ((9 : Switch) ∈ s.panel.pressed ↔ Edge.release = .release) ∧ ((8 : Switch) ∈ s.panel.pressed ↔ Edge.press = .release)
    ∧ (9 : Switch) ∉ s.panel.mask := by
  unfold State.Settled
  decide

/-- In HANDOVER a press, a release with no quiet wait, and one that leaves another switch pressed. -/
theorem test_w_handover_event :
    let s := handing (pressing 9) 5 .release
    let q := handing (playing.setPanel { playing.panel with pressed := [9, 8] }) 5 .quiet
    let r := HandoverRecord.begun .menu (.bay 5) (.select .service)
    (s.Settled ∧ s.stage = .handover r ∧ s.panel.settled = true ∧ (9 : Switch) ∈ s.panel.pressed
      ∧ (8 : Switch) ∉ s.panel.pressed ∧ (9 : Switch) ∉ s.panel.mask ∧ (8 : Switch) ∉ s.panel.mask
      ∧ s.tables.cabinet.panel.menu ≠ 9 ∧ s.tables.cabinet.panel.menu ≠ 8 ∧ s.routing.quiet = none)
    ∧ (9 : Switch) ∈ q.panel.pressed ∧ (8 : Switch) ∈ q.panel.pressed := by
  unfold State.Settled
  decide

theorem test_w_masked_release :
    let s := playing.setPanel { playing.panel with pressed := [9], mask := [9] }
    s.Settled ∧ s.panel.settled = true ∧ (9 : Switch) ∈ s.panel.pressed ∧ (9 : Switch) ∈ s.panel.mask
    ∧ s.routing.quiet = none := by
  unfold State.Settled
  decide

theorem test_w_route_press :
    let s := playing.setRoutes 2 [⟨9, 6, .pulse, 30⟩]
    s.Settled ∧ s.stage = .play 2 ∧ (s.bay 2).state = .running ∧ s.panel.settled = true
    ∧ (9 : Switch) ∉ s.panel.pressed ∧ (9 : Switch) ∉ s.panel.mask ∧ s.tables.cabinet.panel.menu ≠ 9
    ∧ s.gateTakes 9 = none ∧ (⟨9, 6, .pulse, 30⟩ : Route) ∈ s.routeMap 2 := by
  unfold State.Settled
  decide

theorem test_w_neutral_lines : playing.stage ≠ .play 3 ∧ (playing.bay 3).state ≠ .running := by decide

theorem test_w_route_release :
    (pressing 9).Settled ∧ (pressing 9).stage = .play 2 ∧ (pressing 9).panel.settled = true
    ∧ (9 : Switch) ∈ (pressing 9).panel.pressed ∧ (9 : Switch) ∉ (pressing 9).panel.mask
    ∧ (pressing 9).tables.cabinet.panel.menu ≠ 9 ∧ (pressing 9).routing.quiet = none := by
  unfold State.Settled
  decide

/-- A line that a DIRECT route drives, one that a route pulse drives, one that the start pulse drives, and one that
nothing drives. -/
theorem test_w_line_active :
    let s := playing.setRoutes 2 [⟨0, 4, .direct, 10⟩, ⟨9, 6, .pulse, 30⟩, ⟨8, 7, .direct, 30⟩]
    let s := s.setPanel { s.panel with pressed := [8] }
    let s := s.setRouting { s.routing with pulses := [⟨9, 6, ⟨3, 30⟩⟩] }
    let f := s.setGate { charging with state := .firing }
    (s.stage = .play 2 ∧ (s.bay 2).state = .running)
    ∧ s.lineActive 2 7 = true ∧ s.lineActive 2 6 = true ∧ s.lineActive 2 4 = false ∧ f.lineActive 2 4 = true := by
  decide

theorem test_w_start_press_ignored :
    let s := playing.setGate { charging with state := .firing }
    s.Settled ∧ s.stage = .play 2 ∧ s.panel.settled = true ∧ (0 : Switch) ∉ s.panel.pressed
    ∧ (0 : Switch) ∉ s.panel.mask ∧ s.tables.cabinet.panel.menu ≠ 0 ∧ s.tables.cabinet.panel.p1 = some 0
    ∧ (s.profile 2).play.payMode = .onStart ∧ s.gate.state ≠ .idle := by
  unfold State.Settled
  decide

/-- A coin line in ACTIVE, and one whose pulse is in LEAD. -/
theorem test_w_harness : (pulsing .transfer .echoWait .active).coinLineActive 2 .one = true
    ∧ (pulsing .transfer .sending .lead).coinLineActive 2 .one = false ∧ playing.powerSwitchOn 2 = true
    ∧ playing.resetLineActive 2 = false ∧ keyed.powerSwitchOn 2 = false ∧ keyed.resetLineActive 2 = true := by
  decide

/-- A timer at its limit. -/
def ended (n : Nat) : Option Timer := some { count := n, limit := n }

/-- `s` with the menu-hold timer at its limit, the menu switch pressed. -/
def held (s : State) : State := s.setPanel { s.panel with menuHold := ended 500, pressed := [63] }

theorem test_w_menu_switch :
    (playing.Settled ∧ playing.stage ≠ .menu ∧ playing.panel.settled = true ∧ playing.tables.cabinet.panel.menu = 63
      ∧ (63 : Switch) ∉ playing.panel.pressed ∧ (63 : Switch) ∉ playing.panel.mask)
    ∧ (63 : Switch) ∈ (held playing).panel.pressed ∧ (held playing).routing.quiet = none := by
  unfold State.Settled
  decide

/-- A handover from bay 2 to bay 5 in a phase, with a follow-on or none; bay 5 is in a power state. -/
def moving (p : PowerState) (ph : Phase) (f : Option FollowOn) : State :=
  (inPower playing 5 p).setStage
    (.handover { HandoverRecord.begun (.bay 2) (.bay 5) (.select .service) with phase := ph, followOn := f })

theorem test_w_menu_hold :
    let s := held playing
    (keyed.panel.menuHold = none
      ∧ s.Settled ∧ s.stage = .play 2 ∧ s.panel.menuHold.isSome = true ∧ s.monitor.audio = .full ∧ 0 < s.monitor.gain
      ∧ 0 < s.rampLength ∧ s.gate = Gate.fresh ∧ (s.feeder 2).queue = [])
    ∧ (held (moving .starting .release none)).Uninvolved 5 ∧ (held (moving .starting .release none)).Settled
    ∧ ((held (moving .running .quiet none)).handover.map HandoverRecord.target) = some (.bay 5)
    ∧ ((held (keyed.setStage (.handover (.begun (.bay 2) .menu .menuSwitch)))).handover.map
        HandoverRecord.target) = some .menu := by
  unfold State.Settled State.Uninvolved
  decide

/-- `s` in QUIET, its quiet timer at its limit and a switch pressed. -/
def quieting (s : State) : State :=
  (s.setRouting { s.routing with quiet := ended 1000 }).setPanel { s.panel with pressed := [9] }

theorem test_w_quiet_expiry :
    let s := quieting (moving .running .quiet none)
    let m := quieting (keyed.setStage (.handover { HandoverRecord.begun (.bay 2) .menu .menuSwitch with
      phase := .quiet, followOn := some .menuSwitch }))
    (s.Settled ∧ (s.handover.map HandoverRecord.phase) = some .quiet ∧ (s.handover.map HandoverRecord.followOn) = some none
      ∧ s.routing.quiet = ended 1000)
    ∧ (m.handover.map HandoverRecord.phase) = some .quiet ∧ (m.handover.map HandoverRecord.target) = some .menu
    ∧ keyed.routing.quiet = none := by
  unfold State.Settled
  decide

theorem test_w_empty_panel :
    let s := quieting (moving .running .quiet none)
    s.panel.settled = true ∧ s.panel.pressed = [9] ∧ s.tables.cabinet.panel.menu ≠ 9 ∧ s.routing.quiet = ended 1000 := by
  decide

theorem test_w_follow_on :
    let s := quieting (moving .running .quiet (some .menuSwitch))
    let r := { HandoverRecord.begun (.bay 2) (.bay 5) (.select .service) with
      phase := .quiet, followOn := some .menuSwitch }
    s.Settled ∧ s.stage = .handover r ∧ s.routing.quiet = ended 1000 ∧ s.gate = Gate.fresh ∧ (s.feeder 5).queue = []
    ∧ s.monitor.audio = .full ∧ 0 < s.monitor.gain ∧ 0 < s.rampLength := by
  unfold State.Settled
  decide

/-- The target of a handover in QUIET, its checker LOCKED, with an attempt left and with none. -/
theorem test_w_quiet_loss :
    let s := locked (quieting (moving .running .quiet (some .menuSwitch))) 5
    let z := s.setBay 5 { s.bay 5 with attempts := 0 }
    let r := { HandoverRecord.begun (.bay 2) (.bay 5) (.select .service) with
      phase := .quiet, followOn := some .menuSwitch }
    s.Takes .service (.disableBay 5) ∧ (5 : Byte).toNat = (5 : Bay).val ∧ s.stage = .handover r
    ∧ (s.bay 5).state = .running ∧ (s.checker 5).state = .locked ∧ (s.bay 5).releasePending = false
    ∧ (s.bay 5).attempts ≠ 0 ∧ (z.bay 5).attempts = 0 ∧ (s.feeder 5).state = .idle ∧ s.gate.bay ≠ some 5 :=
  ⟨takes (by decide), by decide⟩

/-- The completion after such a loss, MENU having another class than the monitor, or the same. -/
theorem test_w_loss_follow_on :
    let f := FollowOn.loss .lost
    let s := quieting (moving .cooling .quiet (some f))
    let s := s.setMonitor { s.monitor with source := .blank, audio := .muted, gain := 0 }
    let x := s.setMonitor { s.monitor with lineClass := .high }
    let r := { HandoverRecord.begun (.bay 2) (.bay 5) (.select .service) with phase := .quiet, followOn := some f }
    (s.Settled ∧ s.stage = .handover r ∧ s.routing.quiet = ended 1000 ∧ (s.bay 5).state.powered = false
      ∧ s.gate.bay ≠ some 5 ∧ (s.feeder 5).queue = [] ∧ s.monitor.audio = .muted)
    ∧ (x.monitor.lineClass ≠ x.tables.cabinet.system.menuClass ∧ 0 < x.tables.cabinet.system.settle)
    ∧ (s.monitor.lineClass = s.tables.cabinet.system.menuClass ∧ s.monitor.settle = none
      ∧ s.monitor.gain < Config.gainFull ∧ 0 < s.rampLength ∧ s.panel.pressed ≠ [] ∧ 0 < s.tables.cabinet.panel.quiet) := by
  unfold State.Settled
  decide

theorem test_w_quiet_request :
    let c := playing.tables.cabinet
    let s := (pressing 9).setCabinet { c with panel := { c.panel with quiet := 0 } }
    playing.panel.pressed = [] ∧ (pressing 9).panel.pressed ≠ [] ∧ 0 < (pressing 9).tables.cabinet.panel.quiet
    ∧ s.panel.pressed ≠ [] ∧ s.tables.cabinet.panel.quiet = 0 := by decide

/-! ### Bay power -/

theorem test_w_cut : (playing.bay 2).state.powered = true ∧ PowerState.tripped.powered = false
    ∧ PowerState.cooling.powered = false ∧ playing.monitor.source = .bay 2
    ∧ ((inPower playing 3 .starting).bay 3).state.powered = true ∧ playing.monitor.source ≠ .bay 3 := by decide

theorem test_w_power_loss :
    let s := fun st => pulsing .transfer st .trail
    (s .doubt).gate.state = .idle ∧ ((s .doubt).feeder 2).state ≠ .idle
    ∧ ((s .doubt).feeder 2).slot = some (coinUnit 0 .transfer .doubt)
    ∧ ((s .confirmedInTrail).feeder 2).slot = some (coinUnit 0 .transfer .confirmedInTrail)
    ∧ ((s .doubt).feeder 2).held = some .a := by decide

theorem test_w_reset_hold :
    (keyed.Settled ∧ ((inPower keyed 5 .starting).bay 5).state = .starting
      ∧ ((inPower keyed 5 .starting).checker 5).state ≠ .locked)
    ∧ ((locked (inPower keyed 5 .starting) 5).checker 5).state = .locked ∧ (inPower keyed 5 .starting).NoRole 5 := by
  unfold State.Settled State.NoRole
  decide

theorem test_w_crash :
    let s := locked (inPower keyed 5 .running) 5
    let z := s.setBay 5 { s.bay 5 with attempts := 0 }
    (s.Settled ∧ s.NoRole 5 ∧ (s.feeder 5).state = .idle ∧ s.gate.bay ≠ some 5 ∧ s.monitor.source ≠ .bay 5
      ∧ (s.bay 5).releasePending = false)
    ∧ ((inPower keyed 5 .booting).bay 5).state = .booting
    ∧ ((s.checker 5).state = .locked ∧ (s.bay 5).state = .running)
    ∧ (s.bay 5).attempts ≠ 0 ∧ (z.bay 5).attempts = 0 ∧ (z.bay 5).state = .running := by
  unfold State.Settled State.NoRole
  decide

/-- `s` with its audio muted and a switch pressed. -/
def silent (s : State) : State :=
  (s.setMonitor { s.monitor with audio := .muted, gain := 0 }).setPanel { s.panel with pressed := [9] }

/-- A handover from MENU to bay 5, in a phase. -/
def toFive (ph : Phase) : HandoverRecord := { HandoverRecord.begun .menu (.bay 5) (.select .service) with phase := ph }

/-- A CLASS for bay 5 that cuts at once, one that steps the class, and one that waits for a running settle timer; and the
same for MENU after a failure. -/
theorem test_w_plain_class :
    let s := silent (handing (inPower keyed 5 .booting) 5 .power)
    let other := { s.monitor with lineClass := .high }
    let waits := { s.monitor with settle := ended 9 }
    let h := toFive .power
    (s.PlainClass s.monitor h ∧ s.cutWaits s.monitor h.target = false)
    ∧ (s.PlainClass other h ∧ s.cutWaits other h.target = true)
    ∧ (s.PlainClass waits h ∧ s.cutWaits waits h.target = true)
    ∧ (s.PlainClass s.monitor (h.failed 5 .faulted) ∧ s.PlainClass other (h.failed 5 .faulted)) := by
  refine ⟨⟨?_, ?_⟩, ⟨?_, ?_⟩, ⟨?_, ?_⟩, ?_, ?_⟩ <;> (try unfold State.PlainClass) <;> decide

/-- The target in POWER and in RELEASE, the active bay and an origin, each with its checker LOCKED at its reset hold's
end. -/
theorem test_w_reset_hold_in_role :
    let s := locked (inPower keyed 5 .starting) 5
    let p := silent (handing s 5 .power)
    (p.Settled ∧ (p.bay 5).state = .starting ∧ (p.checker 5).state = .locked ∧ p.stage = .handover (toFive .power)
      ∧ p.PlainClass p.monitor (toFive .power))
    ∧ (handing s 5 .release).stage = .handover (toFive .release) ∧ (handing s 5 .release).Settled
    ∧ ((s.setStage (.play 5)).isActive 5 = true ∧ (s.setStage (.play 5)).isTarget 5 = false)
    ∧ (s.setStage (.handover (.begun (.bay 5) (.bay 2) .menuSwitch))).isOrigin 5 = true
    ∧ (s.setStage (.handover (.begun (.bay 5) (.bay 2) .menuSwitch))).isTarget 5 = false := by
  unfold State.Settled State.PlainClass
  decide

/-- A target whose boot limit expires in POWER, with an attempt left and with none, and one that crashes in RELEASE. -/
theorem test_w_crash_of_target :
    let s := silent (handing (inPower keyed 5 .booting) 5 .power)
    let z := s.setBay 5 { s.bay 5 with attempts := 0 }
    let r := locked (handing (inPower keyed 5 .running) 5 .release) 5
    (s.Settled ∧ s.stage = .handover (toFive .power) ∧ (s.feeder 5).state = .idle ∧ s.gate.bay ≠ some 5
      ∧ (s.bay 5).releasePending = false ∧ s.CrashesBy 5 (.bootLimitExpiry 5) ∧ (s.bay 5).attempts ≠ 0)
    ∧ ((z.bay 5).attempts = 0 ∧ z.CrashesBy 5 (.bootLimitExpiry 5)
      ∧ z.PlainClass (z.blanked 5) ((toFive .power).failed 5 .faulted))
    ∧ (r.stage = .handover (toFive .release) ∧ r.monitor.source ≠ .bay 5 ∧ r.CrashesBy 5 (.fieldGapExpiry 5)) := by
  refine ⟨⟨?_, ?_, ?_, ?_, ?_, .inl ⟨rfl, ?_⟩, ?_⟩, ⟨?_, .inl ⟨rfl, ?_⟩, ?_⟩, ?_, ?_, .inr (.inl ⟨rfl, ?_, ?_⟩)⟩ <;>
    (try unfold State.Settled) <;> (try unfold State.PlainClass) <;> decide

/-- A release-pending bay with units, its slot unit in doubt or confirmed in its pulse. -/
theorem test_w_crash_of_release_pending :
    let s := fun st => emptying (pulsing .transfer st .trail)
    (s .doubt).Settled ∧ (s .doubt).NoRole 2 ∧ (s .doubt).gate.bay ≠ some 2 ∧ (s .doubt).monitor.source ≠ .bay 2
    ∧ ((s .doubt).bay 2).releasePending = true ∧ ((s .doubt).feeder 2).state ≠ .idle
    ∧ (s .doubt).CrashesBy 2 (.fieldGapExpiry 2) ∧ ((s .doubt).feeder 2).slot = some (coinUnit 0 .transfer .doubt)
    ∧ ((s .confirmedInTrail).feeder 2).slot = some (coinUnit 0 .transfer .confirmedInTrail) := by
  refine ⟨?_, ?_, ?_, ?_, ?_, ?_, .inr (.inl ⟨rfl, ?_, ?_⟩), ?_, ?_⟩ <;> (try unfold State.Settled) <;>
    (try unfold State.NoRole) <;> decide

/-- `playing` with a board of another line class than the menu's on the monitor. -/
def otherClass : State := playing.setMonitor { playing.monitor with lineClass := .high }

theorem test_w_loss_of_active :
    otherClass.Settled ∧ otherClass.stage = .play 2 ∧ (otherClass.bay 2).state = .running
    ∧ (otherClass.checker 2).state = .locked ∧ (otherClass.bay 2).attempts ≠ 0
    ∧ (otherClass.bay 2).releasePending = false ∧ otherClass.monitor.source = .bay 2
    ∧ otherClass.monitor.audio = .full ∧ otherClass.monitor.cut = none
    ∧ otherClass.monitor.lineClass ≠ otherClass.tables.cabinet.system.menuClass
    ∧ 0 < otherClass.tables.cabinet.system.settle := by
  unfold State.Settled
  decide

/-- Bay 5 cooling, with a request deferred or none. -/
def cooling (s : State) (d : Option Deferred) : State := s.setBay 5 { s.bay 5 with state := .cooling, deferred := d }

/-- Every other bay powered, so that a bay of 6 load units does not fit the budget of 48, or just fits it. -/
def crowded (last : PowerState) : State :=
  let s := inPower (inPower (inPower keyed 0 .running) 1 .running) 2 .running
  let s := inPower (inPower (inPower s 3 .running) 4 .running) 6 .running
  let s := inPower s 7 last
  s.setCabinet { s.tables.cabinet with system := { s.tables.cabinet.system with budget := 42 } }

theorem test_w_cooling_end :
    let off := cooling (crowded .off) (some .preheat)
    let on := cooling (crowded .running) (some .recovery)
    (keyed.Settled ∧ ((cooling keyed none).bay 5).state = .cooling ∧ (cooling keyed none).pins.overcurrent[(5 : Bay)] = false
      ∧ ((cooling keyed none).bay 5).deferred = none)
    ∧ ((off.bay 5).deferred = some .preheat ∧ off.committedLoad + (off.profile 5).general.load ≤ off.budget)
    ∧ ((on.bay 5).deferred = some .recovery ∧ on.budget < on.committedLoad + (on.profile 5).general.load) := by
  unfold State.Settled
  decide

/-- A HANDOVER that COOLING has deferred, for which one candidate of two makes room, and one whose candidates are
protected, of a bay in no role and of the target. -/
theorem test_w_cooling_end_handover :
    let s := (cooling (crowded .running) (some .handover)).setWarm [3, 1]
    let u := s.setProtected [3, 1]
    let h := silent (handing u 5 .power)
    (s.Settled ∧ (s.bay 5).state = .cooling ∧ (s.bay 5).deferred = some .handover ∧ 0 < s.excess 5
      ∧ s.excess 5 ≤ s.loads s.candidates ∧ s.pins.overcurrent[(5 : Bay)] = false ∧ s.PlainCandidates)
    ∧ (u.loads u.candidates < u.excess 5 ∧ u.isTarget 5 = false)
    ∧ (h.stage = .handover (toFive .power) ∧ h.loads h.candidates < h.excess 5
      ∧ h.PlainClass h.monitor ((toFive .power).failed 5 .budget)) := by
  unfold State.Settled State.PlainCandidates State.WarmOk State.PlainClass
  decide

/-- Trips of a bay with units, of the active bay, and of an origin in POWER and with its sound falling in RELEASE. -/
theorem test_w_trips :
    let u := fun st => emptying (pulsing .transfer st .trail)
    let o := moving .starting .power none
    let f := moving .running .release none
    let f := f.setMonitor { f.monitor with audio := .falling, lineClass := .high }
    let h := fun ph => { HandoverRecord.begun (.bay 2) (.bay 5) (.select .service) with phase := ph }
    ((u .doubt).Settled ∧ (u .doubt).NoRole 2 ∧ ((u .doubt).bay 2).state.powered = true
      ∧ ((u .doubt).feeder 2).state ≠ .idle ∧ (u .doubt).gate.bay ≠ some 2 ∧ (u .doubt).monitor.source ≠ .bay 2
      ∧ ((u .doubt).feeder 2).slot = some (coinUnit 0 .transfer .doubt)
      ∧ ((u .confirmedInTrail).feeder 2).slot = some (coinUnit 0 .transfer .confirmedInTrail))
    ∧ (otherClass.Settled ∧ otherClass.stage = .play 2 ∧ (otherClass.bay 2).state = .running
      ∧ otherClass.monitor.source = .bay 2 ∧ otherClass.monitor.audio = .full
      ∧ otherClass.monitor.lineClass ≠ otherClass.tables.cabinet.system.menuClass)
    ∧ (o.Settled ∧ o.stage = .handover (h .power) ∧ o.isOrigin 2 = true ∧ (o.bay 2).state.powered = true
      ∧ (o.feeder 2).state = .idle ∧ o.gate.bay ≠ some 2)
    ∧ (f.Settled ∧ f.stage = .handover (h .release) ∧ f.isOrigin 2 = true ∧ f.monitor.source = .bay 2
      ∧ (f.bay 5).state = .running ∧ f.PlainClass (f.blanked 2) (h .release)) := by
  unfold State.Settled State.NoRole State.PlainClass
  decide

theorem test_w_overcurrent :
    keyed.Settled ∧ (keyed.bay 5).state.powered = false ∧ ((inPower keyed 5 .booting).bay 5).state.powered = true
    ∧ (inPower keyed 5 .booting).NoRole 5 ∧ ((inPower keyed 5 .booting).feeder 5).state = .idle
    ∧ (inPower keyed 5 .booting).gate.bay ≠ some 5 ∧ (inPower keyed 5 .booting).monitor.source ≠ .bay 5 := by
  unfold State.Settled State.NoRole
  decide

theorem test_w_power_on :
    let r := fun x : Byte => Request.powerBay x 1
    (keyed.Takes .service (r 8) ∧ 7 < (8 : Byte).toNat)
    ∧ (keyed.Takes .service (r 7) ∧ (7 : Byte).toNat = (7 : Bay).val ∧ (keyed.bay 7).state = .disabled)
    ∧ ((inPower (crowded .off) 5 .off).Takes .service (r 5) ∧ ((inPower (crowded .off) 5 .off).bay 5).state = .off
      ∧ (inPower (crowded .off) 5 .off).committedLoad + ((inPower (crowded .off) 5 .off).profile 5).general.load
          ≤ (inPower (crowded .off) 5 .off).budget
      ∧ (inPower (crowded .off) 5 .off).pins.overcurrent[(5 : Bay)] = false)
    ∧ ¬(inPower (crowded .running) 5 .off).committedLoad + ((inPower (crowded .running) 5 .off).profile 5).general.load
          ≤ (inPower (crowded .running) 5 .off).budget
    ∧ (cooling keyed (some .handover)).Takes .service (r 5) ∧ ((cooling keyed (some .handover)).bay 5).state = .cooling
    ∧ playing.Takes .service (r 2) ∧ (playing.bay 2).state.powered = true :=
  ⟨⟨takes (by decide), by decide⟩, ⟨takes (by decide), by decide⟩, ⟨takes (by decide), by decide⟩, by decide,
    takes (by decide), by decide, takes (by decide), by decide⟩

theorem test_w_evictions :
    let s := (inPower (crowded .running) 5 .off).setWarm [3, 1]
    let u := s.setProtected [3, 1]
    (s.bay 5).state = .off ∧ s.pins.overcurrent[(5 : Bay)] = false ∧ s.WarmOk
    ∧ s.committedLoad + s.load 5 - s.budget ≤ (s.candidates.map s.load).sum
    ∧ (u.candidates.map u.load).sum < u.committedLoad + u.load 5 - u.budget := by
  unfold State.WarmOk
  decide

theorem test_w_power_off :
    let r := fun x : Byte => Request.powerBay x 0
    (keyed.Takes .service (r 8) ∧ 7 < (8 : Byte).toNat)
    ∧ (playing.Takes .service (r 2) ∧ (2 : Byte).toNat = (2 : Bay).val ∧ ¬playing.NoRole 2)
    ∧ (((serving.setStage .menu).Takes .service (r 2)) ∧ (serving.setStage .menu).NoRole 2
      ∧ ((serving.setStage .menu).feeder 2).state ≠ .idle)
    ∧ ((inPower keyed 5 .running).Takes .service (r 5) ∧ (inPower keyed 5 .running).NoRole 5
      ∧ ((inPower keyed 5 .running).feeder 5).state = .idle ∧ ((inPower keyed 5 .running).bay 5).state.powered = true
      ∧ (inPower keyed 5 .running).gate.bay ≠ some 5 ∧ (inPower keyed 5 .running).monitor.source ≠ .bay 5)
    ∧ ((cooling keyed (some .preheat)).bay 5).state = .cooling ∧ (keyed.bay 7).state = .disabled := by
  unfold State.NoRole
  exact ⟨⟨takes (by decide), by decide⟩, ⟨takes (by decide), by decide⟩, ⟨takes (by decide), by decide⟩,
    ⟨takes (by decide), by decide⟩, by decide⟩

theorem test_w_arm_bay :
    let s := inPower keyed 5 .tripped
    let hot := s.setPins { s.pins with overcurrent := s.pins.overcurrent.set 5 true }
    (keyed.Takes .service (.armBay 8) ∧ 7 < (8 : Byte).toNat)
    ∧ (keyed.Takes .service (.armBay 7) ∧ (7 : Byte).toNat = (7 : Bay).val ∧ (keyed.bay 7).state ≠ .tripped)
    ∧ (s.Takes .service (.armBay 5) ∧ (s.bay 5).state = .tripped ∧ s.pins.overcurrent[(5 : Bay)] = false)
    ∧ (hot.Takes .service (.armBay 5) ∧ (hot.bay 5).state = .tripped ∧ hot.pins.overcurrent[(5 : Bay)] = true)
    ∧ ((inPower hot 5 .off).bay 5).state = .off :=
  ⟨⟨takes (by decide), by decide⟩, ⟨takes (by decide), by decide⟩, ⟨takes (by decide), by decide⟩,
    ⟨takes (by decide), by decide⟩, by decide⟩

theorem test_w_clear_fault :
    (keyed.Takes .service (.clearFault 8) ∧ 7 < (8 : Byte).toNat)
    ∧ (keyed.Takes .service (.clearFault 7) ∧ (7 : Byte).toNat = (7 : Bay).val ∧ (keyed.bay 7).state ≠ .faulted)
    ∧ ((inPower keyed 5 .faulted).Takes .service (.clearFault 5) ∧ ((inPower keyed 5 .faulted).bay 5).state = .faulted) :=
  ⟨⟨takes (by decide), by decide⟩, ⟨takes (by decide), by decide⟩, takes (by decide), by decide⟩

theorem test_w_disable :
    (keyed.Takes .service (.disableBay 8) ∧ 7 < (8 : Byte).toNat)
    ∧ (keyed.Takes .service (.disableBay 7) ∧ (7 : Byte).toNat = (7 : Bay).val ∧ (keyed.bay 7).state = .disabled)
    ∧ ((inPower keyed 5 .running).Takes .service (.disableBay 5) ∧ ((inPower keyed 5 .running).bay 5).state ≠ .disabled
      ∧ (inPower keyed 5 .running).NoRole 5 ∧ ((inPower keyed 5 .running).feeder 5).state = .idle
      ∧ (inPower keyed 5 .running).gate.bay ≠ some 5 ∧ (inPower keyed 5 .running).monitor.source ≠ .bay 5) := by
  unfold State.NoRole
  exact ⟨⟨takes (by decide), by decide⟩, ⟨takes (by decide), by decide⟩, takes (by decide), by decide⟩

/-- A bay with units, in no role, its slot unit unconfirmed or confirmed in its pulse. -/
theorem test_w_disable_with_units :
    let s := fun st => emptying (pulsing .transfer st .trail)
    (s .doubt).Takes .service (.disableBay 2) ∧ (2 : Byte).toNat = (2 : Bay).val ∧ ((s .doubt).bay 2).state.powered = true
    ∧ ((s .doubt).feeder 2).state ≠ .idle ∧ (s .doubt).NoRole 2 ∧ (s .doubt).gate.bay ≠ some 2
    ∧ (s .doubt).monitor.source ≠ .bay 2 ∧ ((s .doubt).feeder 2).slot = some (coinUnit 0 .transfer .doubt)
    ∧ ((s .confirmedInTrail).feeder 2).slot = some (coinUnit 0 .transfer .confirmedInTrail) := by
  refine ⟨takes (by decide), ?_⟩
  unfold State.NoRole
  decide

theorem test_w_disable_active :
    otherClass.Takes .service (.disableBay 2) ∧ otherClass.stage = .play 2 ∧ (otherClass.bay 2).state = .running
    ∧ otherClass.monitor.source = .bay 2 ∧ otherClass.monitor.audio = .full
    ∧ otherClass.monitor.lineClass ≠ otherClass.tables.cabinet.system.menuClass
    ∧ 0 < otherClass.tables.cabinet.system.settle ∧ (otherClass.feeder 2).state = .idle ∧ otherClass.gate.bay ≠ some 2 :=
  ⟨takes (by decide), by decide⟩

/-- The target of a handover in POWER, powered or holding a deferred HANDOVER, and the origin of one. -/
theorem test_w_disable_in_handover :
    let quiet := fun s : State => s.setMonitor { s.monitor with audio := .muted, lineClass := .high }
    let s := quiet (handing (inPower keyed 5 .booting) 5 .power)
    let d := quiet (handing (cooling keyed (some .handover)) 5 .power)
    let o := quiet (moving .starting .power none)
    let h := { HandoverRecord.begun .menu (.bay 5) (.select .service) with phase := .power }
    (s.Takes .service (.disableBay 5) ∧ (5 : Byte).toNat = (5 : Bay).val ∧ s.stage = .handover h ∧ h.phase = .power
      ∧ (s.feeder 5).state = .idle ∧ s.gate.bay ≠ some 5 ∧ s.monitor.audio = .muted ∧ h.target = .bay 5
      ∧ h.origin ≠ .bay 5 ∧ s.monitor.source ≠ .bay 5 ∧ (s.bay 5).state.powered = true
      ∧ s.monitor.lineClass ≠ s.tables.cabinet.system.menuClass ∧ 0 < s.tables.cabinet.system.settle)
    ∧ ((d.bay 5).state = .cooling ∧ (d.bay 5).deferred = some .handover)
    ∧ (o.Takes .service (.disableBay 2) ∧ (o.bay 2).state.powered = true
      ∧ (o.handover.map HandoverRecord.origin) = some (.bay 2)
      ∧ (o.handover.map HandoverRecord.target) = some (.bay 5)) :=
  ⟨⟨takes (by decide), by decide⟩, by decide, takes (by decide), by decide⟩

theorem test_w_enable :
    (keyed.Takes .service (.enableBay 8) ∧ 7 < (8 : Byte).toNat)
    ∧ (playing.Takes .service (.enableBay 2) ∧ (2 : Byte).toNat = (2 : Bay).val ∧ (playing.bay 2).state ≠ .disabled)
    ∧ (keyed.Takes .service (.enableBay 7) ∧ (7 : Byte).toNat = (7 : Bay).val ∧ (keyed.bay 7).state = .disabled) :=
  ⟨⟨takes (by decide), by decide⟩, ⟨takes (by decide), by decide⟩, takes (by decide), by decide⟩

/-! ### Checkers and crosspoint -/

/-- Bay 5 in a power state, its checker in a state with so many good and bad fields in a row. -/
def checking (p : PowerState) (c : CheckerState) (good bad : Nat) : State :=
  (inPower keyed 5 p).setChecker 5 { Checker.fresh with state := c, good := good, bad := bad, begun := true }

theorem test_w_fields :
    let good := fun n l : Nat => fieldClass n l = .inClass .low ∧ 47 * l ≤ 1000000000 ∧ 1000000000 ≤ 63 * l
    good 250 16666666 ∧ ¬good 250 22222222 ∧ ¬good 249 16666666 ∧ ((keyed.profile 5).general.lineClass = .low)
    ∧ (keyed.Settled ∧ (keyed.checker 5).state = .dark)
    ∧ ((keyed.setChecker 5 Checker.seek).checker 5).begun = false
    ∧ (((checking .starting .seeking 6 0).checker 5).good < 7 ∧ ((checking .starting .seeking 6 0).checker 5).begun = true)
    ∧ (7 ≤ ((checking .starting .seeking 7 0).checker 5).good ∧ ((checking .starting .seeking 7 0).bay 5).state ≠ .booting)
    ∧ ((checking .running .locked 8 2).checker 5).bad < 3
    ∧ (3 ≤ ((checking .starting .locked 8 3).checker 5).bad ∧ ((checking .starting .locked 8 3).bay 5).state ≠ .running)
    ∧ ((checking .running .lost 8 4).checker 5).state = .lost := by
  unfold State.Settled
  decide

/-- Line rates at both ends of each class, in a field of 20 ms. -/
theorem test_w_line_rates :
    fieldClass 300 20000000 = .inClass .low ∧ fieldClass 332 20000000 = .inClass .low
    ∧ fieldClass 470 20000000 = .inClass .medium ∧ fieldClass 510 20000000 = .inClass .medium
    ∧ fieldClass 600 20000000 = .inClass .high ∧ fieldClass 650 20000000 = .inClass .high
    ∧ fieldClass 299 20000000 = .out ∧ fieldClass 333 20000000 = .out := by decide

theorem test_w_lock :
    let s := checking .booting .seeking 7 0
    s.Settled ∧ s.NoRole 5 ∧ (s.bay 5).state = .booting ∧ (s.checker 5).state = .seeking
    ∧ (s.checker 5).begun = true ∧ (s.checker 5).good = 7
    ∧ fieldGood (s.profile 5).general.lineClass 250 16666666 = true := by
  unfold State.Settled State.NoRole
  decide

/-- The same for the target in POWER and in QUIET, the active bay and an origin. -/
theorem test_w_lock_in_role :
    let s := checking .booting .seeking 7 0
    let p := silent (handing s 5 .power)
    let o := s.setStage (.handover (.begun (.bay 5) (.bay 2) .menuSwitch))
    (p.Settled ∧ (p.bay 5).state = .booting ∧ (p.checker 5).state = .seeking ∧ (p.checker 5).begun = true
      ∧ (p.checker 5).good = 7 ∧ fieldGood (p.profile 5).general.lineClass 250 16666666 = true
      ∧ p.stage = .handover (toFive .power) ∧ p.PlainClass p.monitor (toFive .power))
    ∧ (handing s 5 .quiet).stage = .handover (toFive .quiet) ∧ (handing s 5 .quiet).Settled
    ∧ ((s.setStage (.play 5)).isActive 5 = true ∧ (s.setStage (.play 5)).isTarget 5 = false)
    ∧ (o.isOrigin 5 = true ∧ o.isTarget 5 = false) := by
  unfold State.Settled State.PlainClass
  decide

/-- The fourth bad field in a row of a RUNNING bay. -/
theorem test_w_crash_by_field :
    let s := checking .running .locked 8 3
    s.Settled ∧ s.NoRole 5 ∧ (s.checker 5).state = .locked ∧ (s.checker 5).begun = true ∧ 3 ≤ (s.checker 5).bad
    ∧ (s.bay 5).state = .running ∧ fieldGood (s.profile 5).general.lineClass 249 16666666 = false := by
  unfold State.Settled State.NoRole
  decide

theorem test_w_field_gap :
    let s := checking .starting .locked 8 0
    s.Settled ∧ (s.checker 5).state = .locked ∧ (s.bay 5).state ≠ .running := by
  unfold State.Settled
  decide

theorem test_w_cut_request :
    let settling := keyed.setMonitor { keyed.monitor with settle := some { count := 0, limit := 9 }, source := .blank }
    (otherClass.targetClass .menu ≠ otherClass.monitor.lineClass ∧ 0 < otherClass.tables.cabinet.system.settle)
    ∧ (settling.targetClass .menu = settling.monitor.lineClass ∧ settling.monitor.settle.isSome = true)
    ∧ (keyed.targetClass .menu = keyed.monitor.lineClass ∧ keyed.monitor.settle = none ∧ keyed.cutSource .menu ≠ .blank) := by
  decide

/-- `keyed` settling on a blank picture, with a cut request or none. -/
def settling (c : Option Target) : State :=
  keyed.setMonitor
    { keyed.monitor with settle := some { count := 9, limit := 9 }, source := .blank, audio := .muted, cut := c }

theorem test_w_settle_expiry :
    (settling none).Settled ∧ keyed.monitor.settle = none ∧ (settling none).monitor.settle.isSome = true
    ∧ (settling none).monitor.cut = none ∧ (settling (some (.bay 5))).monitor.cut = some (.bay 5)
    ∧ ((settling (some (.bay 5))).bay 5).state ≠ .running ∧ (settling (some (.bay 5))).monitor.audio ≠ .falling := by
  unfold State.Settled
  decide

/-- `moving` in CLASS, its target's cut recorded while the settle timer runs. -/
def cutting : State :=
  let s := moving .running .classChange none
  s.setMonitor
    { s.monitor with settle := ended 9, source := .blank, audio := .muted, gain := 0, cut := some (.bay 5) }

theorem test_w_cut_over :
    let s := cutting
    let r := { HandoverRecord.begun (.bay 2) (.bay 5) (.select .service) with phase := .classChange }
    s.Settled ∧ s.monitor.settle.isSome = true ∧ s.stage = .handover r ∧ s.monitor.cut = some r.target
    ∧ s.cutSource r.target ≠ .blank ∧ s.monitor.gain < Config.gainFull ∧ 0 < s.rampLength
    ∧ (r.leaves = some 2 ∧ (s.bay 2).state = .running ∧ (s.profile 2).general.keepWarm = true)
    ∧ s.panel.pressed = [] ∧ (quieting s).panel.pressed ≠ [] ∧ 0 < (quieting s).tables.cabinet.panel.quiet := by
  unfold State.Settled
  decide

/-- `s` with bay 2 not kept warm. -/
def cold (s : State) : State :=
  s.setProfile 2 { s.profile 2 with general := { (s.profile 2).general with keepWarm := false } }

/-- A bay that is kept warm, and one that is not, its feeder with units or IDLE. -/
theorem test_w_origin_release :
    (playing.bay 2).state = .running ∧ (playing.profile 2).general.keepWarm = true
    ∧ ((cold serving).profile 2).general.keepWarm = false ∧ ((cold serving).bay 2).state = .running
    ∧ ((cold serving).feeder 2).state ≠ .idle ∧ ((cold playing).feeder 2).state = .idle := by decide

/-- `s` with a ramp falling. -/
def falling (s : State) : State := s.setMonitor { s.monitor with audio := .falling, gain := 1 }

theorem test_w_ramp_end :
    let s := falling (handing (inPower keyed 5 .off) 5 .release)
    let r := HandoverRecord.begun .menu (.bay 5) (.select .service)
    (keyed.Settled ∧ keyed.monitor.audio = .rising ∧ playing.monitor.audio = .full)
    ∧ ((falling keyed).monitor.audio = .falling ∧ (falling keyed).handover = none)
    ∧ (s.monitor.audio = .falling ∧ s.stage = .handover r ∧ r.phase = .release ∧ r.target = .bay 5
      ∧ (s.bay 5).state = .off ∧ s.committedLoad + (s.profile 5).general.load ≤ s.budget
      ∧ s.pins.overcurrent[(5 : Bay)] = false) := by
  unfold State.Settled
  decide

/-- Bay 5 as the target of a RELEASE whose ramp falls, in a power state. -/
def fading (p : PowerState) : State := falling (silent (handing (inPower keyed 5 p) 5 .release))

/-- The end of RELEASE with the target MENU and with a RUNNING one. -/
theorem test_w_ramp_end_present_target :
    let menu := HandoverRecord.begun .menu .menu (.select .service)
    let g := falling (silent (keyed.setStage (.handover menu)))
    let s := fading .running
    (g.Settled ∧ g.monitor.audio = .falling ∧ g.stage = .handover menu
      ∧ g.PlainClass { g.monitor with audio := .muted, gain := 0 } menu)
    ∧ (s.Settled ∧ s.monitor.audio = .falling ∧ s.stage = .handover (toFive .release) ∧ (s.bay 5).state = .running
      ∧ s.PlainClass { s.monitor with audio := .muted, gain := 0 } (toFive .release)) := by
  refine ⟨⟨?_, ?_, ?_, ?_⟩, ?_, ?_, ?_, ?_, ?_⟩ <;> (try unfold State.Settled) <;>
    (try unfold State.PlainClass) <;> decide

/-- The end of RELEASE with each other target: one that is awaited, one for which one candidate of two makes room, and one
that cannot be powered. -/
theorem test_w_ramp_end_absent_target :
    let e := falling (silent (handing ((inPower (crowded .running) 5 .off).setWarm [3, 1]) 5 .release))
    let full := e.setProtected [3, 1]
    (((fading .booting).bay 5).state = .booting ∧ ((fading .cooling).bay 5).state = .cooling)
    ∧ ((e.bay 5).state = .off ∧ (e.bay 5).deferred = none ∧ 0 < e.excess 5 ∧ e.excess 5 ≤ e.loads e.candidates
      ∧ e.pins.overcurrent[(5 : Bay)] = false ∧ e.stage = .handover (toFive .release)) ∧ e.PlainCandidates
    ∧ (((fading .tripped).bay 5).state = .tripped ∧ ((fading .faulted).bay 5).state = .faulted
      ∧ ((fading .disabled).bay 5).state = .disabled ∧ full.loads full.candidates < full.excess 5)
    ∧ full.PlainClass { full.monitor with audio := .muted, gain := 0 } ((toFive .release).failed 5 .budget) := by
  refine ⟨?_, ?_, ?_, ?_, ?_⟩ <;> (try unfold State.PlainCandidates State.WarmOk) <;>
    (try unfold State.PlainClass) <;> decide

theorem test_w_monitor_given : (settling none).monitor.source = .blank ∧ keyed.monitor.source ≠ .blank := by decide

/-! ### Handover -/

theorem test_w_select_tests :
    (keyed.Takes .selector (.select 9) ∧ 8 < (9 : Byte).toNat)
    ∧ (keyed.Takes .selector (.select 7) ∧ targetArg 7 = some (.bay 7) ∧ (keyed.bay 7).state = .disabled)
    ∧ (keyed.Takes .selector (.select 8) ∧ targetArg 8 = some .menu ∧ keyed.stage = .menu)
    ∧ (playing.Takes .selector (.select 2) ∧ targetArg 2 = some (.bay 2) ∧ playing.stage = .play 2)
    ∧ ((handing playing 2 .power).Takes .selector (.select 2) ∧ ((handing playing 2 .power).bay 2).state = .running)
    ∧ ((handing playing 2 .quiet).Takes .selector (.select 8)) :=
  ⟨⟨takes (by decide), by decide⟩, ⟨takes (by decide), by decide⟩, ⟨takes (by decide), by decide⟩,
    ⟨takes (by decide), by decide⟩, ⟨takes (by decide), by decide⟩, takes (by decide)⟩

/-- A handover from bay 2 to bay 5 in POWER, the origin no longer RUNNING. -/
def leaving : State :=
  let s := inPower (inPower playing 2 .cooling) 5 .starting
  s.setStage (.handover { HandoverRecord.begun (.bay 2) (.bay 5) (.select .service) with phase := .power })

theorem test_w_select_origin :
    leaving.Takes .selector (.select 2) ∧ targetArg 2 = some (.bay 2)
    ∧ leaving.stage = .handover { HandoverRecord.begun (.bay 2) (.bay 5) (.select .service) with phase := .power }
    ∧ (leaving.bay 2).state = .cooling :=
  ⟨takes (by decide), by decide, rfl, by decide⟩

theorem test_w_select_begins :
    let s := inPower keyed 5 .off
    let s := s.setMonitor { s.monitor with audio := .full, gain := Config.gainFull }
    s.Takes .selector (.select 5) ∧ (5 : Byte).toNat = (5 : Bay).val ∧ s.stage = .menu ∧ (s.bay 5).state = .off
    ∧ s.monitor.audio = .full ∧ 0 < s.monitor.gain ∧ 0 < s.rampLength :=
  ⟨takes (by decide), by decide⟩

/-- A SELECT of bay 5 in PLAY while bay 2's charge is being paid, with its leave policy keeping what is queued. -/
theorem test_w_select_leaves_play :
    let s := inPower ((delivering .gate .echoWait none).setGate charging) 5 .off
    let g := (s.profile 2).coin
    s.Takes .service (.select 5) ∧ targetArg 5 = some (.bay 5) ∧ s.stage = .play 2 ∧ Target.bay 5 ≠ .bay 2
    ∧ ¬s.Barred 5 ∧ (s.bay 2).releasePending = false ∧ s.monitor.audio = .full ∧ 0 < s.monitor.gain ∧ 0 < s.rampLength
    ∧ s.gate.state = .paying ∧ s.gate.bay = some 2
    ∧ ((withProfile s 2 { g with leavePolicy := .keep } (s.profile 2).play).profile 2).coin.leavePolicy = .keep := by
  refine ⟨takes (by decide), ?_⟩
  unfold State.Barred
  decide

theorem test_w_select_retargets :
    let s := inPower (moving .starting .release none) 6 .off
    let h := HandoverRecord.begun (.bay 2) (.bay 5) (.select .service)
    s.Takes .service (.select 6) ∧ (6 : Byte).toNat = (6 : Bay).val ∧ s.stage = .handover h ∧ h.phase = .release
    ∧ h.target = .bay 5 ∧ (5 : Bay) ≠ 6 ∧ h.origin ≠ .bay 5 ∧ h.origin ≠ .bay 6 ∧ ¬s.Barred 6 ∧ s.Uninvolved 5 := by
  refine ⟨takes (by decide), ?_⟩
  unfold State.Barred State.Uninvolved
  decide

theorem test_w_select_retargets_power :
    let s := fun ph => inPower (moving .running ph none) 6 .off
    (s .power).Takes .service (.select 6) ∧ (s .classChange).Takes .service (.select 6)
    ∧ ((s .power).bay 6).state = .off ∧ (s .power).committedLoad + (s .power).load 6 ≤ (s .power).budget
    ∧ (s .power).pins.overcurrent[(6 : Bay)] = false ∧ (s .power).Uninvolved 5 := by
  refine ⟨takes (by decide), takes (by decide), ?_⟩
  unfold State.Uninvolved
  decide

/-- A SELECT of the origin, bay 2, in RELEASE, and in POWER with its picture on, the audio low and a switch pressed. -/
theorem test_w_select_collapses :
    let r := moving .starting .release none
    let p := quieting (moving .starting .power none)
    let p := p.setMonitor { p.monitor with audio := .muted, gain := 0 }
    r.Takes .service (.select 2) ∧ p.Takes .service (.select 2) ∧ targetArg 2 = some (.bay 2)
    ∧ (r.bay 2).state = .running ∧ r.Uninvolved 5 ∧ p.Uninvolved 5
    ∧ p.targetClass (.bay 2) = p.monitor.lineClass ∧ p.monitor.settle = none ∧ p.monitor.gain < Config.gainFull
    ∧ 0 < p.rampLength ∧ p.panel.pressed ≠ [] ∧ 0 < p.tables.cabinet.panel.quiet := by
  refine ⟨takes (by decide), takes (by decide), ?_⟩
  unfold State.Uninvolved
  decide

theorem test_w_target_trip :
    let s := handing (inPower keyed 5 .booting) 5 .power
    let s := s.setMonitor { s.monitor with audio := .muted, lineClass := .high }
    let h := { HandoverRecord.begun .menu (.bay 5) (.select .service) with phase := .power }
    s.Settled ∧ s.stage = .handover h ∧ h.phase = .power ∧ h.target = .bay 5 ∧ h.origin = .menu
    ∧ (s.bay 5).state = .booting ∧ (s.feeder 5).state = .idle ∧ s.gate.bay ≠ some 5 ∧ s.monitor.source = .menu
    ∧ s.monitor.lineClass ≠ s.tables.cabinet.system.menuClass ∧ 0 < s.tables.cabinet.system.settle
    ∧ s.monitor.audio = .muted := by
  unfold State.Settled
  decide

/-- `playing` with bay 2 cut off, muted, and its LOSS left for the next event; `d` is its power state. -/
def lossLeft (d : PowerState) : State :=
  let s := otherClass.setMonitor { otherClass.monitor with source := .blank, audio := .muted, gain := 0 }
  (inPower s 2 d).setLate (some (.loss 2 .tripped))

theorem test_w_left_loss :
    let s := lossLeft .tripped
    s.reports = [] ∧ s.LossLeft 2 .tripped ∧ (s.bay 2).state.powered = false ∧ ((lossLeft .cooling).bay 2).state = .cooling
    ∧ s.monitor.audio = .muted ∧ s.monitor.lineClass ≠ s.tables.cabinet.system.menuClass
    ∧ 0 < s.tables.cabinet.system.settle ∧ (s.feeder 2).queue = [] ∧ s.gate.bay ≠ some 2
    ∧ (s.link .service).busy = false ∧ (2 : Byte).toNat = (2 : Bay).val ∧ (held s).panel.menuHold.isSome = true
    ∧ s.panel.settled = true ∧ (9 : Switch) ∉ s.panel.pressed ∧ s.routing.pulses = [] ∧ s.routing.quiet = none := by
  unfold State.LossLeft
  decide

/-- A target in CLASS that is RUNNING, and one whose report is left while the settle timer runs to its end. -/
theorem test_w_target_in_class :
    let s := locked (moving .running .classChange none) 5
    let h := { HandoverRecord.begun (.bay 2) (.bay 5) (.select .service) with phase := .classChange }
    let m := cutting.setMonitor { cutting.monitor with lineClass := .high }
    let t := (inPower m 5 .cooling).setLate (some (.cutToCooling 5))
    let f := (inPower m 5 .tripped).setLate (some (.failed 5 .tripped))
    (s.Settled ∧ s.stage = .handover h ∧ (s.bay 5).state = .running ∧ (s.checker 5).state = .locked
      ∧ (s.bay 5).attempts ≠ 0 ∧ (s.bay 5).releasePending = false ∧ s.Uninvolved 5)
    ∧ (t.reports = [] ∧ t.stage = .handover h ∧ (t.bay 5).state ≠ .running ∧ t.monitor.cut = some (.bay 5)
      ∧ t.monitor.settle.isSome = true ∧ t.monitor.audio ≠ .falling ∧ t.late = some (.cutToCooling 5))
    ∧ (f.late = some (.failed 5 .tripped) ∧ f.monitor.lineClass ≠ f.tables.cabinet.system.menuClass
      ∧ 0 < f.tables.cabinet.system.settle) := by
  unfold State.Settled State.Uninvolved
  decide

/-! ### Audit and links -/

/-- `keyed` with a FULL snapshot of a link. -/
def latched (l : Link) : State :=
  keyed.setSnapshot (some { owner := l, counters := keyed.audit.counters, live := 0, pool := 0 })

theorem test_w_latch :
    (keyed.Takes .selector .latch ∧ keyed.snapshot = none)
    ∧ ((latched .selector).Takes .selector .latch ∧ ((latched .selector).snapshot.map Snapshot.owner) = some .selector)
    ∧ ((latched .service).Takes .selector .latch ∧ ((latched .service).snapshot.map Snapshot.owner) = some .service) :=
  ⟨⟨takes (by decide), rfl⟩, ⟨takes (by decide), rfl⟩, takes (by decide), rfl⟩

theorem test_w_read_counters :
    (keyed.Takes .selector (.readCounters 1 0) ∧ (0 : Byte).toNat < (1 : Byte).toNat)
    ∧ (keyed.Takes .selector (.readCounters 49 50) ∧ 49 < (50 : Byte).toNat)
    ∧ (keyed.Takes .selector (.readCounters 0 12) ∧ 11 < (12 : Byte).toNat - (0 : Byte).toNat)
    ∧ (keyed.Takes .selector (.readCounters 38 49) ∧ (49 : Byte).toNat - (38 : Byte).toNat ≤ 11 ∧ keyed.snapshot = none)
    ∧ ((latched .selector).Takes .selector (.readCounters 49 49)
      ∧ ((latched .selector).snapshot.map Snapshot.owner) = some .selector) :=
  ⟨⟨takes (by decide), by decide⟩, ⟨takes (by decide), by decide⟩, ⟨takes (by decide), by decide⟩,
    ⟨takes (by decide), by decide, rfl⟩, takes (by decide), rfl⟩

theorem test_w_free_snapshot :
    ((latched .selector).Takes .selector .freeSnapshot
      ∧ ((latched .selector).snapshot.map Snapshot.owner) = some .selector)
    ∧ ((latched .service).Takes .selector .freeSnapshot ∧ ((latched .service).snapshot.map Snapshot.owner) = some .service)
    ∧ keyed.Takes .selector .freeSnapshot ∧ keyed.snapshot = none :=
  ⟨⟨takes (by decide), rfl⟩, ⟨takes (by decide), rfl⟩, takes (by decide), rfl⟩

theorem test_w_frames : (Request.writeRoutes 7 0 0 18 (List.replicate 54 0)).wf = true
    ∧ (keyed.link .service).rx = .hunt ∧ (keyed.link .service).busy = false := by decide

/-- `keyed` with a receiver in a state on the service link. -/
def receiving (r : Receiver) : State := keyed.setRx .service r

theorem test_w_receiver :
    ((receiving (.length 0)).link .service).rx = .length 0 ∧ (60 : Byte).toNat ≤ 60 ∧ 60 < (61 : Byte).toNat
    ∧ ((receiving (.typ 0 3)).link .service).rx = .typ 0 3
    ∧ ((receiving (.payload 2 0x03 [1] 0)).link .service).rx = .payload 2 0x03 [1] 0
    ∧ (([1] : List Byte).length + 1 < (3 : Byte).toNat ∧ ¬([1] : List Byte).length + 1 < (2 : Byte).toNat) := by decide

theorem test_w_frame_end :
    (Instr.grant .service 1).request? = some (.service, .grant 1) ∧ (Request.grant 1).wf = true
    ∧ ((receiving (.check 1 0x27 [1] 0)).link .service).rx = .check 1 (Request.grant 1).typ (Request.grant 1).payload 0
    ∧ ((receiving (.check 1 0x27 [1] 0)).link .service).busy = false ∧ decodeRequest 0x30 [] = .unknown
    ∧ (0x00 : Byte) ≠ frameCheck 1 0x27 [1] := by decide

/-- A GRANT without its argument byte. -/
theorem test_w_frame_length :
    let s := receiving (.check 0 0x27 [] 0)
    (s.link .service).busy = false ∧ (s.link .service).rx = .check 0 0x27 [] 0 ∧ 32 ≤ (0x27 : Byte).toNat
    ∧ (0x27 : Byte).toNat ≤ 41 ∧ decodeRequest 0x27 [] = .format ∧ 41 < (0x30 : Byte).toNat := by decide

theorem test_w_frame_end_busy :
    let s := (after keyed (exec (.status .service) keyed)).setRx .service (.check 1 0x27 [1] 0)
    (s.link .service).busy = true ∧ (s.link .service).rx = .check 1 0x27 [1] 0 := by decide

theorem test_w_status_and_bay :
    keyed.Takes .selector .status ∧ (keyed.Takes .selector (.queryBay 8) ∧ 7 < (8 : Byte).toNat)
    ∧ (keyed.Takes .selector (.queryBay 7) ∧ (7 : Byte).toNat = (7 : Bay).val) :=
  ⟨takes (by decide), ⟨takes (by decide), by decide⟩, takes (by decide), by decide⟩

/-- A link whose reply is being sent, the request's end bringing something or nothing. -/
def replyingTo (s : State) (a : AfterReply) : State :=
  s.setLink .service { s.link .service with pending := some ⟨0x2F, none, a⟩, tx := some (.reply (.ack 0x2F [])) }

theorem test_w_sending :
    let m := keyed.setLink .service { keyed.link .service with mark := some 1, tx := some (.busyLink 1) }
    (((replyingTo keyed .nothing).link .service).tx = some (.reply (.ack 0x2F []))
      ∧ ((replyingTo keyed .nothing).link .service).pending = some ⟨0x2F, none, .nothing⟩)
    ∧ (((replyingTo (latched .service) .freeSnapshot).link .service).pending = some ⟨0x2F, none, .freeSnapshot⟩
      ∧ (replyingTo (latched .service) .freeSnapshot).snapshot.map Snapshot.owner = some .service)
    ∧ ((replyingTo keyed .restart).link .service).pending = some ⟨0x2F, none, .restart⟩
    ∧ ((m.link .service).tx = some (.busyLink 1) ∧ (m.link .service).pending = none)
    ∧ (keyed.link .service).tx = some (.notice (.stageRestart false)) := by decide

/-- A notice that ends while a reply waits, behind a discarded frame, and before another notice. -/
theorem test_w_notice_end :
    let k := keyed.link .service
    let n := Notice.stageRestart false
    let y := Reply.ack 0x01 []
    k.tx = some (.notice n) ∧ k.pending = none ∧ k.mark = none ∧ k.queue = []
    ∧ { k with pending := some ⟨0x01, some y, .nothing⟩ }.tx = some (.notice n)
    ∧ { k with mark := some 0x01 }.pending = none ∧ { k with queue := [n] }.mark = none := by decide

theorem test_w_notice_queue :
    let n := Notice.stageRestart false
    ({ LinkState.fresh with queue := List.replicate 15 n }).queue.length < 16
    ∧ 16 ≤ ({ LinkState.fresh with queue := List.replicate 16 n }).queue.length := by decide

theorem test_w_restart : keyed.Takes .service .restart := takes (by decide)

end Sys2Proof.Tests
end

section
/-! Store changes that answer a request: what a closure evaluation and its notices leave on each link, and WITHDRAW
(R13 to R15, R23). -/

namespace Sys2Proof.Machine

/-! ## The pool and the units under `dropFirst` (R23) -/

/-- The pool tokens that `dropFirst` takes are the oldest. -/
theorem dropFirst_pool (n : Nat) (l : List Token) :
    (dropFirst n l).filter (fun k => decide (k.place = .pool))
      = (l.filter fun k => decide (k.place = .pool)).drop n := by
  fun_induction dropFirst n l with
  | case1 => rfl
  | case2 => exact List.drop_nil.symm
  | case3 n k rest hpool ih => simpa [hpool] using ih
  | case4 n k rest hunit ih => simpa [hunit] using ih

/-- `dropFirst` takes no token that stands in a unit. -/
theorem dropFirst_units (n : Nat) (l : List Token) :
    (dropFirst n l).filter (fun k => decide (k.place ≠ .pool)) = l.filter fun k => decide (k.place ≠ .pool) := by
  fun_induction dropFirst n l with
  | case1 => rfl
  | case2 => rfl
  | case3 n k rest hpool ih => simpa [hpool] using ih
  | case4 n k rest hunit ih => simpa [hunit] using ih

/-! ## A link that is told notices while it holds a request (R186, R188, R190) -/

/-- Placing a notice does not look at the pending request. -/
theorem LinkState.place_withPending (k : LinkState) (p : Option PendingRequest) (n : Notice) :
    { k with pending := p }.place n = { k.place n with pending := p } := by
  unfold LinkState.place
  split <;> rfl

/-- A request that is being taken holds every notice of its event back. -/
theorem LinkState.toldAll_pending (k : LinkState) (p : PendingRequest) (g : p.waiting = none) (ns : List Notice) :
    { k with pending := some p }.toldAll ns = { k.placeAll ns with pending := some p } := by
  induction ns generalizing k with
  | nil => rfl
  | cons n ns ih =>
    have htold : { k with pending := some p }.told n = { k.place n with pending := some p } :=
      (LinkState.told_pending _ n p rfl g).trans (k.place_withPending _ n)
    calc { k with pending := some p }.toldAll (n :: ns)
        = ({ k with pending := some p }.told n).toldAll ns := rfl
      _ = { k.placeAll (n :: ns) with pending := some p } := by rw [htold]; exact ih (k.place n)

/-! ## Closure (R15, R18) -/

/-- What follows a closure evaluation says nothing of the links. -/
theorem State.ClosureFollows.setLink {s t : State} (h : s.ClosureFollows t) (l : Link) (k : LinkState) :
    s.ClosureFollows (t.setLink l k) := by
  obtain ⟨hclosed, hcoils, hrest⟩ := h
  cases l <;> exact ⟨hclosed, hcoils, hrest⟩

theorem State.ClosureFollows.notify {s t : State} (h : s.ClosureFollows t) (n : Notice) :
    s.ClosureFollows (t.notify n) := by
  unfold State.notify State.notifyOn
  exact (h.setLink _ _).setLink _ _

theorem State.closureNotices_setLink (s t : State) (l : Link) (k : LinkState) :
    s.closureNotices (t.setLink l k) = s.closureNotices t := by
  cases l <;> rfl

theorem State.closureNotices_notify (s t : State) (n : Notice) :
    s.closureNotices (t.notify n) = s.closureNotices t :=
  (s.closureNotices_setLink _ _ _).trans (s.closureNotices_setLink _ _ _)

theorem State.storeNotices_setLink (s t : State) (l : Link) (k : LinkState) (c : PoolCause) (n : Nat) (b : Option Bay) :
    s.storeNotices (t.setLink l k) c n b = s.storeNotices t c n b := by
  cases l <;> rfl

/-- Intake set as its reasons give, with the coils following, is what R15 and R18 ask for. -/
theorem State.settleClosure_follows {s u : State} (h : u.intake = s.intake) : s.ClosureFollows u.settleClosure where
  closed := rfl
  coils c := by
    rw [← h]
    exact Vector.getElem_ofFn c.isLt
  rest := by rw [← h]; rfl

/-- A closure evaluation leaves the intake as R15 and R18 give it. -/
theorem State.evalClosure_follows {s u : State} (h : u.intake = s.intake) : s.ClosureFollows u.evalClosure := by
  have hsettled := State.settleClosure_follows h
  unfold State.evalClosure State.tellClosure
  split
  · exact hsettled
  · exact hsettled.notify _

/-- A closure evaluation tells each link its INTAKE notice, if intake changes. -/
theorem State.link_evalClosure {s u : State} (h : u.intake = s.intake) (l : Link) :
    u.evalClosure.link l = (u.link l).toldAll (s.closureNotices u.evalClosure) := by
  have hlink : u.settleClosure.link l = u.link l := State.link_congr rfl l
  unfold State.evalClosure State.tellClosure
  split
  next hsame =>
    rw [h] at hsame
    rw [State.closureNotices, if_pos hsame, hlink]
    rfl
  next hchanged =>
    rw [h] at hchanged
    rw [State.notifyIntake, State.link_notify, hlink, State.closureNotices_notify, State.closureNotices,
      if_neg hchanged]
    rfl

/-! ## Store changes (R13, R14) -/

/-- What follows a store change tells each link the POOL notice, then what the closure evaluation sends. -/
theorem State.link_storeChanged {s u : State} (h : u.intake = s.intake) (c : PoolCause) (n : Nat) (b : Option Bay)
    (l : Link) : (u.storeChanged c n b).link l
      = (u.link l).toldAll (s.storeNotices (u.storeChanged c n b) c n b) := by
  rw [State.storeNotices, State.storeChanged_store]
  calc (u.storeChanged c n b).link l
      = ((u.notify (.pool c n b u.store.poolCount u.store.free)).link l).toldAll
          (s.closureNotices (u.storeChanged c n b)) :=
        State.link_evalClosure (u := u.notify (.pool c n b u.store.poolCount u.store.free)) h l
    _ = (u.link l).toldAll (.pool c n b u.store.poolCount u.store.free
          :: s.closureNotices (u.storeChanged c n b)) := by rw [State.link_notify]; rfl

/-- What follows a store change leaves everything but the intake and the links. -/
theorem State.storeChanged_frame (u : State) (c : PoolCause) (n : Nat) (b : Option Bay) :
    u.storeChanged c n b
      = { u with intake := (u.storeChanged c n b).intake, links := (u.storeChanged c n b).links } := by
  apply State.ext <;> simp

/-- The store change `u` that a request makes, acknowledged: closure follows, the notices are sent on both links, and
nothing else changes (R13 to R15, R188). -/
theorem State.takeRequest_storeChanged {s u : State} {l : Link} {r : Request} {data : List Byte} {c : PoolCause}
    {n : Nat} {b : Option Bay} (hu : u.Settled) (hintake : u.intake = s.intake)
    (hlinks : u.links = (s.setPendingRequest l r.typ).links)
    (hp : (s.setPendingRequest l r.typ).perform l r = (u.storeChanged c n b, .ack data)) :
    ∃ t, s.takeRequest l r = t ∧ s.ClosureFollows t ∧ s.Answers t l r data (s.storeNotices t c n b)
      ∧ t = { u with intake := t.intake, links := t.links } := by
  have hsettled : (u.storeChanged c n b).Settled := by simpa [State.Settled] using hu
  have hclosure : s.ClosureFollows (u.storeChanged c n b) := State.evalClosure_follows hintake
  have hlink (m : Link) : (u.storeChanged c n b).link m
      = ((s.setPendingRequest l r.typ).link m).toldAll (s.storeNotices (u.storeChanged c n b) c n b) := by
    rw [State.link_storeChanged hintake, State.link_congr hlinks]
  refine ⟨_, State.takeRequest_next hp hsettled, hclosure.setLink _ _, ?_, ?_⟩
  · rw [State.storeNotices_setLink]
    refine ⟨?_, fun m hm => ?_⟩
    · rw [State.link_setLink_same, hlink, State.setPendingRequest, State.link_setLink_same,
        LinkState.toldAll_pending _ _ rfl]
      rfl
    · rw [State.link_setLink_other _ _ hm, hlink, State.setPendingRequest, State.link_setLink_other _ _ hm]
  · rw [State.storeChanged_frame u c n b]
    cases l <;> rfl

/-! ## WITHDRAW (R23) -/

theorem numberArg_outside {lo hi : Nat} {x : Byte} (h : x.toNat < lo ∨ hi < x.toNat) : numberArg lo hi x = none :=
  if_neg (by omega)

theorem numberArg_within {lo hi : Nat} {x : Byte} (h : lo ≤ x.toNat) (h' : x.toNat ≤ hi) :
    numberArg lo hi x = some x.toNat := if_pos ⟨h, h'⟩

theorem State.askWithdraw_range {s : State} {n : Byte} (h : n.toNat < 1 ∨ 64 < n.toNat) :
    s.askWithdraw n = (s, .nak .range) := by
  rw [State.askWithdraw, numberArg_outside h]

theorem State.askWithdraw_noCredit {s : State} {n : Byte} (h : 1 ≤ n.toNat) (h' : n.toNat ≤ 64)
    (hpool : s.store.poolCount < n.toNat) : s.askWithdraw n = (s, .nak .noCredit) := by
  simp only [State.askWithdraw, numberArg_within h h', if_pos hpool]

theorem State.askWithdraw_retires {s : State} {n : Byte} (h : 1 ≤ n.toNat) (h' : n.toNat ≤ 64)
    (hpool : n.toNat ≤ s.store.poolCount) :
    s.askWithdraw n = ((s.withdrawTokens n.toNat).storeChanged .withdraw n.toNat none, .ack []) := by
  simp only [State.askWithdraw, numberArg_within h h', if_neg (Nat.not_lt.2 hpool)]

/-- A WITHDRAW that its link takes is judged by R23. -/
theorem exec_withdraw_takes {s : State} {l : Link} {n : Byte} (h : s.Takes l (.withdraw n)) :
    exec (.withdraw l n) s = .next (s.takeRequest l (.withdraw n)) :=
  congrArg Host.Outcome.next (State.command_takes h)

/-- A WITHDRAW whose tests refuse it changes nothing but its link (R23, R189). -/
theorem refuses_withdraw {s : State} {l : Link} {n : Byte} {why : NakReason} (h : s.Takes l (.withdraw n))
    (hask : ∀ u : State, u.store = s.store → u.askWithdraw n = (u, .nak why)) :
    s.Refuses (.withdraw l n) l (.withdraw n) why := by
  rw [State.Refuses, exec_withdraw_takes h]
  exact congrArg _ (State.takeRequest_nak h.settled (hask _ (State.setLink_store s l _)) rfl)

/-- A WITHDRAW of at most the pool count takes the oldest pool tokens out of the arrival list (R23). -/
theorem exec_withdraw_retires {s : State} {l : Link} {n : Byte} (h : s.Takes l (.withdraw n)) (h1 : 1 ≤ n.toNat)
    (h64 : n.toNat ≤ 64) (hpool : n.toNat ≤ s.store.poolCount) :
    ∃ t, exec (.withdraw l n) s = .next t
      ∧ t.store = { s.store with arrival := dropFirst n.toNat s.store.arrival }
      ∧ t.audit = s.audit.advance tokensWithdrawnIx n.toNat
      ∧ s.ClosureFollows t ∧ s.Answers t l (.withdraw n) [] (s.storeNotices t .withdraw n.toNat none)
      ∧ t = { s with store := t.store, audit := t.audit, intake := t.intake, links := t.links } := by
  let p := s.setPendingRequest l (Request.withdraw n).typ
  have hstore : p.store = s.store := State.setLink_store s l _
  have hsettled : (p.withdrawTokens n.toNat).Settled := by cases l <;> exact h.settled
  obtain ⟨t, htake, hclosure, hanswers, hframe⟩ :=
    State.takeRequest_storeChanged (u := p.withdrawTokens n.toNat) hsettled (State.setLink_intake s l _) rfl
      (State.askWithdraw_retires (s := p) h1 h64 (hstore ▸ hpool))
  refine ⟨t, (exec_withdraw_takes h).trans (congrArg _ htake), ?_, ?_, hclosure, hanswers, ?_⟩
  all_goals
    rw [hframe]
    cases l <;> rfl

/-- Settles O19: the tests of R23 one after another, then the store change read off `dropFirst`. -/
theorem withdrawRetiresOldestPool : Obligations.WithdrawRetiresOldestPool := by
  intro s l n
  refine ⟨rfl, fun htakes => ⟨fun hrange => ?_, fun h1 h64 hpool => ?_, fun h1 h64 hpool => ?_⟩⟩
  · exact refuses_withdraw htakes fun _ _ => State.askWithdraw_range hrange
  · exact refuses_withdraw htakes fun u hu => State.askWithdraw_noCredit h1 h64 (hu ▸ hpool)
  · obtain ⟨t, hexec, hstore, haudit, hclosure, hanswers, hframe⟩ := exec_withdraw_retires htakes h1 h64 hpool
    refine ⟨t, hexec, ?_, ?_, ?_, ?_, haudit, hclosure, hanswers, hframe⟩
    · rw [hstore]; exact dropFirst_pool n.toNat s.store.arrival
    · rw [hstore]; exact dropFirst_sublist n.toNat s.store.arrival
    · rw [hstore]; exact dropFirst_units n.toNat s.store.arrival
    · rw [hstore]

end Sys2Proof.Machine
end

section
/-! Grants of the pulse units: which feeder the arbiter chooses, and what a grant may change (R30, R31, R40, R41). -/

namespace Sys2Proof.Machine

/-! ## Reading a feeder -/

@[simp] theorem State.feeder_setFeeder_same (s : State) (b : Bay) (f : Feeder) : (s.setFeeder b f).feeder b = f :=
  Vector.getElem_set_self b.isLt

theorem State.feeder_setFeeder_other (s : State) {b k : Bay} (f : Feeder) (h : k ≠ b) :
    (s.setFeeder b f).feeder k = s.feeder k :=
  Vector.getElem_set_ne b.isLt k.isLt fun hval => h (Fin.ext hval.symm)

/-- A feeder is read from the field `feeders` alone. -/
theorem State.feeder_congr {s t : State} (h : s.feeders = t.feeders) (k : Bay) : s.feeder k = t.feeder k :=
  congrArg (fun v : Vector Feeder 8 => v[k]) h

/-- A pulse request stands exactly when units are queued behind an empty slot (R28, R30). -/
theorem Feeder.requests_iff (f : Feeder) : f.requests = true ↔ f.slot = none ∧ f.queue ≠ [] := by
  unfold Feeder.requests Feeder.state
  cases f.slot with
  | none => cases f.queue <;> simp
  | some k =>
    cases f.held with
    | some u => simp
    | none => by_cases hdoubt : k.status = .doubt <;> simp [hdoubt]

/-! ## The search (R41) -/

theorem allBays_find?_eq_some (p : Bay → Bool) (b : Bay) :
    allBays.find? p = some b ↔ p b = true ∧ ∀ k : Bay, k < b → p k = false := by
  have hall : allBays = List.finRange 8 := by decide
  rw [hall, ← Fin.find?_eq_find?_finRange, Fin.find?_eq_some_iff]

theorem State.searchOrder_fixed {s : State} (h : s.tables.cabinet.system.arbiter = .fixed) :
    s.searchOrder = allBays := by
  rw [State.searchOrder, h]

theorem State.searchOrder_rotating {s : State} (h : s.tables.cabinet.system.arbiter = .rotating) :
    s.searchOrder = allBays.map fun k => s.pulses.pointer + 1 + k := by
  rw [State.searchOrder, h]

theorem State.chosenBay_fixed {s : State} (h : s.tables.cabinet.system.arbiter = .fixed) (b : Bay) :
    s.chosenBay = some b
      ↔ (s.feeder b).requests = true ∧ ∀ k : Bay, k < b → (s.feeder k).requests = false := by
  rw [State.chosenBay, State.searchOrder_fixed h, allBays_find?_eq_some]

/-- A search that begins behind the bay `q` finds the waiting bay with the least distance from there. -/
theorem find?_from_behind (p : Bay → Bool) (q b : Bay) :
    (allBays.map fun k => q + 1 + k).find? p = some b
      ↔ p b = true ∧ ∀ k : Bay, (k - q - 1).val < (b - q - 1).val → p k = false := by
  have hback (k : Bay) : q + 1 + (k - q - 1) = k := by abel
  have hforth (d : Bay) : q + 1 + d - q - 1 = d := by abel
  rw [List.find?_map, Option.map_eq_some_iff]
  constructor
  · rintro ⟨d, hfound, rfl⟩
    obtain ⟨hp, hbefore⟩ := (allBays_find?_eq_some _ d).1 hfound
    refine ⟨hp, fun k hk => ?_⟩
    rw [hforth] at hk
    have hfree := hbefore (k - q - 1) hk
    rwa [Function.comp_apply, hback] at hfree
  · rintro ⟨hp, hbefore⟩
    refine ⟨b - q - 1, (allBays_find?_eq_some _ _).2 ⟨?_, fun d hd => ?_⟩, hback b⟩
    · rwa [Function.comp_apply, hback]
    · exact hbefore _ (by rwa [hforth])

theorem State.chosenBay_rotating {s : State} (h : s.tables.cabinet.system.arbiter = .rotating) (b : Bay) :
    s.chosenBay = some b ↔ (s.feeder b).requests = true
      ∧ ∀ k : Bay, (k - s.pulses.pointer - 1).val < (b - s.pulses.pointer - 1).val → (s.feeder k).requests = false := by
  rw [State.chosenBay, State.searchOrder_rotating h, find?_from_behind]

/-- A bay that is chosen has units queued behind an empty slot. -/
theorem State.waits_of_chosenBay {s : State} {b : Bay} (h : s.chosenBay = some b) :
    (s.feeder b).slot = none ∧ (s.feeder b).queue ≠ [] :=
  (Feeder.requests_iff _).1 (List.find?_some (p := fun k => (s.feeder k).requests) h)

/-! ## What a grant sets (R31, R36, R41) -/

@[simp] theorem State.setPulse_pointer (s : State) (u : PulseId) (p : Option Pulse) :
    (s.setPulse u p).pulses.pointer = s.pulses.pointer := by
  cases u <;> rfl

@[simp] theorem State.setFeeder_pointer (s : State) (b : Bay) (f : Feeder) :
    (s.setFeeder b f).pulses.pointer = s.pulses.pointer := rfl

/-- The ACTIVE edge leaves the rotation pointer. -/
@[simp] theorem State.activeEdge_pointer (s : State) (u : PulseId) :
    (s.activeEdge u).pulses.pointer = s.pulses.pointer := by
  unfold State.activeEdge
  dsimp only
  repeat' split
  all_goals simp

/-- A grant to a feeder with units queued sets the rotation pointer to its bay. -/
theorem State.grantPulse_pointer {s : State} {b : Bay} (h : (s.feeder b).queue ≠ []) (u : PulseId) :
    (s.grantPulse u b).pulses.pointer = b := by
  unfold State.grantPulse
  dsimp only
  split
  next hempty => exact absurd hempty h
  next => split <;> simp

theorem State.grantOne_of_chosenBay {s : State} {u : PulseId} {b : Bay} (hu : s.freePulse = some u)
    (hb : s.chosenBay = some b) : s.grantOne = s.grantPulse u b := by
  rw [State.grantOne, hu, hb]

/-- A grant sets the rotation pointer to the bay that was chosen. -/
theorem State.grantOne_pointer {s : State} {b : Bay} (hfree : s.freePulse.isSome = true) (hb : s.chosenBay = some b) :
    s.grantOne.pulses.pointer = b := by
  obtain ⟨u, hu⟩ := Option.isSome_iff_exists.1 hfree
  rw [State.grantOne_of_chosenBay hu hb, State.grantPulse_pointer (State.waits_of_chosenBay hb).2]

/-- Settles O22: the two search orders, and the pointer that a grant leaves. -/
theorem arbiterChoosesByMode : Obligations.ArbiterChoosesByMode := fun _ b =>
  ⟨fun hfixed => State.chosenBay_fixed hfixed b, fun hrotating => State.chosenBay_rotating hrotating b,
    State.grantOne_pointer, rfl⟩

end Sys2Proof.Machine
end

section
/-! Draws: the number a formed unit takes, the tokens a draw gives its units, and TRANSFER (R10, R26, R29, R34). -/

namespace Sys2Proof.Machine

/-! ## Records of a bay behind a change of a link -/

@[simp] theorem State.setLink_feeder (s : State) (l : Link) (x : LinkState) (b : Bay) :
    (s.setLink l x).feeder b = s.feeder b := by cases l <;> rfl
@[simp] theorem State.setLink_bay (s : State) (l : Link) (x : LinkState) (b : Bay) :
    (s.setLink l x).bay b = s.bay b := by cases l <;> rfl
@[simp] theorem State.setLink_profile (s : State) (l : Link) (x : LinkState) (b : Bay) :
    (s.setLink l x).profile b = s.profile b := by cases l <;> rfl

/-! ## Unit numbers (R26) -/

/-- The search for a unit number passes held numbers only, and ends at one that is not held unless its fuel is spent. -/
theorem nextFreeUnit_skips (held : List UnitNo) (fuel : Nat) (n : UnitNo) :
    ∃ j : Nat, j ≤ fuel ∧ nextFreeUnit held fuel n = n + BitVec.ofNat 8 j
      ∧ (∀ x : Nat, x < j → n + BitVec.ofNat 8 x ∈ held) ∧ (j < fuel → n + BitVec.ofNat 8 j ∉ held) := by
  induction fuel generalizing n with
  | zero => exact ⟨0, le_refl 0, (BitVec.add_zero n).symm, fun x hx => absurd hx (Nat.not_lt_zero x),
      fun h => absurd h (Nat.lt_irrefl 0)⟩
  | succ fuel ih =>
    rw [nextFreeUnit]
    split
    next hheld =>
      have hnext (x : Nat) : n + BitVec.ofNat 8 (x + 1) = n + 1 + BitVec.ofNat 8 x := by
        rw [Nat.add_comm, BitVec.ofNat_add, BitVec.add_assoc]
        rfl
      obtain ⟨j, hj, hfound, hskip, hfresh⟩ := ih (n + 1)
      refine ⟨j + 1, by omega, by rw [hfound, hnext], fun x hx => ?_, fun hlt => ?_⟩
      · cases x with
        | zero => simpa using hheld
        | succ x => rw [hnext]; exact hskip x (by omega)
      · rw [hnext]; exact hfresh (by omega)
    next hfree =>
      exact ⟨0, by omega, (BitVec.add_zero n).symm, fun x hx => absurd hx (by omega), fun _ => by simpa using hfree⟩

/-- Numbers counted on from one of them are apart, up to 256 of them. -/
theorem length_of_run_held {held : List UnitNo} {n : UnitNo} {j : Nat} (hj : j ≤ 256)
    (h : ∀ x : Nat, x < j → n + BitVec.ofNat 8 x ∈ held) : j ≤ held.length := by
  have hsub : ((List.range j).map fun x => n + BitVec.ofNat 8 x) ⊆ held := by
    intro y hy
    obtain ⟨x, hx, rfl⟩ := List.mem_map.1 hy
    exact h x (List.mem_range.1 hx)
  have hapart : ((List.range j).map fun x => n + BitVec.ofNat 8 x).Nodup := by
    refine List.Nodup.map_on (fun x hx y hy hxy => ?_) List.nodup_range
    have hval := congrArg BitVec.toNat (add_left_cancel hxy)
    have := List.mem_range.1 hx
    have := List.mem_range.1 hy
    simp only [BitVec.toNat_ofNat] at hval
    omega
  simpa using (hapart.subperm hsub).length_le

/-- The number of the next unit is the first from the next-unit counter on that its feeder does not hold. -/
theorem Feeder.freshNumber_spec (f : Feeder) (h : f.numbers.length ≤ 9) :
    ∃ j : Nat, j ≤ 9 ∧ f.freshNumber = f.nextUnit + BitVec.ofNat 8 j ∧ f.freshNumber ∉ f.numbers
      ∧ ∀ x : Nat, x < j → f.nextUnit + BitVec.ofNat 8 x ∈ f.numbers := by
  obtain ⟨j, hj, hfound, hskip, hfresh⟩ := nextFreeUnit_skips f.numbers (f.numbers.length + 1) f.nextUnit
  have hheld : j ≤ f.numbers.length := length_of_run_held (by omega) hskip
  refine ⟨j, by omega, hfound, ?_, hskip⟩
  rw [Feeder.freshNumber, hfound]
  exact hfresh (by omega)

/-! ## Places (R10) -/

/-- The tokens that `placeFirst` places are the oldest of the pool. -/
theorem placeFirst_pool {p : Place} (hp : p ≠ .pool) (n : Nat) (l : List Token) :
    (placeFirst p n l).filter (fun k => decide (k.place = .pool))
      = (l.filter fun k => decide (k.place = .pool)).drop n := by
  fun_induction placeFirst p n l with
  | case1 => rfl
  | case2 => exact List.drop_nil.symm
  | case3 n k rest hpool ih => simpa [hpool, hp] using ih
  | case4 n k rest hunit ih => simpa [hunit] using ih

/-- `placeFirst` gives the oldest pool tokens their place and leaves every other token as it is. -/
theorem placeFirst_eq_map (p : Place) (n : Nat) (l : List Token) (h : l.Nodup) :
    placeFirst p n l = l.map fun x =>
      if x ∈ (l.filter fun k => decide (k.place = .pool)).take n then { x with place := p } else x := by
  fun_induction placeFirst p n l with
  | case1 l => simp
  | case2 => rfl
  | case3 n k rest hpool ih =>
    obtain ⟨hk, hrest⟩ := List.nodup_cons.1 h
    rw [List.map_cons, ih hrest]
    refine congrArg₂ List.cons (by simp [hpool]) (List.map_congr_left fun x hx => ?_)
    have hne : x ≠ k := fun e => hk (e ▸ hx)
    simp [hpool, hne]
  | case4 n k rest hunit ih =>
    obtain ⟨-, hrest⟩ := List.nodup_cons.1 h
    have hk : k ∉ (rest.filter fun x => decide (x.place = .pool)).take (n + 1) := fun hmem =>
      hunit (by simpa using List.of_mem_filter (List.mem_of_mem_take hmem))
    rw [List.map_cons, ih hrest]
    simp [hunit, hk]

/-! ## Units formed (R10, R26, R29) -/

@[simp] theorem State.formUnit_store (s : State) (b : Bay) (cause : UnitCause) :
    (s.formUnit b cause).store = { s.store with
      arrival := placeFirst (.feeder b (s.feeder b).freshNumber) (s.profile b).coin.rate s.store.arrival } := rfl

theorem State.formUnit_feeder_same (s : State) (b : Bay) (cause : UnitCause) :
    (s.formUnit b cause).feeder b = { s.feeder b with
      queue := (s.feeder b).queue ++ [formedUnit s.store (s.feeder b) (s.profile b).coin cause]
      nextUnit := (s.feeder b).freshNumber + 1 } :=
  State.feeder_setFeeder_same _ b _

theorem State.formUnit_feeder_other (s : State) {b d : Bay} (cause : UnitCause) (h : d ≠ b) :
    (s.formUnit b cause).feeder d = s.feeder d :=
  State.feeder_setFeeder_other _ _ h

/-- The formation of one unit. -/
theorem formedUnitTakesNumberAndTokens : Claims.FormedUnitTakesNumberAndTokens := by
  intro s b cause k
  refine ⟨rfl, rfl, fun hstore hheld => ?_⟩
  obtain ⟨j, hj, hnumber, hfresh, hskip⟩ := (s.feeder b).freshNumber_spec hheld
  refine ⟨j, hj, ?_⟩
  simp only [← hnumber]
  refine ⟨hfresh, hskip, s.formUnit_feeder_same b cause, fun d hd => s.formUnit_feeder_other cause hd, ?_, rfl⟩
  rw [State.formUnit_store, placeFirst_eq_map _ _ _ hstore.2.of_map]
  rfl

/-- A draw for a bay has formed these units from the oldest pool tokens, and changed the store's places and the bay's
queue and next-unit counter only. -/
structure State.Forms (s t : State) (b : Bay) (cause : UnitCause) (new : List CoinUnit) : Prop where
  queue : (t.feeder b).queue = (s.feeder b).queue ++ new
  slot : (t.feeder b).slot = (s.feeder b).slot
  others : ∀ d : Bay, d ≠ b → t.feeder d = s.feeder d
  each : ∀ u ∈ new, u.tokens.length = (s.profile b).coin.rate ∧ u.line = (s.profile b).coin.line ∧ u.cause = cause
    ∧ u.status = .queued
  tokens : new.flatMap CoinUnit.tokens
    = (s.store.poolTokens.take (new.length * (s.profile b).coin.rate)).map Token.seq
  pool : t.store.poolTokens = s.store.poolTokens.drop (new.length * (s.profile b).coin.rate)
  seqs : t.store.arrival.map Token.seq = s.store.arrival.map Token.seq
  frame : t = { s with store := t.store, feeders := t.feeders }

theorem State.Forms.nil (s : State) (b : Bay) (cause : UnitCause) : s.Forms s b cause [] where
  queue := (List.append_nil _).symm
  slot := rfl
  others _ _ := rfl
  each _ h := absurd h List.not_mem_nil
  tokens := by simp
  pool := by simp
  seqs := rfl
  frame := rfl

/-- One unit formed while the pool holds the tokens of its rate. -/
theorem State.forms_formUnit {s : State} {b : Bay} (h : (s.profile b).coin.rate ≤ s.store.poolCount)
    (cause : UnitCause) :
    s.Forms (s.formUnit b cause) b cause [formedUnit s.store (s.feeder b) (s.profile b).coin cause] where
  queue := by rw [State.formUnit_feeder_same]
  slot := by rw [State.formUnit_feeder_same]
  others d hd := s.formUnit_feeder_other cause hd
  each u hu := by
    obtain rfl := List.mem_singleton.1 hu
    refine ⟨?_, rfl, rfl, rfl⟩
    simpa [formedUnit, TokenStore.poolCount] using h
  tokens := by simp [formedUnit]
  pool := by
    rw [List.length_singleton, Nat.one_mul]
    exact placeFirst_pool (by simp) _ _
  seqs := placeFirst_seqs _ _ _
  frame := rfl

/-- Units formed behind others take the tokens behind theirs. -/
theorem State.Forms.append {s t v : State} {b : Bay} {cause : UnitCause} {new more : List CoinUnit}
    (h : s.Forms t b cause new) (g : t.Forms v b cause more) : s.Forms v b cause (new ++ more) := by
  have hprofile : t.profile b = s.profile b := by rw [h.frame]; rfl
  refine ⟨?_, g.slot.trans h.slot, fun d hd => (g.others d hd).trans (h.others d hd), fun u hu => ?_, ?_, ?_,
    g.seqs.trans h.seqs, ?_⟩
  · rw [g.queue, h.queue, List.append_assoc]
  · rcases List.mem_append.1 hu with hnew | hmore
    · exact h.each u hnew
    · exact hprofile ▸ g.each u hmore
  · rw [List.flatMap_append, h.tokens, g.tokens, h.pool, hprofile, List.length_append, Nat.add_mul, List.take_add,
      List.map_append]
  · rw [g.pool, h.pool, hprofile, List.drop_drop, List.length_append, Nat.add_mul]
  · have hframe := congrArg (fun x : State => { x with store := v.store, feeders := v.feeders }) h.frame
    exact g.frame.trans hframe

/-- A draw of `k` units for which the pool holds the tokens forms them one behind the other. -/
theorem State.forms_formUnits (s : State) (b : Bay) (cause : UnitCause) (k : Nat)
    (h : k * (s.profile b).coin.rate ≤ s.store.poolCount) :
    ∃ new : List CoinUnit, new.length = k ∧ s.Forms (s.formUnits b cause k) b cause new := by
  induction k generalizing s with
  | zero => exact ⟨[], rfl, .nil s b cause⟩
  | succ k ih =>
    rw [Nat.succ_mul] at h
    have hone := State.forms_formUnit (s := s) (b := b) (by omega) cause
    have hrest : k * (s.profile b).coin.rate ≤ (s.formUnit b cause).store.poolCount := by
      rw [TokenStore.poolCount, hone.pool, List.length_drop, List.length_singleton, Nat.one_mul]
      exact Nat.le_sub_of_add_le h
    obtain ⟨new, hlength, hforms⟩ := ih (s.formUnit b cause) hrest
    exact ⟨_, by simp [hlength], hone.append hforms⟩

/-- The slot's unit stands first, so units that join the queue stand last. -/
theorem State.Forms.units {s t : State} {b : Bay} {cause : UnitCause} {new : List CoinUnit}
    (h : s.Forms t b cause new) : (t.feeder b).units = (s.feeder b).units ++ new := by
  have hqueued : new.map (fun u => { u with status := .queued }) = new :=
    (List.map_congr_left (g := id) fun u hu => by
      obtain ⟨-, -, -, hstatus⟩ := h.each u hu
      rw [← hstatus, id]).trans (List.map_id new)
  rw [Feeder.units, h.slot, h.queue, ← List.append_assoc, List.map_append, hqueued]
  rfl

/-- Forming units does not look at the links. -/
theorem State.formUnits_setLink (s : State) (l : Link) (x : LinkState) (b : Bay) (cause : UnitCause) (k : Nat) :
    (s.setLink l x).formUnits b cause k = (s.formUnits b cause k).setLink l x := by
  have hone (u : State) : (u.setLink l x).formUnit b cause = (u.formUnit b cause).setLink l x := by cases l <;> rfl
  induction k generalizing s with
  | zero => rfl
  | succ k ih => rw [State.formUnits, hone, ih, State.formUnits]

/-! ## What grants leave (R31, R38, R40) -/

/-- Between two states pulse units have been granted or have gone on: each feeder holds the units it held. -/
structure State.Grants (s t : State) : Prop where
  units : ∀ k : Bay, (t.feeder k).units = (s.feeder k).units
  nextUnit : ∀ k : Bay, (t.feeder k).nextUnit = (s.feeder k).nextUnit
  frame : t = { s with feeders := t.feeders, pulses := t.pulses }

theorem State.Grants.refl (s : State) : s.Grants s := ⟨fun _ => rfl, fun _ => rfl, rfl⟩

theorem State.Grants.trans {s t v : State} (h : s.Grants t) (g : t.Grants v) : s.Grants v where
  units k := (g.units k).trans (h.units k)
  nextUnit k := (g.nextUnit k).trans (h.nextUnit k)
  frame := by
    have hframe := congrArg (fun x : State => { x with feeders := v.feeders, pulses := v.pulses }) h.frame
    exact g.frame.trans hframe

theorem State.grants_setPulses (s : State) (x : PulseBank) : s.Grants (s.setPulses x) :=
  ⟨fun _ => rfl, fun _ => rfl, rfl⟩

theorem State.grants_setPulse (s : State) (u : PulseId) (p : Option Pulse) : s.Grants (s.setPulse u p) := by
  cases u <;> exact s.grants_setPulses _

theorem State.grants_setFeeder {s : State} {b : Bay} {f : Feeder} (hunits : f.units = (s.feeder b).units)
    (hnext : f.nextUnit = (s.feeder b).nextUnit) : s.Grants (s.setFeeder b f) := by
  refine ⟨fun k => ?_, fun k => ?_, rfl⟩ <;> by_cases hk : k = b
  · rw [hk, State.feeder_setFeeder_same, hunits]
  · rw [State.feeder_setFeeder_other _ _ hk]
  · rw [hk, State.feeder_setFeeder_same, hnext]
  · rw [State.feeder_setFeeder_other _ _ hk]

/-- The ACTIVE edge moves the status of the slot's unit and no unit. -/
theorem State.grants_activeEdge (s : State) (u : PulseId) : s.Grants (s.activeEdge u) := by
  unfold State.activeEdge
  dsimp only
  split
  next => exact .refl s
  next p _ =>
    have hpulse := s.grants_setPulse u (some { p with phase := .active, count := 0 })
    split
    next => exact hpulse
    next k hslot =>
      split
      next => exact hpulse.trans (State.grants_setFeeder (by simp [Feeder.units, hslot]) rfl)
      next => exact hpulse

/-- A grant moves the head unit into the empty slot. -/
theorem State.grants_grantPulse {s : State} {b : Bay} (hslot : (s.feeder b).slot = none) (u : PulseId) :
    s.Grants (s.grantPulse u b) := by
  unfold State.grantPulse
  dsimp only
  split
  next => exact .refl s
  next k rest hqueue =>
    have hhead : s.Grants (s.setFeeder b
        { s.feeder b with queue := rest, slot := some { k with status := .sending }, held := some u }) :=
      State.grants_setFeeder (by simp [Feeder.units, hslot, hqueue]) rfl
    split
    next =>
      exact ((hhead.trans (State.grants_setPulses _ _)).trans (State.grants_setPulse _ u _)).trans
        (State.grants_activeEdge _ u)
    next => exact (hhead.trans (State.grants_setPulses _ _)).trans (State.grants_setPulse _ u _)

theorem State.grants_grantOne (s : State) : s.Grants s.grantOne := by
  unfold State.grantOne
  split
  next u b _ hb => exact State.grants_grantPulse (State.waits_of_chosenBay hb).1 u
  next => exact .refl s

theorem State.grants_arbitrate (s : State) : s.Grants s.arbitrate :=
  s.grants_grantOne.trans s.grantOne.grants_grantOne

/-- What follows a store change does not look at the feeders and the pulse units. -/
theorem State.storeChanged_setFeeding (s : State) (x : Vector Feeder 8) (y : PulseBank) (c : PoolCause) (n : Nat)
    (b : Option Bay) :
    ((s.setFeeders x).setPulses y).storeChanged c n b = ((s.storeChanged c n b).setFeeders x).setPulses y := by
  have htell (u : State) (was : Bool) :
      ((u.setFeeders x).setPulses y).tellClosure was = ((u.tellClosure was).setFeeders x).setPulses y :=
    (apply_ite (fun w : State => (w.setFeeders x).setPulses y) (u.intake.closed = was) u
      (u.notifyIntake (if u.intake.closed then .closed else .opened) none)).symm
  exact htell (s.notify (.pool c n b s.store.poolCount s.store.free)).settleClosure _

/-- Grants made behind a store change are grants made before it. -/
theorem State.arbitrate_storeChanged (v : State) (c : PoolCause) (n : Nat) (b : Option Bay) :
    ∃ u : State, v.Grants u ∧ (v.storeChanged c n b).arbitrate = u.storeChanged c n b := by
  have hgrants := (v.storeChanged c n b).grants_arbitrate
  have hfeeder (k : Bay) : (v.storeChanged c n b).feeder k = v.feeder k :=
    State.feeder_congr (v.storeChanged_feeders c n b) k
  refine ⟨(v.setFeeders (v.storeChanged c n b).arbitrate.feeders).setPulses (v.storeChanged c n b).arbitrate.pulses,
    ⟨fun k => ?_, fun k => ?_, rfl⟩, ?_⟩
  · rw [← hfeeder]; exact hgrants.units k
  · rw [← hfeeder]; exact hgrants.nextUnit k
  · rw [State.storeChanged_setFeeding]; exact hgrants.frame

/-! ## TRANSFER (R34) -/

theorem bayArg_outside {x : Byte} (h : 7 < x.toNat) : bayArg x = none := dif_neg (by omega)

theorem bayArg_within {x : Byte} {b : Bay} (h : x.toNat = b.val) : bayArg x = some b := by
  rw [bayArg, dif_pos (h ▸ b.isLt)]
  exact congrArg some (Fin.ext h)

theorem State.askTransfer_range {s : State} {bay n : Byte} (h : 7 < bay.toNat ∨ n.toNat < 1 ∨ 8 < n.toNat) :
    s.askTransfer bay n = (s, .nak .range) := by
  unfold State.askTransfer
  rcases h with hbay | hn
  · rw [bayArg_outside hbay]
  · rw [numberArg_outside hn]
    split
    next heq => exact absurd heq (by simp)
    next => rfl

theorem State.askTransfer_within {s : State} {bay n : Byte} {b : Bay} (hbay : bay.toNat = b.val) (h1 : 1 ≤ n.toNat)
    (h8 : n.toNat ≤ 8) : s.askTransfer bay n = s.transfer b n.toNat := by
  rw [State.askTransfer, bayArg_within hbay, numberArg_within h1 h8]

section
variable {s : State} {b : Bay} {k : Nat}

theorem State.transfer_state (h : (s.bay b).state ≠ .running ∨ (s.profile b).play.payMode = .freePlay) :
    s.transfer b k = (s, .nak .state) := by
  rw [State.transfer]
  rcases h with hstopped | hfree
  · rw [if_pos (by simpa [State.isRunning] using hstopped)]
  · rw [if_pos hfree, ite_self]

theorem State.transfer_running (hrun : (s.bay b).state = .running) (hpaid : (s.profile b).play.payMode ≠ .freePlay) :
    s.transfer b k =
      if s.store.poolCount < k * (s.profile b).coin.rate then (s, .nak .noCredit)
      else if 8 - (s.feeder b).queue.length < k then (s, .nak .queueFull)
      else ((s.drawUnits b .transfer k).arbitrate, .ack []) := by
  rw [State.transfer, if_neg (by simpa [State.isRunning] using hrun), if_neg hpaid]
  rfl

end

/-- A TRANSFER that its link takes is judged by R34. -/
theorem exec_transfer_takes {s : State} {l : Link} {bay n : Byte} (h : s.Takes l (.transfer bay n)) :
    exec (.transfer l bay n) s = .next (s.takeRequest l (.transfer bay n)) :=
  congrArg Host.Outcome.next (State.command_takes h)

/-- A TRANSFER whose tests refuse it changes nothing but its link (R34, R189). -/
theorem refuses_transfer {s : State} {l : Link} {bay n : Byte} {why : NakReason} (h : s.Takes l (.transfer bay n))
    (hask : ∀ x : LinkState, (s.setLink l x).askTransfer bay n = (s.setLink l x, .nak why)) :
    s.Refuses (.transfer l bay n) l (.transfer bay n) why := by
  rw [State.Refuses, exec_transfer_takes h]
  exact congrArg _ (State.takeRequest_nak h.settled (hask _) rfl)

/-- A TRANSFER that passes every test: its units are formed, then pulse units are granted, and closure follows the store
change (R10, R26, R34, R40). -/
theorem exec_transfer_draws {s : State} {l : Link} {bay n : Byte} {b : Bay} (h : s.Takes l (.transfer bay n))
    (hask : ∀ x : LinkState, (s.setLink l x).askTransfer bay n
      = (((s.setLink l x).drawUnits b .transfer n.toNat).arbitrate, .ack []))
    {new : List CoinUnit} (hforms : s.Forms (s.formUnits b .transfer n.toNat) b .transfer new) :
    ∃ t, exec (.transfer l bay n) s = .next t
      ∧ t.store = (s.formUnits b .transfer n.toNat).store
      ∧ (∀ d : Bay, (t.feeder d).units = ((s.formUnits b .transfer n.toNat).feeder d).units)
      ∧ (t.feeder b).nextUnit = ((s.formUnits b .transfer n.toNat).feeder b).nextUnit
      ∧ s.ClosureFollows t
      ∧ s.Answers t l (.transfer bay n) []
          (s.storeNotices t .draw (n.toNat * (s.profile b).coin.rate) (some b))
      ∧ t = { s with store := t.store, feeders := t.feeders, pulses := t.pulses, intake := t.intake
                     links := t.links } := by
  let v := s.formUnits b .transfer n.toNat
  obtain ⟨x, hpending⟩ : ∃ x, s.setPendingRequest l (Request.transfer bay n).typ = s.setLink l x := ⟨_, rfl⟩
  obtain ⟨u, hgrants, harbitrate⟩ :=
    (v.setLink l x).arbitrate_storeChanged .draw (n.toNat * (s.profile b).coin.rate) (some b)
  have hu : u = { s.setLink l x with store := v.store, feeders := u.feeders, pulses := u.pulses } := by
    refine hgrants.frame.trans ((congrArg (fun w : State =>
      { w.setLink l x with feeders := u.feeders, pulses := u.pulses }) hforms.frame).trans ?_)
    cases l <;> rfl
  have hperform : (s.setPendingRequest l (Request.transfer bay n).typ).perform l (.transfer bay n)
      = (u.storeChanged .draw (n.toNat * (s.profile b).coin.rate) (some b), .ack []) := by
    rw [hpending, ← harbitrate, ← State.formUnits_setLink]
    refine (hask x).trans ?_
    rw [State.drawUnits, State.drawSize, State.setLink_profile]
  have hsettled : u.Settled := by rw [hu]; cases l <;> exact h.settled
  have hintake : u.intake = s.intake := by rw [hu]; exact State.setLink_intake s l x
  obtain ⟨t, htake, hclosure, hanswers, hframe⟩ :=
    State.takeRequest_storeChanged hsettled hintake (by rw [hu, hpending]) hperform
  have hfeeder (d : Bay) : t.feeder d = u.feeder d := State.feeder_congr (by rw [hframe]) d
  refine ⟨t, (exec_transfer_takes h).trans (congrArg _ htake), ?_, fun d => ?_, ?_, hclosure, hanswers, ?_⟩
  · rw [hframe, hu]
  · rw [hfeeder, hgrants.units, State.setLink_feeder]
  · rw [hfeeder, hgrants.nextUnit, State.setLink_feeder]
  · rw [hframe, hu]
    cases l <;> rfl

/-- TRANSFER, its tests one after another and then its draw. -/
theorem transferDrawsUnits : Claims.TransferDrawsUnits := by
  intro s l bay n
  refine ⟨rfl, fun htakes => ⟨fun hrange => refuses_transfer htakes fun _ => State.askTransfer_range hrange,
    fun b hbay h1 h8 => ?_⟩⟩
  have hask (x : LinkState) := State.askTransfer_within (s := s.setLink l x) hbay h1 h8
  refine ⟨fun hstate => ?_, fun hrun hpaid => ?_⟩
  · exact refuses_transfer htakes fun x => (hask x).trans (State.transfer_state (by simpa using hstate))
  have htests (x : LinkState) := (hask x).trans (State.transfer_running (by simpa using hrun) (by simpa using hpaid))
  simp only [State.setLink_store, State.setLink_profile, State.setLink_feeder] at htests
  refine ⟨fun hpool => ?_, fun hpool hqueue => ?_, fun hpool hqueue => ?_⟩
  · exact refuses_transfer htakes fun x => by rw [htests, if_pos hpool]
  · exact refuses_transfer htakes fun x => by rw [htests, if_neg (Nat.not_lt.2 hpool), if_pos hqueue]
  · obtain ⟨new, hlength, hforms⟩ := s.forms_formUnits b .transfer n.toNat hpool
    obtain ⟨t, hexec, hstore, hunits, hnext, hclosure, hanswers, hframe⟩ := exec_transfer_draws htakes
      (fun x => by rw [htests, if_neg (Nat.not_lt.2 hpool), if_neg (Nat.not_lt.2 hqueue)]) hforms
    refine ⟨t, hexec, fun d hd => ?_, new, ?_, hlength, fun u hu => ?_, ?_, ?_, ?_, hstore, hunits b, hnext, hclosure,
      hanswers, hframe⟩
    · rw [hunits, hforms.others d hd]
    · rw [hunits, hforms.units]
    · obtain ⟨htokens, hline, hcause, -⟩ := hforms.each u hu
      exact ⟨htokens, hline, hcause⟩
    · rw [hforms.tokens, hlength]
    · rw [hstore, hforms.pool, hlength]
    · rw [hstore, hforms.seqs]

/-- Settles O21: R34's tests with the draw behind them, and the formation of one unit. -/
theorem transferFormsUnits : Obligations.TransferFormsUnits := ⟨transferDrawsUnits, formedUnitTakesNumberAndTokens⟩

end Sys2Proof.Machine
end

section
/-! Reads of settings: what a read of a profile group, a cabinet group or a run of route entries answers, and that it
changes nothing but its link (R83, R88, R93). -/

namespace Sys2Proof.Machine

/-! ## A request judged without a change (R188, R189) -/

section
variable {s : State} {i : Instr} {l : Link} {r : Request}

/-- A request that its rule refuses on any state that differs in the link's record alone is refused. -/
theorem State.Takes.refuses {why : NakReason} (h : s.Takes l r) (hexec : exec i s = .next (s.command l r))
    (hafter : s.afterReply l r = .nothing)
    (hask : ∀ x : LinkState, (s.setLink l x).perform l r = (s.setLink l x, .nak why)) : s.Refuses i l r why := by
  rw [State.Refuses, hexec, State.command_takes h]
  exact congrArg _ (State.takeRequest_nak h.settled (hask _) hafter)

/-- A request that its rule acknowledges without a change, with the same data whatever the link's record, is a read. -/
theorem State.Takes.reads {data : List Byte} (h : s.Takes l r) (hexec : exec i s = .next (s.command l r))
    (hask : ∀ x : LinkState, (s.setLink l x).perform l r = (s.setLink l x, .ack data)) : s.Reads i l r data := by
  rw [State.Reads, hexec, State.command_takes h]
  exact congrArg _ (State.takeRequest_ack h.settled (hask _))

end

/-! ## The records behind a change of a link -/

@[simp] theorem State.setLink_routeMap (s : State) (l : Link) (x : LinkState) (b : Bay) :
    (s.setLink l x).routeMap b = s.routeMap b := by cases l <;> rfl
@[simp] theorem State.setLink_cabinetBytes (s : State) (l : Link) (x : LinkState) (g : CabinetGroup) :
    (s.setLink l x).cabinetBytes g = s.cabinetBytes g := by cases l <;> rfl

/-! ## READ_PROFILE (R83) -/

theorem profileGroupArg_outside {x : Byte} (h : 3 < x.toNat) : profileGroupArg x = none := by
  obtain ⟨n, hn⟩ := Nat.exists_eq_add_of_le' h
  rw [profileGroupArg, hn]
  rfl

theorem State.askReadProfile_range {s : State} {bay group : Byte} (h : 7 < bay.toNat ∨ 3 < group.toNat) :
    s.askReadProfile bay group = (s, .nak .range) := by
  unfold State.askReadProfile
  rcases h with hbay | hgroup
  · rw [bayArg_outside hbay]
  · rw [profileGroupArg_outside hgroup]
    cases bayArg bay <;> rfl

theorem State.askReadProfile_within {s : State} {bay group : Byte} {b : Bay} {g : ProfileGroup}
    (hbay : bay.toNat = b.val) (hgroup : profileGroupArg group = some g) :
    s.askReadProfile bay group = (s, .ack ((s.profile b).groupBytes g)) := by
  rw [State.askReadProfile, bayArg_within hbay, hgroup]

/-! ## READ_CABINET (R93) -/

theorem cabinetGroupArg_outside {x : Byte} (h : 2 < x.toNat) : cabinetGroupArg x = none := by
  obtain ⟨n, hn⟩ := Nat.exists_eq_add_of_le' h
  rw [cabinetGroupArg, hn]
  rfl

theorem State.askReadCabinet_range {s : State} {group : Byte} (h : 2 < group.toNat) :
    s.askReadCabinet group = (s, .nak .range) := by
  rw [State.askReadCabinet, cabinetGroupArg_outside h]

theorem State.askReadCabinet_within {s : State} {group : Byte} {g : CabinetGroup}
    (h : cabinetGroupArg group = some g) : s.askReadCabinet group = (s, .ack (s.cabinetBytes g)) := by
  rw [State.askReadCabinet, h]

/-! ## READ_ROUTES (R88) -/

/-- The entries that READ_ROUTES names: `count` of them from `start` on, going round the list. -/
def routeRun (m : List Route) (hm : 0 < m.length) (start count : Nat) : List Route :=
  (List.range count).map fun k => m[(start + k) % m.length]'(Nat.mod_lt _ hm)

section
variable {m : List Route} (hm : 0 < m.length) (start count : Nat)

theorem routeRun_length : (routeRun m hm start count).length = count := by
  rw [routeRun, List.length_map, List.length_range]

theorem routeRun_getElem? {k : Nat} (h : k < count) :
    (routeRun m hm start count)[k]? = m[(start + k) % m.length]? := by
  rw [routeRun, List.getElem?_map, List.getElem?_range h, List.getElem?_eq_getElem (Nat.mod_lt _ hm)]
  rfl

/-- The bytes read are those of the run's entries, one entry after another. -/
theorem readRoutes_eq_routeRun : readRoutes m start count = (routeRun m hm start count).flatMap Route.bytes := by
  rw [readRoutes, routeRun, List.flatMap_map]
  congr 1
  funext k
  rw [List.getElem?_eq_getElem (Nat.mod_lt _ hm)]
  rfl

end

section
variable {s : State} {bay start count : Byte} {b : Bay}

theorem State.askReadRoutes_range (h : 7 < bay.toNat ∨ count.toNat < 1 ∨ 18 < count.toNat) :
    s.askReadRoutes bay start count = (s, .nak .range) := by
  unfold State.askReadRoutes
  rcases h with hbay | hcount
  · rw [bayArg_outside hbay]
  · rw [numberArg_outside hcount]
    cases bayArg bay <;> rfl

theorem State.askReadRoutes_within (hbay : bay.toNat = b.val) (h1 : 1 ≤ count.toNat) (h18 : count.toNat ≤ 18) :
    s.askReadRoutes bay start count =
      if (s.routeMap b).length ≤ start.toNat then (s, .nak .range)
      else (s, .ack (byteOf (s.routeMap b).length :: readRoutes (s.routeMap b) start.toNat count.toNat)) := by
  rw [State.askReadRoutes, bayArg_within hbay, numberArg_within h1 h18]

end

/-! ## The three reads as commands -/

/-- READ_PROFILE by R83. -/
theorem readProfile_answers {s : State} {l : Link} {bay group : Byte} (h : s.Takes l (.readProfile bay group)) :
    ((7 < bay.toNat ∨ 3 < group.toNat) → s.Refuses (.readProfile l bay group) l (.readProfile bay group) .range)
    ∧ ∀ (b : Bay) (g : ProfileGroup), bay.toNat = b.val → profileGroupArg group = some g →
      s.Reads (.readProfile l bay group) l (.readProfile bay group) ((s.profile b).groupBytes g) := by
  refine ⟨fun hrange => h.refuses rfl rfl fun _ => State.askReadProfile_range hrange, fun b g hbay hgroup =>
    h.reads rfl fun x => ?_⟩
  rw [← State.setLink_profile s l x]
  exact State.askReadProfile_within hbay hgroup

/-- READ_CABINET by R93. -/
theorem readCabinet_answers {s : State} {l : Link} {group : Byte} (h : s.Takes l (.readCabinet group)) :
    (2 < group.toNat → s.Refuses (.readCabinet l group) l (.readCabinet group) .range)
    ∧ ∀ g : CabinetGroup, cabinetGroupArg group = some g →
      s.Reads (.readCabinet l group) l (.readCabinet group) (s.cabinetBytes g) := by
  refine ⟨fun hrange => h.refuses rfl rfl fun _ => State.askReadCabinet_range hrange, fun g hgroup =>
    h.reads rfl fun x => ?_⟩
  rw [← State.setLink_cabinetBytes s l x]
  exact State.askReadCabinet_within hgroup

section
variable {s : State} {l : Link} {bay start count : Byte} {b : Bay}

/-- A READ_ROUTES from an entry that the bay's list does not hold is refused (R88). -/
theorem refuses_readRoutes_past (h : s.Takes l (.readRoutes bay start count)) (hbay : bay.toNat = b.val)
    (h1 : 1 ≤ count.toNat) (h18 : count.toNat ≤ 18) (hpast : (s.routeMap b).length ≤ start.toNat) :
    s.Refuses (.readRoutes l bay start count) l (.readRoutes bay start count) .range := by
  refine h.refuses rfl rfl fun x => ?_
  rw [← State.setLink_routeMap s l x] at hpast
  exact (State.askReadRoutes_within hbay h1 h18).trans (if_pos hpast)

/-- A READ_ROUTES from an entry of the bay's list answers the list's length and the run from there (R88). -/
theorem reads_readRoutes_run (h : s.Takes l (.readRoutes bay start count)) (hbay : bay.toNat = b.val)
    (h1 : 1 ≤ count.toNat) (h18 : count.toNat ≤ 18) (hstart : start.toNat < (s.routeMap b).length) :
    s.Reads (.readRoutes l bay start count) l (.readRoutes bay start count) (byteOf (s.routeMap b).length ::
      (routeRun (s.routeMap b) (Nat.zero_lt_of_lt hstart) start.toNat count.toNat).flatMap Route.bytes) := by
  refine h.reads rfl fun x => ?_
  rw [← readRoutes_eq_routeRun, ← State.setLink_routeMap s l x]
  refine (State.askReadRoutes_within hbay h1 h18).trans (if_neg (Nat.not_le.2 ?_))
  rwa [State.setLink_routeMap]

end

/-- Settles O33: each read by its own rule, the reads of route entries with the run they name as the entries. -/
theorem settingsReadsAnswer : Obligations.SettingsReadsAnswer := by
  intro s l
  refine ⟨fun _ _ _ _ => ⟨rfl, rfl, rfl⟩, fun _ _ => readProfile_answers, fun _ => readCabinet_answers,
    fun bay start count htakes => ⟨fun hrange => ?_, fun b hbay h1 h18 => ⟨?_, fun hstart => ?_⟩⟩⟩
  · exact htakes.refuses rfl rfl fun _ => State.askReadRoutes_range hrange
  · exact refuses_readRoutes_past htakes hbay h1 h18
  · have hm := Nat.zero_lt_of_lt hstart
    exact ⟨routeRun (s.routeMap b) hm start.toNat count.toNat, routeRun_length hm _ _,
      fun _ hk => routeRun_getElem? hm _ _ hk, reads_readRoutes_run htakes hbay h1 h18 hstart⟩

end Sys2Proof.Machine
end

section
/-! A bay's return to OFF, and what a power cut leaves of the Bay Power Controller's records: ARM_BAY and ENABLE_BAY
(R118, R125, R126, R130). -/

namespace Sys2Proof.Machine

/-! ## Reading a bay's power record -/

@[simp] theorem State.bay_setBay_same (s : State) (b : Bay) (p : BayPower) : (s.setBay b p).bay b = p :=
  Vector.getElem_set_self b.isLt

theorem State.bay_setBay_other (s : State) {b d : Bay} (p : BayPower) (h : d ≠ b) :
    (s.setBay b p).bay d = s.bay d :=
  Vector.getElem_set_ne b.isLt d.isLt fun hval => h (Fin.ext hval.symm)

/-- A bay's record is read from the field `power` alone. -/
theorem State.bay_congr {s t : State} (h : s.power = t.power) (b : Bay) : s.bay b = t.bay b :=
  congrArg (fun p : Power => p.bays[b]) h

/-! ## A cut handed on leaves the Bay Power Controller's records (R118)

What the feeder, the gate and the Crosspoint owe the Bay Power Controller at a power loss they send as reports. -/

section
variable (s : State) (b : Bay)

@[simp] theorem State.arbitrate_power : s.arbitrate.power = s.power := by rw [s.grants_arbitrate.frame]

@[simp] theorem State.cutPulse_power (held : Option PulseId) : (s.cutPulse held).power = s.power := by
  cases held with
  | none => rfl
  | some u => exact s.setPulse_power u none

@[simp] theorem State.putFeeder_power (f : Feeder) : (s.putFeeder b f).power = s.power := by
  unfold State.putFeeder
  split <;> rfl

@[simp] theorem State.returnUnits_power (ns : List UnitNo) : (s.returnUnits b ns).power = s.power := by
  unfold State.returnUnits
  split <;> simp

@[simp] theorem State.abandon_power (cause : AbandonCause) : (s.abandon b cause).power = s.power := by
  simp [State.abandon, State.returnQueued]

@[simp] theorem State.gateLeaves_power (cause : AbandonCause) : (s.gateLeaves b cause).power = s.power := by
  unfold State.gateLeaves
  repeat' split
  all_goals simp

@[simp] theorem State.complete_power : (s.complete b).power = s.power := by
  unfold State.complete
  repeat' split
  all_goals simp [State.fire]

@[simp] theorem State.gateConfirmed_power (n : UnitNo) : (s.gateConfirmed b n).power = s.power := by
  unfold State.gateConfirmed
  dsimp only
  split <;> simp

@[simp] theorem State.handOutcome_power (k : CoinUnit) (o : GateOutcome) : (s.handOutcome b k o).power = s.power := by
  unfold State.handOutcome State.gateOutcome
  repeat' split
  all_goals simp

@[simp] theorem State.handReturned_power (ks : List CoinUnit) : (s.handReturned b ks).power = s.power := by
  unfold State.handReturned
  induction ks generalizing s with
  | nil => rfl
  | cons k ks ih => exact (ih _).trans (s.handOutcome_power b k .returned)

@[simp] theorem State.confirmUnit_power (k : CoinUnit) : (s.confirmUnit b k).power = s.power := by
  simp [State.confirmUnit, State.retireTokens]

theorem State.confirmUnits_power (ks : List CoinUnit) :
    (ks.foldl (fun s k => s.confirmUnit b k) s).power = s.power := by
  induction ks generalizing s with
  | nil => rfl
  | cons k ks ih => exact (ih _).trans (s.confirmUnit_power b k)

@[simp] theorem State.feederPowerLoss_power : (s.feederPowerLoss b).power = s.power := by
  unfold State.feederPowerLoss
  dsimp only
  split
  · rfl
  · simp [State.confirmUnits_power]

/-- In either order of the gate's and the feeder's parts (R76). -/
@[simp] theorem State.creditLoss_power : (s.creditLoss b).power = s.power := by
  unfold State.creditLoss inFreeOrder
  repeat' split
  all_goals simp [State.drawn]

@[simp] theorem State.routingLoss_power : (s.routingLoss b).power = s.power := by
  unfold State.routingLoss
  split <;> rfl

@[simp] theorem State.crosspointLoss_power : (s.crosspointLoss b).power = s.power := by
  unfold State.crosspointLoss State.blankSource State.reportFall
  repeat' split
  all_goals rfl

@[simp] theorem State.handOnCut_power : (s.handOnCut b).power = s.power := by
  simp [State.handOnCut, State.setBayFilters]

/-! ## Trips (R125) -/

/-- A power cut leaves the Bay Power Controller as entering the unpowered state does. -/
@[simp] theorem State.cutPower_power (into : PowerState) : (s.cutPower b into).power = (s.enterCut b into).power := by
  unfold State.cutPower
  split
  · exact (s.enterCut b into).handOnCut_power b
  · rfl

@[simp] theorem State.reportLoss_power (c : LossCause) : (s.reportLoss b c).power = s.power := by
  unfold State.reportLoss
  split <;> rfl

@[simp] theorem State.reportTarget_power (r : Option FailReason) : (s.reportTarget b r).power = s.power := by
  unfold State.reportTarget
  repeat' split
  all_goals rfl

theorem State.enterCut_bay (into : PowerState) : (s.enterCut b into).bay b =
    { s.bay b with state := into, deferred := none, releasePending := false, timer := cutTimer into } :=
  s.bay_setBay_same b _

theorem State.trip_bay_state : ((s.trip b).bay b).state = .tripped := by
  have hpower : (s.trip b).power = (s.enterCut b .tripped).power := by simp [State.trip, State.notifyBay]
  rw [State.bay_congr hpower, State.enterCut_bay]

end

/-- An entry to STARTING with the overcurrent input active trips (R117, R125). -/
theorem State.enterStarting_overcurrent {s : State} {b : Bay} (h : s.pins.overcurrent[b] = true) :
    ((s.enterStarting b).bay b).state = .tripped := by
  unfold State.enterStarting
  exact (congrArg (fun t : State => (t.bay b).state) (if_pos h)).trans (State.trip_bay_state _ b)

/-- The overcurrent input of a bay that is not powered is not examined: only the line changes (R125, R126). -/
theorem exec_overcurrent_unpowered {s : State} {b : Bay} (h : (s.bay b).state.powered = false) (active : Bool) :
    exec (.overcurrent b active) s
      = .next { s with pins := { s.pins with overcurrent := s.pins.overcurrent.set b active } } := by
  show execOvercurrent b active s = _
  have hno : ¬(active && (s.bay b).state.powered) = true := by simp [h]
  exact congrArg Host.Outcome.next (if_neg hno)

/-! ## A request that returns a bay to OFF (R126, R130) -/

/-- A change that a taken request makes and tells both links of by one notice, acknowledged (R188, R190). -/
theorem State.takeRequest_notify {s u : State} {l : Link} {r : Request} {data : List Byte} {n : Notice}
    (hu : u.Settled) (hlinks : u.links = (s.setPendingRequest l r.typ).links)
    (hp : (s.setPendingRequest l r.typ).perform l r = (u.notify n, .ack data)) :
    ∃ t, s.takeRequest l r = t ∧ s.Answers t l r data [n] ∧ t = { u with links := t.links } := by
  have hlink (m : Link) : (u.notify n).link m = ((s.setPendingRequest l r.typ).link m).toldAll [n] := by
    rw [State.link_notify, State.link_congr hlinks]
    rfl
  refine ⟨_, State.takeRequest_next (t := u.notify n) hp hu, ⟨?_, fun m hm => ?_⟩, ?_⟩
  · rw [State.link_setLink_same, hlink, State.setPendingRequest, State.link_setLink_same,
      LinkState.toldAll_pending _ _ rfl]
    rfl
  · rw [State.link_setLink_other _ _ hm, hlink, State.setPendingRequest, State.link_setLink_other _ _ hm]
  · cases l <;> rfl

/-- A bay back in OFF with the retained flags given, its attempts as they were. -/
def State.backInOff (s : State) (flags : RetainedFlags) (b : Bay) : State :=
  (s.setFlags flags).setBay b { s.bay b with state := .off }

@[simp] theorem State.backInOff_bay_same (s : State) (flags : RetainedFlags) (b : Bay) :
    (s.backInOff flags b).bay b = { s.bay b with state := .off } := State.bay_setBay_same _ b _

theorem State.backInOff_bay_other (s : State) (flags : RetainedFlags) {b d : Bay} (h : d ≠ b) :
    (s.backInOff flags b).bay d = s.bay d := State.bay_setBay_other _ _ h

/-- The BAY notice of a bay back in OFF (R136). -/
theorem State.backInOff_notifyBay (s : State) (flags : RetainedFlags) (b : Bay) (e : BayEvent) :
    (s.backInOff flags b).notifyBay e b
      = (s.backInOff flags b).notify (.bay e b .off (s.bay b).attempts (s.warmPosition b)) := by
  rw [State.notifyBay, State.backInOff_bay_same]
  rfl

/-- What a request leaves that returns a bay to OFF with a BAY notice and an ACK. -/
theorem State.Takes.returnsBay {s : State} {i : Instr} {l : Link} {r : Request} {flags : RetainedFlags} {b : Bay}
    {e : BayEvent} (h : s.Takes l r) (hexec : exec i s = .next (s.command l r))
    (hask : ∀ x : LinkState, (s.setLink l x).perform l r
      = (((s.setLink l x).backInOff flags b).notifyBay e b, .ack [])) :
    ∃ t, exec i s = .next t ∧ t.flags = flags ∧ t.bay b = { s.bay b with state := .off }
      ∧ (∀ d : Bay, d ≠ b → t.bay d = s.bay d)
      ∧ s.Answers t l r [] [.bay e b .off (s.bay b).attempts (s.warmPosition b)]
      ∧ t = { s with flags := flags, power := { s.power with bays := t.power.bays }, links := t.links } := by
  obtain ⟨x, hpending⟩ : ∃ x, s.setPendingRequest l r.typ = s.setLink l x := ⟨_, rfl⟩
  let u := (s.setLink l x).backInOff flags b
  have hsettled : u.Settled := by cases l <;> exact h.settled
  have hperform : (s.setPendingRequest l r.typ).perform l r
      = (u.notify (.bay e b .off (s.bay b).attempts (s.warmPosition b)), .ack []) := by
    rw [hpending, hask x, State.backInOff_notifyBay, State.setLink_bay, State.warmPosition, State.setLink_power]
    rfl
  obtain ⟨t, htake, hanswers, hframe⟩ := State.takeRequest_notify hsettled (by rw [hpending]; rfl) hperform
  have hbay (d : Bay) : t.bay d = u.bay d := State.bay_congr (by rw [hframe]) d
  refine ⟨t, ?_, ?_, ?_, fun d hd => ?_, hanswers, ?_⟩
  · rw [hexec, State.command_takes h, htake]
  · rw [hframe]; rfl
  · rw [hbay]; exact (State.backInOff_bay_same _ _ b).trans (by rw [State.setLink_bay])
  · rw [hbay]; exact (State.backInOff_bay_other _ _ hd).trans (s.setLink_bay l x d)
  · rw [hframe]
    cases l <;> rfl

/-! ## The tests of ARM_BAY and ENABLE_BAY -/

section
variable {s : State} {bay : Byte} {b : Bay} {ask : Bay → State × Answer}

theorem State.withBay_outside (h : 7 < bay.toNat) : s.withBay bay ask = (s, .nak .range) := by
  rw [State.withBay, bayArg_outside h]

theorem State.withBay_within (h : bay.toNat = b.val) : s.withBay bay ask = ask b := by
  rw [State.withBay, bayArg_within h]

theorem State.askArm_state (h : (s.bay b).state ≠ .tripped) : s.askArm b = (s, .nak .state) := if_pos h

theorem State.askArm_tripped (h : (s.bay b).state = .tripped) :
    s.askArm b = if s.pins.overcurrent[b] then (s, .nak .faultPresent)
      else ((s.backInOff s.flags b).notifyBay .armed b, .ack []) := if_neg (not_not.2 h)

theorem State.askEnable_state (h : (s.bay b).state ≠ .disabled) : s.askEnable b = (s, .nak .state) := if_pos h

theorem State.askEnable_disabled (h : (s.bay b).state = .disabled) :
    s.askEnable b = ((s.backInOff { s.flags with enabled := s.flags.enabled.set b true } b).notifyBay .enabled b,
      .ack []) := if_neg (not_not.2 h)

end

/-- Settles O46: the tests of R126 one after another, then the overcurrent input in OFF and at an entry to STARTING. -/
theorem armBayClearsTrip : Obligations.ArmBayClearsTrip := by
  intro s l bay
  refine ⟨rfl, fun htakes => ⟨fun hrange => ?_, fun b hbay => ⟨fun hstate => ?_, fun htripped hactive => ?_,
    fun htripped hquiet => ?_⟩⟩, fun b hoff active => ?_, fun b hactive => ?_⟩
  · exact htakes.refuses rfl rfl fun _ => State.withBay_outside hrange
  · exact htakes.refuses rfl rfl fun x =>
      (State.withBay_within hbay).trans (State.askArm_state (by simpa using hstate))
  · exact htakes.refuses rfl rfl fun x => (State.withBay_within hbay).trans
      ((State.askArm_tripped (by simpa using htripped)).trans (if_pos (by simpa using hactive)))
  · have hask (x : LinkState) : (s.setLink l x).perform l (.armBay bay)
        = (((s.setLink l x).backInOff s.flags b).notifyBay .armed b, .ack []) := by
      rw [← State.setLink_flags s l x]
      exact (State.withBay_within hbay).trans
        ((State.askArm_tripped (by simpa using htripped)).trans (if_neg (by simpa using hquiet)))
    obtain ⟨t, hexec, -, hbay, hothers, hanswers, hframe⟩ := htakes.returnsBay (i := .armBay l bay) rfl hask
    exact ⟨t, hexec, hbay, hothers, hanswers, hframe⟩
  · exact exec_overcurrent_unpowered (by rw [hoff]; rfl) active
  · exact State.enterStarting_overcurrent hactive

/-- Settles O48: the tests of R130, then the bay's return to OFF with its enabled flag. -/
theorem enableReturnsBay : Obligations.EnableReturnsBay := by
  intro s l bay
  refine ⟨rfl, fun htakes => ⟨fun hrange => ?_, fun b hbay => ⟨fun hstate => ?_, fun hdisabled => ?_⟩⟩⟩
  · exact htakes.refuses rfl rfl fun _ => State.withBay_outside hrange
  · exact htakes.refuses rfl rfl fun x =>
      (State.withBay_within hbay).trans (State.askEnable_state (by simpa using hstate))
  · have hask (x : LinkState) : (s.setLink l x).perform l (.enableBay bay)
        = (((s.setLink l x).backInOff { s.flags with enabled := s.flags.enabled.set b true } b).notifyBay .enabled b,
          .ack []) := by
      rw [← State.setLink_flags s l x]
      exact (State.withBay_within hbay).trans (State.askEnable_disabled (by simpa using hdisabled))
    obtain ⟨t, hexec, hflags, hbay, hothers, hanswers, hframe⟩ := htakes.returnsBay (i := .enableBay l bay) rfl hask
    exact ⟨t, hexec, hflags, hbay, hothers, hanswers, hflags ▸ hframe⟩

end Sys2Proof.Machine
end

section
/-! The audit snapshot: which snapshot is a link's own, a change that a request acknowledges without a notice, and
FREE_SNAPSHOT (R178, R179, R188). -/

namespace Sys2Proof.Machine

/-! ## A change acknowledged without a notice (R188) -/

/-- A request whose rule changes the state outside the links, with no notice and no report, whatever its link's record:
the change, then the reply on its own link. -/
theorem State.Takes.changes {s u : State} {i : Instr} {l : Link} {r : Request} {data : List Byte} (h : s.Takes l r)
    (hexec : exec i s = .next (s.command l r)) (hu : u.Settled) (hlinks : u.links = s.links)
    (hask : ∀ x : LinkState, (s.setLink l x).perform l r = (u.setLink l x, .ack data)) :
    exec i s = .next (u.setLink l ((s.link l).owes r.typ (.ack r.typ data) (s.afterReply l r))) := by
  have hsettled (x : LinkState) : (u.setLink l x).Settled := by cases l <;> exact hu
  rw [hexec, State.command_takes h, State.takeRequest_next (hask _) (hsettled _), ← State.link_congr hlinks l]
  simp [LinkState.owes, Answer.reply]

/-! ## The snapshot of a link (R178) -/

theorem State.setSnapshot_setLink (s : State) (l : Link) (x : LinkState) (k : Option Snapshot) :
    (s.setLink l x).setSnapshot k = (s.setSnapshot k).setLink l x := by cases l <;> rfl

@[simp] theorem State.setLink_ownSnapshot (s : State) (l m : Link) (x : LinkState) :
    (s.setLink l x).ownSnapshot m = s.ownSnapshot m := by rw [State.ownSnapshot, State.setLink_snapshot]; rfl

/-- A link's own snapshot is the FULL one that it owns. -/
theorem State.ownSnapshot_eq_some {s : State} {l : Link} {k : Snapshot} :
    s.ownSnapshot l = some k ↔ s.snapshot = some k ∧ k.owner = l := by
  rw [State.ownSnapshot, Option.filter_eq_some_iff, decide_eq_true_iff]

/-- A link has no snapshot when the snapshot is EMPTY or the other link's. -/
theorem State.ownSnapshot_eq_none {s : State} {l : Link} :
    s.ownSnapshot l = none ↔ ∀ k : Snapshot, s.snapshot = some k → k.owner ≠ l := by
  simp only [Option.eq_none_iff_forall_ne_some, ne_eq, State.ownSnapshot_eq_some, not_and]

/-! ## FREE_SNAPSHOT (R179) -/

theorem State.askFreeSnapshot_owner {s : State} {l : Link} {k : Snapshot} (h : s.ownSnapshot l = some k) :
    s.askFreeSnapshot l = (s.setSnapshot none, .ack []) := by
  rw [State.askFreeSnapshot, h]

theorem State.askFreeSnapshot_state {s : State} {l : Link} (h : s.ownSnapshot l = none) :
    s.askFreeSnapshot l = (s, .nak .state) := by
  rw [State.askFreeSnapshot, h]

/-- Settles O55: FREE_SNAPSHOT judged by whether its link has a snapshot of its own. -/
theorem freeSnapshotByOwner : Obligations.FreeSnapshotByOwner := by
  intro s l
  refine ⟨rfl, fun htakes => ⟨fun k hfull howner => ?_, fun hother => ?_⟩⟩
  · have hown : s.ownSnapshot l = some k := State.ownSnapshot_eq_some.2 ⟨hfull, howner⟩
    exact htakes.changes (u := s.setSnapshot none) rfl htakes.settled rfl fun x =>
      (State.askFreeSnapshot_owner ((s.setLink_ownSnapshot l l x).trans hown)).trans
        (congrArg (·, _) (s.setSnapshot_setLink l x none))
  · have hnone : s.ownSnapshot l = none := State.ownSnapshot_eq_none.2 hother
    exact htakes.refuses rfl rfl fun x =>
      State.askFreeSnapshot_state ((s.setLink_ownSnapshot l l x).trans hnone)

end Sys2Proof.Machine
end

section
/-! What the credit blocks (Token Store, feeders, pulse units, Start Gate) may change in one event: no setting, no power
state, no stage and no picture; no token is created, no feeder takes a unit, and the only reports are those of feeders
that become IDLE (R28, R43 to R45, R64, R71 to R75). -/

namespace Sys2Proof.Machine

/-! ## A feeder's state -/

theorem Feeder.idle_iff (f : Feeder) : f.state = .idle ↔ f.slot = none ∧ f.queue = [] := by
  unfold Feeder.state
  cases hs : f.slot with
  | none => cases hq : f.queue <;> simp
  | some u => simp; grind

/-! ## A link told a notice -/

theorem LinkState.txNext_queue_le (k : LinkState) : k.txNext.queue.length ≤ k.queue.length := by
  unfold LinkState.txNext
  repeat' split
  all_goals simp_all

/-- No notice takes a link's queue past 16 (R190). -/
theorem LinkState.place_queue_le {k : LinkState} (n : Notice) (h : k.queue.length ≤ Config.noticeCapacity) :
    (k.place n).queue.length ≤ Config.noticeCapacity := by
  unfold LinkState.place
  split
  next hroom => simpa using hroom
  next => exact h

theorem LinkState.told_queue_le {k : LinkState} (n : Notice) (h : k.queue.length ≤ Config.noticeCapacity) :
    (k.told n).queue.length ≤ Config.noticeCapacity :=
  (LinkState.txNext_queue_le _).trans (LinkState.place_queue_le n h)

/-- Both notice queues hold at most 16 notices, link by link. -/
theorem State.queuesOk_iff (s : State) : s.QueuesOk ↔ ∀ l, (s.link l).queue.length ≤ Config.noticeCapacity :=
  ⟨fun h l => by cases l; exacts [h.1, h.2], fun h => ⟨h .selector, h .service⟩⟩

theorem State.QueuesOk.setLink {s : State} (h : s.QueuesOk) (l : Link) {k : LinkState}
    (hk : k.queue.length ≤ Config.noticeCapacity) : (s.setLink l k).QueuesOk := by
  rw [State.queuesOk_iff] at h ⊢
  intro m
  by_cases hm : m = l
  · rw [hm, State.link_setLink]; exact hk
  · rw [State.link_setLink_other _ _ hm]; exact h m

theorem State.QueuesOk.notifyOn {s : State} (h : s.QueuesOk) (l : Link) (n : Notice) : (s.notifyOn l n).QueuesOk :=
  h.setLink l (LinkState.told_queue_le n ((State.queuesOk_iff s).1 h l))

/-! ## The busy-refusal mark (R186) -/

/-- A link without a busy-refusal mark. -/
def State.Unmarked (s : State) (l : Link) : Prop := (s.link l).mark = none

theorem LinkState.txNext_mark (k : LinkState) : k.txNext.mark = k.mark := by
  unfold LinkState.txNext
  repeat' split
  all_goals simp_all

theorem LinkState.told_mark (k : LinkState) (n : Notice) : (k.told n).mark = k.mark := by
  unfold LinkState.told
  rw [LinkState.txNext_mark]
  unfold LinkState.place
  split <;> rfl

theorem State.Unmarked.setLink {s : State} {l m : Link} {k : LinkState} (h : s.Unmarked m)
    (hk : k.mark = (s.link l).mark) : (s.setLink l k).Unmarked m := by
  unfold State.Unmarked at h ⊢
  by_cases hm : m = l
  · subst hm
    rw [State.link_setLink, hk, h]
  · rw [State.link_setLink_other _ _ hm, h]

/-! ## The relation -/

/-- Between two states the credit blocks alone have acted, and no unit has been drawn. -/
structure State.Credits (s t : State) : Prop where
  frame : t = { s with
    intake := t.intake, store := t.store, feeders := t.feeders, pulses := t.pulses, gate := t.gate, audit := t.audit
    links := t.links, reports := t.reports, choices := t.choices }
  live : t.store.live ≤ s.store.live
  queues : s.QueuesOk → t.QueuesOk
  marks : ∀ l, s.Unmarked l → t.Unmarked l
  shrinks : ∀ b : Bay, (t.feeder b).queue.length ≤ (s.feeder b).queue.length
  stays : ∀ b : Bay, (s.feeder b).state = .idle → (t.feeder b).state = .idle
  told : ∃ rs, t.reports = s.reports ++ rs ∧ ∀ r ∈ rs, ∃ b, r = .feederIdle b

namespace State.Credits

theorem refl (s : State) : s.Credits s :=
  ⟨rfl, le_refl _, id, fun _ => id, fun _ => le_refl _, fun _ => id, [], by simp⟩

theorem trans {s t u : State} (h : s.Credits t) (g : t.Credits u) : s.Credits u where
  frame := g.frame.trans (congrArg (fun x : State => { x with
    intake := u.intake, store := u.store, feeders := u.feeders, pulses := u.pulses, gate := u.gate, audit := u.audit
    links := u.links, reports := u.reports, choices := u.choices }) h.frame)
  live := g.live.trans h.live
  queues := g.queues ∘ h.queues
  marks l := g.marks l ∘ h.marks l
  shrinks b := (g.shrinks b).trans (h.shrinks b)
  stays b := g.stays b ∘ h.stays b
  told := by
    obtain ⟨rs, hrs, hidle⟩ := h.told
    obtain ⟨qs, hqs, hidle'⟩ := g.told
    refine ⟨rs ++ qs, by rw [hqs, hrs, List.append_assoc], fun r hr => ?_⟩
    exact (List.mem_append.1 hr).elim (hidle r) (hidle' r)

section
variable {s a : State} (h : s.Credits a)
include h

theorem tables : a.tables = s.tables := by rw [h.frame]
theorem power : a.power = s.power := by rw [h.frame]
theorem stage : a.stage = s.stage := by rw [h.frame]
theorem monitor : a.monitor = s.monitor := by rw [h.frame]
theorem late : a.late = s.late := by rw [h.frame]
theorem flags : a.flags = s.flags := by rw [h.frame]
theorem pins : a.pins = s.pins := by rw [h.frame]

/-! ## Setters -/

theorem setIntake {x} : s.Credits (a.setIntake x) :=
  h.trans ⟨rfl, le_refl _, id, fun _ => id, fun _ => le_refl _, fun _ => id, [], by simp⟩
theorem setGate {x} : s.Credits (a.setGate x) :=
  h.trans ⟨rfl, le_refl _, id, fun _ => id, fun _ => le_refl _, fun _ => id, [], by simp⟩
theorem setPulses {x} : s.Credits (a.setPulses x) :=
  h.trans ⟨rfl, le_refl _, id, fun _ => id, fun _ => le_refl _, fun _ => id, [], by simp⟩
theorem bump {i k} : s.Credits (a.bump i k) :=
  h.trans ⟨rfl, le_refl _, id, fun _ => id, fun _ => le_refl _, fun _ => id, [], by simp⟩
theorem drawn : s.Credits a.drawn :=
  h.trans ⟨rfl, le_refl _, id, fun _ => id, fun _ => le_refl _, fun _ => id, [], (List.append_nil _).symm, by simp⟩
theorem setPulse {u p} : s.Credits (a.setPulse u p) := by cases u <;> exact h.setPulses
theorem setStore {x : TokenStore} (hx : x.live ≤ a.store.live) : s.Credits (a.setStore x) :=
  h.trans ⟨rfl, hx, id, fun _ => id, fun _ => le_refl _, fun _ => id, [], by simp⟩
theorem notifyOn {l n} : s.Credits (a.notifyOn l n) :=
  h.trans
    { frame := by cases l <;> rfl
      live := by rw [State.notifyOn_store]
      queues := fun hq => hq.notifyOn l n
      marks := fun m hm => hm.setLink (LinkState.told_mark _ n)
      shrinks := fun _ => by cases l <;> exact le_refl _
      stays := fun _ => by cases l <;> exact id
      told := ⟨[], by simp⟩ }
theorem notify {n} : s.Credits (a.notify n) := h.notifyOn.notifyOn
theorem reportIdle {b} : s.Credits (a.report (.feederIdle b)) :=
  h.trans ⟨rfl, le_refl _, id, fun _ => id, fun _ => le_refl _, fun _ => id, [.feederIdle b], rfl, by simp⟩
/-- A feeder replaced by one that holds no unit more. -/
theorem setFeeder {b f} (hq : f.queue.length ≤ (a.feeder b).queue.length)
    (hi : (a.feeder b).state = .idle → f.state = .idle) : s.Credits (a.setFeeder b f) := by
  refine h.trans ⟨rfl, le_refl _, id, fun _ => id, fun k => ?_, fun k => ?_, [], by simp⟩ <;> by_cases hk : k = b
  · rw [hk, State.feeder_setFeeder_same]; exact hq
  · rw [State.feeder_setFeeder_other _ _ hk]
  · rw [hk, State.feeder_setFeeder_same]; exact hi
  · rw [State.feeder_setFeeder_other _ _ hk]; exact id
theorem inFreeOrder {f g : State → State} (hf : ∀ {b}, s.Credits b → s.Credits (f b))
    (hg : ∀ {b}, s.Credits b → s.Credits (g b)) : s.Credits (inFreeOrder f g a) := by
  unfold Machine.inFreeOrder
  split
  · exact hg (hf h.drawn)
  · exact hf (hg h.drawn)

/-! ## Token Store -/

theorem followCoils : s.Credits a.followCoils := h.setIntake
theorem notifyIntake {e c} : s.Credits (a.notifyIntake e c) := h.notify
theorem settleClosure : s.Credits a.settleClosure := h.setIntake.followCoils
theorem tellClosure {was} : s.Credits (a.tellClosure was) := by
  unfold State.tellClosure
  split
  · exact h
  · exact h.notifyIntake
theorem evalClosure : s.Credits a.evalClosure := h.settleClosure.tellClosure
theorem storeChanged {c n b} : s.Credits (a.storeChanged c n b) := h.notify.evalClosure
theorem retireTokens {k b n} : s.Credits (a.retireTokens k b n) := (h.setStore (a.store.retire_live_le b n)).bump
theorem returnUnits {b ns} : s.Credits (a.returnUnits b ns) := by
  unfold State.returnUnits
  split
  · exact h
  · exact (h.setStore (live_of_seqs (a.store.giveBack_seqs b ns)).le).storeChanged

/-! ## Feeders and pulse units -/

/-- A feeder replaced by one that holds no unit more, and reported if it becomes IDLE. -/
theorem putFeeder {b f} (hq : f.queue.length ≤ (a.feeder b).queue.length)
    (hi : (a.feeder b).state = .idle → f.state = .idle) : s.Credits (a.putFeeder b f) := by
  unfold State.putFeeder
  split
  · exact (h.setFeeder hq hi).reportIdle
  · exact h.setFeeder hq hi
theorem cutPulse {u} : s.Credits (a.cutPulse u) := by
  unfold State.cutPulse
  split
  · exact h.setPulse
  · exact h
theorem activeEdge {u} : s.Credits (a.activeEdge u) := by
  unfold State.activeEdge
  dsimp only
  repeat' split
  · exact h
  · exact h.setPulse
  next k hslot _ =>
    refine h.setPulse.setFeeder (le_refl _) fun hidle => ?_
    rw [Feeder.idle_iff, hslot] at hidle
    exact absurd hidle.1 (by simp)
  · exact h.setPulse
theorem grantPulse {u b} : s.Credits (a.grantPulse u b) := by
  unfold State.grantPulse
  dsimp only
  split
  next => exact h
  next k rest hqueue =>
    have hhead : s.Credits (a.setFeeder b
        { a.feeder b with queue := rest, slot := some { k with status := .sending }, held := some u }) := by
      refine h.setFeeder (by simp [hqueue]) fun hidle => ?_
      rw [Feeder.idle_iff, hqueue] at hidle
      exact absurd hidle.2 (by simp)
    split
    · exact hhead.setPulses.setPulse.activeEdge
    · exact hhead.setPulses.setPulse
theorem grantOne : s.Credits a.grantOne := by
  unfold State.grantOne
  split
  · exact h.grantPulse
  · exact h
theorem arbitrate : s.Credits a.arbitrate := h.grantOne.grantOne
theorem returnQueued {b goes} : s.Credits (a.returnQueued b goes) := by
  unfold State.returnQueued
  refine (h.putFeeder (List.length_filter_le _ _) fun hidle => ?_).returnUnits
  rw [Feeder.idle_iff] at hidle ⊢
  exact ⟨hidle.1, by simp [hidle.2]⟩
theorem emptySlot {b} : s.Credits (a.emptySlot b) := by
  refine h.putFeeder (le_refl _) fun hidle => ?_
  rw [Feeder.idle_iff] at hidle ⊢
  exact ⟨rfl, hidle.2⟩
/-- A feeder lets its pulse unit go and keeps its units (R39). -/
theorem letGo {b} : s.Credits (a.setFeeder b { a.feeder b with held := none }) := by
  refine h.setFeeder (le_refl _) fun hidle => ?_
  rw [Feeder.idle_iff] at hidle ⊢
  exact hidle
/-- A feeder whose slot unit stays, whatever becomes of its status. -/
theorem setSlot {b} {f : Feeder} {k : CoinUnit} (hslot : (a.feeder b).slot = some k)
    (hq : f.queue = (a.feeder b).queue) : s.Credits (a.setFeeder b f) := by
  refine h.setFeeder (by rw [hq]) fun hidle => ?_
  rw [Feeder.idle_iff, hslot] at hidle
  exact absurd hidle.1 (by simp)

/-! ## Start Gate -/

theorem abandon {b c} : s.Credits (a.abandon b c) := h.returnQueued.setGate.notify
theorem gateLeaves {b c} : s.Credits (a.gateLeaves b c) := by
  unfold State.gateLeaves
  repeat' split
  · exact h.abandon
  · exact h.setGate
  · exact h.setGate
  · exact h
theorem fire {b} : s.Credits (a.fire b) := h.setGate.bump.notify
theorem complete {b} : s.Credits (a.complete b) := by
  unfold State.complete
  repeat' split
  · exact h.abandon
  · exact h.abandon
  · exact h.fire
theorem gateConfirmed {b n} : s.Credits (a.gateConfirmed b n) := by
  unfold State.gateConfirmed
  dsimp only
  split
  · exact h.setGate.complete
  · exact h.setGate
theorem gateOutcome {b n o} : s.Credits (a.gateOutcome b n o) := by
  unfold State.gateOutcome
  repeat' split
  · exact h.gateConfirmed
  · exact h.abandon
  · exact h.abandon
  · exact h
  · exact h
  · exact h
theorem handOutcome {b k o} : s.Credits (a.handOutcome b k o) := by
  unfold State.handOutcome
  split
  · exact h.gateOutcome
  · exact h
omit h in
theorem foldl {α : Type} {f : State → α → State} (hf : ∀ {b} x, s.Credits b → s.Credits (f b x)) (l : List α)
    {a : State} (h : s.Credits a) : s.Credits (l.foldl f a) := by
  induction l generalizing a with
  | nil => exact h
  | cons x rest ih => exact ih (hf x h)
theorem handReturned {b ks} : s.Credits (a.handReturned b ks) := foldl (fun _ g => g.handOutcome) ks h

/-! ## Settlement -/

theorem confirmUnit {b k} : s.Credits (a.confirmUnit b k) := by
  unfold State.confirmUnit
  exact h.retireTokens.bump.storeChanged.handOutcome
theorem notifyFeeder {e b k} : s.Credits (a.notifyFeeder e b k) := h.notify
theorem trailEnd {u p} : s.Credits (a.trailEnd u p) := by
  unfold State.trailEnd
  dsimp only
  repeat' split
  · exact h.setPulse.letGo.arbitrate
  · exact h.setPulse.emptySlot.confirmUnit.arbitrate
  · exact h.setPulse.emptySlot.confirmUnit.arbitrate
  · exact h.setPulse.letGo.notifyFeeder.arbitrate
  · exact h.setPulse.letGo.arbitrate
  · exact h.setPulse.letGo.arbitrate
theorem stray {b m r} : s.Credits (a.stray b m r) := h.bump.notify
theorem judgeEcho {b m} : s.Credits (a.judgeEcho b m) := by
  unfold State.judgeEcho
  split
  · exact h.stray
  split
  · exact h.stray
  next k hslot =>
  split
  · exact h.stray
  split
  · exact h.stray
  · exact h.stray
  · exact h.stray
  · split
    · exact h.setSlot hslot rfl
    · exact h.emptySlot.confirmUnit.arbitrate
  · split
    · exact h.setSlot hslot rfl
    · exact h.emptySlot.confirmUnit.notifyFeeder.arbitrate
theorem windowExpires {b} : s.Credits (a.windowExpires b) := by
  unfold State.windowExpires
  dsimp only
  split
  next k _ hslot _ =>
    repeat' split
    · exact (h.setSlot hslot (by rfl)).handOutcome
    · exact (h.setSlot hslot (by rfl)).notifyFeeder.handOutcome
    · exact h
  next => exact h
theorem voidUnit {b k} : s.Credits (a.voidUnit b k) := by
  unfold State.voidUnit
  exact h.emptySlot.retireTokens.bump.storeChanged.notifyFeeder.handOutcome.arbitrate
theorem refundUnit {b k} : s.Credits (a.refundUnit b k) := by
  unfold State.refundUnit
  exact h.emptySlot.bump.returnUnits.notifyFeeder.handOutcome.arbitrate
theorem leavePolicy {b} : s.Credits (a.leavePolicy b) := by
  unfold State.leavePolicy
  split
  · exact h
  · exact h.returnQueued.handReturned
theorem feederPowerLoss {b} : s.Credits (a.feederPowerLoss b) := by
  unfold State.feederPowerLoss
  dsimp only
  split
  · exact h
  · exact (foldl (fun _ g => g.confirmUnit) _
      (h.cutPulse.putFeeder (Nat.zero_le _) fun _ => rfl)).returnUnits.handReturned.arbitrate

/-! ## Power loss and RELEASE -/

theorem creditLoss {b} : s.Credits (a.creditLoss b) := by
  unfold State.creditLoss
  split
  · exact h.inFreeOrder (fun g => g.gateLeaves) (fun g => g.feederPowerLoss)
  · exact h.gateLeaves.feederPowerLoss
theorem releaseCredit {b} : s.Credits (a.releaseCredit b) := by
  unfold State.releaseCredit
  split
  · exact h.inFreeOrder (fun g => g.gateLeaves) (fun g => g.leavePolicy)
  · exact h.gateLeaves.leavePolicy

end

/-- A power loss leaves its feeder IDLE, whatever the gate does before or behind it (R45). -/
theorem feederPowerLoss_idle (s : State) (b : Bay) : ((s.feederPowerLoss b).feeder b).state = .idle := by
  unfold State.feederPowerLoss
  dsimp only
  split
  next hidle => exact hidle
  next hbusy =>
    have hput : (((s.cutPulse (s.feeder b).held).putFeeder b (s.feeder b).emptied).feeder b).state = .idle := by
      unfold State.putFeeder
      split
      · exact congrArg Feeder.state (State.feeder_setFeeder_same _ b _)
      · exact congrArg Feeder.state (State.feeder_setFeeder_same _ b _)
    exact (foldl (fun _ g => g.confirmUnit) _ (refl _)).returnUnits.handReturned.arbitrate.stays b hput

theorem creditLoss_idle (s : State) (b : Bay) : ((s.creditLoss b).feeder b).state = .idle := by
  unfold State.creditLoss
  split
  · unfold Machine.inFreeOrder
    split
    · exact feederPowerLoss_idle _ b
    · exact (refl _).gateLeaves.stays b (feederPowerLoss_idle _ b)
  · exact feederPowerLoss_idle _ b

end State.Credits

end Sys2Proof.Machine
end

section
/-! What an event that changes no setting keeps: the settings, the queues' bound, the form of a report left, feeders for
RUNNING bays only, the warm list and the load budget (R28, R120, R131, R190). Monitor, bay power and the cut of a bay. -/

namespace Sys2Proof.Machine

/-! ## The relation -/

/-- The report that an event has left is one of a power cut (log entry 39). -/
def State.LateOk (s : State) : Prop :=
  ∀ r, s.late = some r → (∃ b c, r = .loss b c) ∨ (∃ b w, r = .failed b w) ∨ ∃ b, r = .cutToCooling b

/-- What the roles of the bays, the warm list and the load budget meet together. -/
structure State.RolesOk (s : State) : Prop where
  handover : s.HandoverOk
  warm : s.WarmOk
  budget : s.WithinBudget

/-- What an event that changes no setting keeps, the roles of the bays apart. -/
structure State.Holds (s t : State) : Prop where
  tables : t.tables = s.tables
  live : t.store.live ≤ s.store.live
  queues : s.QueuesOk → t.QueuesOk
  marks : ∀ l, s.Unmarked l → t.Unmarked l
  late : s.LateOk → t.LateOk
  feeders : s.FeedersOk → t.FeedersOk

/-- What an event that changes no setting keeps. -/
structure State.Keeps (s t : State) : Prop extends State.Holds s t where
  roles : s.RolesOk → t.RolesOk

theorem State.Holds.refl (s : State) : s.Holds s := ⟨rfl, le_refl _, id, fun _ => id, id, id⟩

theorem State.Holds.trans {s t u : State} (h : s.Holds t) (g : t.Holds u) : s.Holds u :=
  ⟨g.tables.trans h.tables, g.live.trans h.live, g.queues ∘ h.queues,
    fun l => g.marks l ∘ h.marks l, g.late ∘ h.late, g.feeders ∘ h.feeders⟩

theorem State.Keeps.refl (s : State) : s.Keeps s := ⟨.refl s, id⟩

theorem State.Keeps.trans {s t u : State} (h : s.Keeps t) (g : t.Keeps u) : s.Keeps u :=
  ⟨h.toHolds.trans g.toHolds, g.roles ∘ h.roles⟩

/-! ## When feeders and roles stand -/

/-- Feeders that hold no unit more suit bays that go on RUNNING. -/
theorem State.FeedersOk.of_shrinks {s t : State} (hs : s.FeedersOk)
    (hlen : ∀ b, (t.feeder b).queue.length ≤ (s.feeder b).queue.length)
    (hidle : ∀ b, (s.feeder b).state = .idle → (t.feeder b).state = .idle)
    (hrun : ∀ b, s.isRunning b = true → t.isRunning b = true) : t.FeedersOk := fun b =>
  ⟨(hlen b).trans (hs b).1, fun hbusy => hrun b ((hs b).2 fun hi => hbusy (hidle b hi))⟩

theorem State.committedLoad_eq_sum (s : State) : s.committedLoad = ∑ k : Bay, s.committedBy k := by
  rw [Fin.sum_univ_def]
  rfl

/-- One bay's load units are what the committed load can grow by. -/
theorem State.committedLoad_le_add {s t : State} {b : Bay} {c : Nat}
    (h : ∀ k, t.committedBy k ≤ s.committedBy k + if k = b then c else 0) :
    t.committedLoad ≤ s.committedLoad + c := by
  calc t.committedLoad = ∑ k, t.committedBy k := t.committedLoad_eq_sum
    _ ≤ ∑ k, (s.committedBy k + if k = b then c else 0) := Finset.sum_le_sum fun k _ => h k
    _ = s.committedLoad + c := by rw [Finset.sum_add_distrib, s.committedLoad_eq_sum]; simp

/-- One bay's load units are what the committed load falls by. -/
theorem State.committedLoad_add_le {s t : State} {b : Bay} {c : Nat}
    (h : ∀ k, t.committedBy k + (if k = b then c else 0) ≤ s.committedBy k) :
    t.committedLoad + c ≤ s.committedLoad := by
  calc t.committedLoad + c = ∑ k, (t.committedBy k + if k = b then c else 0) := by
        rw [Finset.sum_add_distrib, t.committedLoad_eq_sum]; simp
    _ ≤ ∑ k, s.committedBy k := Finset.sum_le_sum fun k _ => h k
    _ = s.committedLoad := s.committedLoad_eq_sum.symm

theorem State.load_congr {s t : State} (h : t.tables = s.tables) (b : Bay) : t.load b = s.load b := by
  simp [State.load, State.profile, h]

/-- Bays that are powered no more than they were commit no more. -/
theorem State.WithinBudget.of_powered {s t : State} (hs : s.WithinBudget) (ht : t.tables = s.tables)
    (hp : ∀ b, (t.bay b).state.powered = true → (s.bay b).state.powered = true) : t.WithinBudget := by
  have hle : t.committedLoad ≤ s.committedLoad + 0 := State.committedLoad_le_add (b := 0) fun k => by
    have hload := State.load_congr ht k
    by_cases hk : (t.bay k).state.powered = true
    · simp [State.committedBy, hk, hp k hk, hload]
    · simp [State.committedBy, hk]
  have hbudget : t.budget = s.budget := by simp [State.budget, ht]
  unfold State.WithinBudget
  rw [hbudget]
  exact hle.trans hs

/-- The roles are read from the stage alone. -/
theorem State.isActive_congr {s t : State} (h : t.stage = s.stage) (b : Bay) : t.isActive b = s.isActive b := by
  simp [State.isActive, h]
theorem State.handover_congr {s t : State} (h : t.stage = s.stage) : t.handover = s.handover := by
  simp [State.handover, h]
theorem State.isOrigin_congr {s t : State} (h : t.stage = s.stage) (b : Bay) : t.isOrigin b = s.isOrigin b := by
  simp [State.isOrigin, State.handover_congr h]
theorem State.isTarget_congr {s t : State} (h : t.stage = s.stage) (b : Bay) : t.isTarget b = s.isTarget b := by
  simp [State.isTarget, State.handover_congr h]

theorem State.isRunning_congr {s t : State} (h : t.power = s.power) (b : Bay) : t.isRunning b = s.isRunning b :=
  congrArg (fun p : Power => decide (p.bays[b].state = .running)) h

theorem State.isRunning_iff (s : State) (b : Bay) : s.isRunning b = true ↔ (s.bay b).state = .running := by
  simp [State.isRunning]

/-- The roles stand when the stage does, the warm list loses bays at most, those on it go on RUNNING, and no bay is
powered anew. -/
theorem State.RolesOk.of_power {s t : State} (hs : s.RolesOk) (ht : t.tables = s.tables) (hg : t.stage = s.stage)
    (hw : t.power.warm.Sublist s.power.warm)
    (hr : ∀ b ∈ t.power.warm, s.isRunning b = true → t.isRunning b = true)
    (hp : ∀ b, (t.bay b).state.powered = true → (s.bay b).state.powered = true) : t.RolesOk where
  handover := by
    unfold State.HandoverOk
    rw [State.handover_congr hg]
    exact hs.handover
  warm := by
    refine ⟨hw.nodup hs.warm.1, fun b hb => ?_⟩
    obtain ⟨hrun, hactive, horigin, htarget⟩ := hs.warm.2 b (hw.subset hb)
    exact ⟨hr b hb hrun, (State.isActive_congr hg b).trans hactive, (State.isOrigin_congr hg b).trans horigin,
      (State.isTarget_congr hg b).trans htarget⟩
  budget := hs.budget.of_powered ht hp

/-! ## Quiet changes and the credit blocks -/

/-- A change that touches no setting, no store, no feeder, no link, no power record, no stage and no report left. -/
theorem State.Keeps.quiet {s t : State} (htables : t.tables = s.tables) (hstore : t.store = s.store)
    (hfeeders : t.feeders = s.feeders) (hlinks : t.links = s.links) (hpower : t.power = s.power)
    (hstage : t.stage = s.stage) (hlate : t.late = s.late) : s.Keeps t where
  tables := htables
  live := by rw [hstore]
  queues h := by simpa [State.QueuesOk, hlinks] using h
  marks l h := by rwa [State.Unmarked, State.link_congr hlinks]
  late h := by simpa [State.LateOk, hlate] using h
  feeders h := h.of_shrinks (fun b => by simp [State.feeder, hfeeders]) (fun b => by simp [State.feeder, hfeeders])
    fun b => (State.isRunning_congr hpower b).trans
  roles h := h.of_power htables hstage (by rw [hpower])
    (fun b _ => (State.isRunning_congr hpower b).trans) (fun b => by simp [State.bay, hpower])

theorem State.Credits.keeps {s t : State} (h : s.Credits t) : s.Keeps t where
  tables := h.tables
  live := h.live
  queues := h.queues
  marks := h.marks
  late hs := by simpa [State.LateOk, h.late] using hs
  feeders hs := hs.of_shrinks h.shrinks h.stays fun b => (State.isRunning_congr h.power b).trans
  roles hs := hs.of_power h.tables h.stage (by rw [h.power])
    (fun b _ => (State.isRunning_congr h.power b).trans) (fun b => by simp [State.bay, h.power])

/-! ## A cut of a bay's power -/

/-- What a cut of a bay's power may change: the credit blocks, the bay's filters and checker, the active bay's route
pulses, the monitor, and the Bay Power Controller's records (R118). -/
def State.Cuts (s t : State) : Prop := t = { s with
  intake := t.intake, store := t.store, feeders := t.feeders, pulses := t.pulses, gate := t.gate, audit := t.audit
  links := t.links, reports := t.reports, choices := t.choices, filters := t.filters, routing := t.routing
  power := t.power, checkers := t.checkers, monitor := t.monitor }

theorem State.Cuts.trans {s t u : State} (h : s.Cuts t) (g : t.Cuts u) : s.Cuts u :=
  Eq.trans g (congrArg (fun x : State => { x with
    intake := u.intake, store := u.store, feeders := u.feeders, pulses := u.pulses, gate := u.gate, audit := u.audit
    links := u.links, reports := u.reports, choices := u.choices, filters := u.filters, routing := u.routing
    power := u.power, checkers := u.checkers, monitor := u.monitor }) h)

theorem State.Credits.cuts {s t : State} (h : s.Credits t) : s.Cuts t :=
  Eq.trans h.frame (by rw [h.frame])

theorem State.cuts_reportFall (s : State) : s.Cuts s.reportFall := by
  unfold State.reportFall
  split <;> rfl

theorem State.cuts_crosspointLoss (s : State) (b : Bay) : s.Cuts (s.crosspointLoss b) := by
  unfold State.crosspointLoss
  split
  · exact s.cuts_reportFall.trans rfl
  · rfl

theorem State.cuts_routingLoss (s : State) (b : Bay) : s.Cuts (s.routingLoss b) := by
  unfold State.routingLoss
  split <;> rfl

theorem State.cuts_handOnCut (s : State) (b : Bay) : s.Cuts (s.handOnCut b) :=
  have hcredit : s.Cuts ((s.creditLoss b).setBayFilters b s.filters[b].cut) :=
    (State.Credits.refl s).creditLoss.cuts.trans rfl
  have hroute := hcredit.trans (State.cuts_routingLoss _ b)
  (hroute.trans (u := State.setChecker _ b _) rfl).trans (State.cuts_crosspointLoss _ b)

theorem State.cutPower_frame (s : State) (b : Bay) (into : PowerState) : s.Cuts (s.cutPower b into) := by
  unfold State.cutPower
  split
  · exact State.Cuts.trans (t := s.enterCut b into) rfl (State.cuts_handOnCut _ b)
  · rfl

section
variable (s : State) (b : Bay) (into : PowerState)

@[simp] theorem State.cutPower_stage : (s.cutPower b into).stage = s.stage := by rw [s.cutPower_frame b into]
@[simp] theorem State.cutPower_tables : (s.cutPower b into).tables = s.tables := by rw [s.cutPower_frame b into]
@[simp] theorem State.cutPower_pins : (s.cutPower b into).pins = s.pins := by rw [s.cutPower_frame b into]
@[simp] theorem State.cutPower_flags : (s.cutPower b into).flags = s.flags := by rw [s.cutPower_frame b into]
@[simp] theorem State.cutPower_panel : (s.cutPower b into).panel = s.panel := by rw [s.cutPower_frame b into]
@[simp] theorem State.cutPower_late : (s.cutPower b into).late = s.late := by rw [s.cutPower_frame b into]
@[simp] theorem State.cutPower_snapshot : (s.cutPower b into).snapshot = s.snapshot := by rw [s.cutPower_frame b into]
@[simp] theorem State.cutPower_key : (s.cutPower b into).key = s.key := by rw [s.cutPower_frame b into]
@[simp] theorem State.cutPower_pending : (s.cutPower b into).pending = s.pending := by rw [s.cutPower_frame b into]
@[simp] theorem State.enterCut_warm :
    (s.enterCut b into).power.warm = s.power.warm.filter fun k => decide (k ≠ b) := rfl
@[simp] theorem State.enterCut_protected : (s.enterCut b into).power.protectedSet = s.power.protectedSet := rfl
theorem State.cutPower_warm :
    (s.cutPower b into).power.warm = s.power.warm.filter fun k => decide (k ≠ b) := by rw [s.cutPower_power]; rfl

/-- The record of a bay whose power is cut (R118, R119). -/
theorem State.cutPower_bay_same : (s.cutPower b into).bay b =
    { s.bay b with state := into, deferred := none, releasePending := false, timer := cutTimer into } :=
  (State.bay_congr (s.cutPower_power b into) b).trans (s.enterCut_bay b into)

theorem State.cutPower_bay_other {d : Bay} (h : d ≠ b) : (s.cutPower b into).bay d = s.bay d :=
  (State.bay_congr (s.cutPower_power b into) d).trans
    (Vector.getElem_set_ne b.isLt d.isLt fun e => h (Fin.ext e.symm))
end

end Sys2Proof.Machine
end

section
/-! What every operation of bay power keeps: the settings, the bound of the queues, feeders for RUNNING bays only, the
warm list of RUNNING bays in no role, and the load budget (R28, R117 to R135). -/

namespace Sys2Proof.Machine

namespace State.Keeps

section
variable {s a : State} (h : s.Keeps a)
include h

/-! ## Setters, notices and reports -/

theorem setPins {x} : s.Keeps (a.setPins x) := h.trans (.quiet rfl rfl rfl rfl rfl rfl rfl)
theorem setIntake {x} : s.Keeps (a.setIntake x) := h.trans (.quiet rfl rfl rfl rfl rfl rfl rfl)
theorem setPulses {x} : s.Keeps (a.setPulses x) := h.trans (.quiet rfl rfl rfl rfl rfl rfl rfl)
theorem setFilters {x} : s.Keeps (a.setFilters x) := h.trans (.quiet rfl rfl rfl rfl rfl rfl rfl)
theorem setGate {x} : s.Keeps (a.setGate x) := h.trans (.quiet rfl rfl rfl rfl rfl rfl rfl)
theorem setFlags {x} : s.Keeps (a.setFlags x) := h.trans (.quiet rfl rfl rfl rfl rfl rfl rfl)
theorem setPanel {x} : s.Keeps (a.setPanel x) := h.trans (.quiet rfl rfl rfl rfl rfl rfl rfl)
theorem setRouting {x} : s.Keeps (a.setRouting x) := h.trans (.quiet rfl rfl rfl rfl rfl rfl rfl)
theorem setCheckers {x} : s.Keeps (a.setCheckers x) := h.trans (.quiet rfl rfl rfl rfl rfl rfl rfl)
theorem setChecker {b c} : s.Keeps (a.setChecker b c) := h.setCheckers
theorem setMonitor {x} : s.Keeps (a.setMonitor x) := h.trans (.quiet rfl rfl rfl rfl rfl rfl rfl)
theorem setAudit {x} : s.Keeps (a.setAudit x) := h.trans (.quiet rfl rfl rfl rfl rfl rfl rfl)
theorem setSnapshot {x} : s.Keeps (a.setSnapshot x) := h.trans (.quiet rfl rfl rfl rfl rfl rfl rfl)
theorem setKey {x} : s.Keeps (a.setKey x) := h.trans (.quiet rfl rfl rfl rfl rfl rfl rfl)
theorem setReports {x} : s.Keeps (a.setReports x) := h.trans (.quiet rfl rfl rfl rfl rfl rfl rfl)
theorem setPending {x} : s.Keeps (a.setPending x) := h.trans (.quiet rfl rfl rfl rfl rfl rfl rfl)
theorem drawn : s.Keeps a.drawn := h.trans (.quiet rfl rfl rfl rfl rfl rfl rfl)
theorem report {r} : s.Keeps (a.report r) := h.setReports
theorem credits {t} (g : a.Credits t) : s.Keeps t := h.trans g.keeps
theorem notifyOn {l n} : s.Keeps (a.notifyOn l n) := h.credits (.notifyOn (.refl a))
theorem notify {n} : s.Keeps (a.notify n) := h.credits (.notify (.refl a))
theorem notifyBay {e b} : s.Keeps (a.notifyBay e b) := h.notify
theorem setFilter {b m f} : s.Keeps (a.setFilter b m f) := by cases m <;> exact h.setFilters
theorem setBayFilters {b f} : s.Keeps (a.setBayFilters b f) := h.setFilters
/-- A link's record replaced by one whose queue is no longer and whose mark is as it was. -/
theorem setLink {l} {k : LinkState} (hk : k.queue.length ≤ (a.link l).queue.length)
    (hm : k.mark = (a.link l).mark) : s.Keeps (a.setLink l k) :=
  have g : a.Keeps (a.setLink l k) :=
    { tables := by simp
      live := by simp
      queues := fun hq => hq.setLink l (hk.trans ((State.queuesOk_iff a).1 hq l))
      marks := fun _ hf => hf.setLink hm
      late := by simp [State.LateOk]
      feeders := fun hf => hf.of_shrinks (fun b => by simp) (fun b => by simp)
        fun b => (State.isRunning_congr (State.setLink_power a l k) b).trans
      roles := fun hr => hr.of_power (by simp) (by simp) (by simp)
        (fun b _ => (State.isRunning_congr (State.setLink_power a l k) b).trans) (fun b => by simp) }
  h.trans g
theorem reportLoss {b c} : s.Keeps (a.reportLoss b c) := by
  unfold State.reportLoss
  split
  · exact h.report
  · exact h
theorem reportTarget {b r} : s.Keeps (a.reportTarget b r) := by
  unfold State.reportTarget
  repeat' split
  · exact h.report
  · exact h.report
  · exact h

/-! ## The Crosspoint and the Route Engine -/

theorem reportFall : s.Keeps a.reportFall := by
  unfold State.reportFall
  split
  · exact h.report
  · exact h
theorem rampDownRequest : s.Keeps a.rampDownRequest := by
  unfold State.rampDownRequest
  dsimp only
  repeat' split
  · exact h.report
  · exact h
  all_goals first | exact h.setMonitor.report | exact h.setMonitor
theorem makeCut {t} : s.Keeps (a.makeCut t) := by
  unfold State.makeCut State.reportFallIfBlank
  split
  · exact h.reportFall.setMonitor.report
  · exact h.setMonitor.report
theorem classStep {t} : s.Keeps (a.classStep t) := by
  unfold State.classStep
  split
  · exact h
  · exact h.reportFall.setMonitor
theorem cutRequest {t} : s.Keeps (a.cutRequest t) := by
  unfold State.cutRequest
  dsimp only
  split
  · exact h.setMonitor.classStep
  · exact h.setMonitor.classStep.makeCut
theorem settleStops : s.Keeps a.settleStops := by
  unfold State.settleStops
  dsimp only
  split
  · exact h.setMonitor.makeCut
  · exact h.setMonitor
theorem stopRoutePulses : s.Keeps a.stopRoutePulses := h.setRouting
theorem quietExpires : s.Keeps a.quietExpires := h.setPanel.setRouting.report
theorem quietRequest : s.Keeps a.quietRequest := by
  unfold State.quietRequest
  repeat' split
  · exact h.report
  · exact h.quietExpires
  · exact h.setRouting

/-! ## Power records -/

/-- Power records that keep their states, and a warm list that only loses bays. -/
theorem setPower {x : Power} (hw : x.warm.Sublist a.power.warm) (hx : ∀ b : Bay, x.bays[b].state = (a.bay b).state) :
    s.Keeps (a.setPower x) :=
  have hrun : ∀ b, a.isRunning b = true → (a.setPower x).isRunning b = true := fun b hb => by
    rw [State.isRunning_iff] at hb ⊢
    exact (hx b).trans hb
  h.trans
    { tables := rfl
      live := le_refl _
      queues := id
      marks := fun _ => id
      late := id
      feeders := fun hf => hf.of_shrinks (fun _ => le_refl _) (fun _ => id) hrun
      roles := fun hr => hr.of_power rfl rfl hw (fun b _ => hrun b) fun b hb => (congrArg PowerState.powered (hx b)) ▸ hb }
theorem setProtected {w} : s.Keeps (a.setProtected w) := h.setPower (.refl _) fun _ => rfl
/-- A bay's power record replaced, its state as it was. -/
theorem setBay {b p} (hp : p.state = (a.bay b).state) : s.Keeps (a.setBay b p) := by
  refine h.setPower (.refl _) fun d => ?_
  by_cases hd : d = b
  · rw [hd]
    exact (congrArg BayPower.state (a.bay_setBay_same b p)).trans hp
  · exact congrArg BayPower.state (a.bay_setBay_other p hd)
theorem dropDeferred {b} : s.Keeps (a.dropDeferred b) := h.setBay rfl
theorem enterActive {b} : s.Keeps (a.enterActive b) := by
  unfold State.enterActive
  split
  · exact h.setBay rfl
  · exact h

/-- A bay that is not RUNNING enters another state, powered only if it was. -/
theorem changeBay {b p} (hold : (a.bay b).state ≠ .running)
    (hp : p.state.powered = true → (a.bay b).state.powered = true) : s.Keeps (a.setBay b p) :=
  have hother : ∀ d, d ≠ b → (a.setBay b p).bay d = a.bay d := fun d hd => a.bay_setBay_other p hd
  have hrun : ∀ d, a.isRunning d = true → (a.setBay b p).isRunning d = true := fun d hd => by
    rw [State.isRunning_iff] at hd ⊢
    by_cases e : d = b
    · exact absurd (e ▸ hd) hold
    · rw [hother d e]; exact hd
  h.trans
    { tables := rfl
      live := le_refl _
      queues := id
      marks := fun _ => id
      late := id
      feeders := fun hf => hf.of_shrinks (fun _ => le_refl _) (fun _ => id) hrun
      roles := fun hr => hr.of_power rfl rfl (.refl _) (fun d _ => hrun d) fun d hd => by
        by_cases e : d = b
        · subst e
          rw [a.bay_setBay_same] at hd
          exact hp hd
        · rw [hother d e] at hd
          exact hd }

theorem routingLoss {b} : s.Keeps (a.routingLoss b) := by
  unfold State.routingLoss
  split
  · exact h.stopRoutePulses
  · exact h
theorem crosspointLoss {b} : s.Keeps (a.crosspointLoss b) := by
  unfold State.crosspointLoss
  split
  · exact h.reportFall.setMonitor
  · exact h
theorem handOnCut {b} : s.Keeps (a.handOnCut b) := by
  unfold State.handOnCut
  exact ((h.credits (.creditLoss (.refl a))).setBayFilters.routingLoss).setChecker.crosspointLoss

omit h in
theorem handOnCut_feeders (c : State) (b : Bay) : (c.handOnCut b).feeders = (c.creditLoss b).feeders := by
  have hroute (d : State) : (d.routingLoss b).feeders = d.feeders := by
    unfold State.routingLoss
    split <;> rfl
  have hpicture (d : State) : (d.crosspointLoss b).feeders = d.feeders := by
    unfold State.crosspointLoss State.blankSource State.reportFall
    repeat' split
    all_goals rfl
  unfold State.handOnCut
  exact (hpicture _).trans (hroute _)

omit h in
/-- A cut leaves its feeder empty, and no feeder with more units. -/
theorem cutPower_feeders {a : State} {b : Bay} {into : PowerState} (hf : a.FeedersOk) :
    ((a.cutPower b into).feeder b).state = .idle
      ∧ ∀ d, ((a.cutPower b into).feeder d).queue.length ≤ (a.feeder d).queue.length
        ∧ ((a.feeder d).state = .idle → ((a.cutPower b into).feeder d).state = .idle) := by
  unfold State.cutPower
  split
  next =>
    have hcredit : (a.enterCut b into).Credits ((a.enterCut b into).creditLoss b) := (State.Credits.refl _).creditLoss
    have hsame := fun d => State.feeder_congr (handOnCut_feeders (a.enterCut b into) b) d
    simp only [hsame]
    exact ⟨State.Credits.creditLoss_idle _ b, fun d => ⟨hcredit.shrinks d, hcredit.stays d⟩⟩
  next hu =>
    refine ⟨?_, fun d => ⟨le_refl _, id⟩⟩
    by_contra hbusy
    have hrun := (State.isRunning_iff a b).1 ((hf b).2 hbusy)
    exact hu (by rw [hrun]; rfl)

/-- A cut of a bay's power (R118). -/
theorem cutPower {b into} (hu : into.powered = false) : s.Keeps (a.cutPower b into) := by
  have hother : ∀ d, d ≠ b → (a.cutPower b into).bay d = a.bay d := fun d hd => a.cutPower_bay_other b into hd
  have hsame : ((a.cutPower b into).bay b).state = into := by rw [a.cutPower_bay_same]
  have hrun : ∀ d, d ≠ b → a.isRunning d = true → (a.cutPower b into).isRunning d = true := fun d hd hr => by
    rw [State.isRunning_iff] at hr ⊢
    rw [hother d hd]
    exact hr
  have hon : (a.enterCut b into).Keeps (a.cutPower b into) := by
    unfold State.cutPower
    split
    · exact (refl _).handOnCut
    · exact refl _
  refine h.trans
    { tables := hon.tables
      live := hon.live
      queues := hon.queues
      marks := hon.marks
      late := hon.late
      feeders := fun hf d => ?_
      roles := fun hr => hr.of_power (by simp) (by simp)
        (by rw [State.cutPower_warm]; exact List.filter_sublist) (fun d hd => ?_) fun d hd => ?_ }
  · obtain ⟨hidle, hless⟩ := cutPower_feeders (b := b) (into := into) hf
    refine ⟨(hless d).1.trans (hf d).1, fun hbusy => ?_⟩
    have hd : d ≠ b := fun e => hbusy (e ▸ hidle)
    exact hrun d hd ((hf d).2 fun hi => hbusy ((hless d).2 hi))
  · rw [State.cutPower_warm, List.mem_filter] at hd
    exact hrun d (by simpa using hd.2)
  · by_cases e : d = b
    · rw [e, hsame, hu] at hd
      cases hd
    · rw [hother d e] at hd
      exact hd

theorem trip {b} : s.Keeps (a.trip b) := by
  unfold State.trip
  exact (h.cutPower rfl).notifyBay.reportLoss.reportTarget
theorem evict {t b} : s.Keeps (a.evict t b) := (h.cutPower rfl).notifyBay
omit h in
theorem evictFor {t ks n} {a : State} (h : s.Keeps a) : s.Keeps (a.evictFor t ks n) := by
  induction ks generalizing a n with
  | nil => exact h
  | cons k rest ih =>
    cases n with
    | zero => exact h
    | succ n => exact ih h.evict
theorem feederIdle {b} : s.Keeps (a.feederIdle b) := by
  unfold State.feederIdle
  split
  · exact h.cutPower rfl
  · exact h
theorem powerOff {b} : s.Keeps (a.powerOff b) := by
  unfold State.powerOff
  split
  all_goals first
    | exact h
    | exact h.cutPower rfl
    | exact h.dropDeferred
theorem setEnabled {b v} : s.Keeps (a.setEnabled b v) := h.setFlags
theorem disable {b} : s.Keeps (a.disable b) := by
  have g : s.Keeps (((a.setEnabled b false).cutPower b .disabled).notifyBay .disabled b) :=
    (h.setEnabled.cutPower rfl).notifyBay
  unfold State.disable
  dsimp only
  repeat' split
  · exact g.reportLoss.reportTarget
  · exact g.reportTarget
  · exact g.reportLoss
  · exact g
theorem crash {b} : s.Keeps (a.crash b) := by
  have hcool : s.Keeps (a.cutPower b .cooling) := h.cutPower rfl
  have hfault : s.Keeps (a.cutPower b .faulted) := h.cutPower rfl
  unfold State.crash
  dsimp only
  repeat' split
  · exact hcool.notifyBay.reportLoss.reportTarget
  · exact hfault.notifyBay.notifyBay.reportLoss.reportTarget
  · have hset : s.Keeps ((a.cutPower b .cooling).setBay b { (a.cutPower b .cooling).bay b with
        attempts := (a.bay b).attempts - 1
        deferred := some ((a.cutPower b .cooling).crashDeferred b) }) := hcool.setBay (by rfl)
    exact hset.notifyBay.reportLoss.reportTarget
theorem lostReport {b} : s.Keeps (a.lostReport b) := by
  unfold State.lostReport
  split
  · exact h.crash
  · exact h

/-! ## Boards that start and run -/

/-- A bay that enters RUNNING joins the warm list where it has no role (R131). -/
theorem bayRunning {b} (hold : (a.bay b).state ≠ .running) (hp : (a.bay b).state.powered = true) :
    s.Keeps (a.bayRunning b) := by
  let c := (a.setBay b { a.bay b with state := .running, timer := none }).notifyBay .running b
  have hc : s.Keeps c := (h.changeBay hold fun _ => hp).notifyBay
  have hrun : c.isRunning b = true := by
    rw [State.isRunning_iff]
    exact congrArg BayPower.state (State.bay_setBay_same a b _)
  show s.Keeps (c.runningJoins b)
  unfold State.runningJoins
  split
  · exact hc.report
  split
  · exact hc
  next htarget hrole =>
  have hjoin : c.Holds (c.setWarm (b :: c.power.warm)) := ⟨rfl, le_refl _, id, fun _ => id, id, id⟩
  refine ⟨hc.toHolds.trans hjoin, fun hs => ?_⟩
  have hsc := hc.roles hs
  have ha := h.roles hs
  refine ⟨hsc.handover, ⟨List.nodup_cons.2 ⟨fun hb => ?_, hsc.warm.1⟩, fun d hd => ?_⟩, hsc.budget⟩
  · exact hold ((State.isRunning_iff a b).1 (ha.warm.2 b hb).1)
  · rcases List.mem_cons.1 hd with rfl | hd
    · simp only [Bool.or_eq_true, not_or, Bool.not_eq_true] at htarget hrole
      exact ⟨hrun, hrole.1, hrole.2, htarget⟩
    · exact hsc.warm.2 d hd
theorem lockedReport {b} : s.Keeps (a.lockedReport b) := by
  unfold State.lockedReport
  split
  next hb => exact h.bayRunning (by rw [hb]; decide) (by rw [hb]; rfl)
  next => exact h
theorem resetHoldEnds {b} (hb : (a.bay b).state = .starting) : s.Keeps (a.resetHoldEnds b) := by
  let c := a.setBay b { a.bay b with
    state := .booting, timer := some (Timer.start (1000 * (a.profile b).general.bootLimit)) }
  have hc : s.Keeps c := h.changeBay (by rw [hb]; decide) fun _ => by rw [hb]; rfl
  have hcb : (c.bay b).state = .booting := congrArg BayPower.state (State.bay_setBay_same a b _)
  have hf : s.Keeps (c.setBayFilters b (c.sampledFilters b)) := hc.setBayFilters
  unfold State.resetHoldEnds
  dsimp only
  split
  · refine hf.bayRunning ?_ ?_
    · exact (congrArg (· ≠ PowerState.running) hcb).mpr (by decide)
    · exact (congrArg PowerState.powered hcb).trans rfl
  · exact hf

/-- Entry to STARTING within the budget (R117, R120). -/
theorem enterStarting {b} (hold : (a.bay b).state.powered = false)
    (hfit : s.RolesOk → a.committedLoad + a.load b ≤ a.budget) : s.Keeps (a.enterStarting b) := by
  let p : BayPower := { a.bay b with
    state := .starting, timer := some (Timer.start (a.profile b).general.resetHold) }
  have hother : ∀ d, d ≠ b → (a.setBay b p).bay d = a.bay d := fun d hd => a.bay_setBay_other p hd
  have hrunning : (a.bay b).state ≠ .running := fun e => by simp [e, PowerState.powered] at hold
  have hrun : ∀ d, a.isRunning d = true → (a.setBay b p).isRunning d = true := fun d hd => by
    rw [State.isRunning_iff] at hd ⊢
    by_cases e : d = b
    · exact absurd (e ▸ hd) hrunning
    · rw [hother d e]; exact hd
  have hstart : a.Holds (a.setBay b p) :=
    { tables := rfl
      live := le_refl _
      queues := id
      marks := fun _ => id
      late := id
      feeders := fun hf => hf.of_shrinks (fun _ => le_refl _) (fun _ => id) hrun }
  have hroles : s.RolesOk → (a.setBay b p).RolesOk := fun hs =>
    have hr := h.roles hs
    { handover := hr.handover
      warm := ⟨hr.warm.1, fun d hd => ⟨hrun d (hr.warm.2 d hd).1, (hr.warm.2 d hd).2⟩⟩
      budget := by
        refine (State.committedLoad_le_add (b := b) fun k => ?_).trans (hfit hs)
        by_cases hk : k = b
        · subst hk
          simp only [State.committedBy, if_true]
          split
          · exact Nat.le_add_left _ _
          · exact Nat.zero_le _
        · rw [State.committedBy, hother k hk, if_neg hk]
          exact le_refl _ }
  have hcheck : s.Keeps ((a.setBay b p).setChecker b Checker.seek) :=
    setChecker ⟨h.toHolds.trans hstart, hroles⟩
  unfold State.enterStarting
  dsimp only
  split
  · exact hcheck.trip
  · exact hcheck

end

/-! ## Evictions within the budget (R121) -/

theorem evict_bay_other (a : State) (t : Bay) {k d : Bay} (hd : d ≠ k) : (a.evict t k).bay d = a.bay d :=
  a.cutPower_bay_other k .cooling hd

theorem evict_bay_same (a : State) (t k : Bay) : ((a.evict t k).bay k).state = .cooling :=
  congrArg BayPower.state (a.cutPower_bay_same k .cooling)

theorem evictFor_unpowered {b t : Bay} {ks : List Bay} {n : Nat} {a : State} (h : (a.bay b).state.powered = false) :
    ((a.evictFor t ks n).bay b).state.powered = false := by
  induction ks generalizing a n with
  | nil => exact h
  | cons k rest ih =>
    cases n with
    | zero => exact h
    | succ n =>
      refine ih ?_
      by_cases hb : b = k
      · rw [hb, evict_bay_same]; rfl
      · rw [evict_bay_other a t hb]; exact h

/-- Powered bays evicted one by one free the load units asked for. -/
theorem evictFor_frees {t : Bay} {ks : List Bay} {n : Nat} {a : State} (hnodup : ks.Nodup)
    (hpowered : ∀ k ∈ ks, (a.bay k).state.powered = true) (hn : n ≤ (ks.map a.load).sum) :
    (a.evictFor t ks n).committedLoad + n ≤ a.committedLoad := by
  induction ks generalizing a n with
  | nil =>
    have : n = 0 := by simpa using hn
    subst this
    exact le_refl _
  | cons k rest ih =>
    cases n with
    | zero => exact le_refl _
    | succ n =>
      have htables : (a.evict t k).tables = a.tables := (Keeps.evict (.refl a)).tables
      have hload : (a.evict t k).load = a.load := funext (State.load_congr htables)
      obtain ⟨hk, hrest⟩ := List.nodup_cons.1 hnodup
      have hone : (a.evict t k).committedLoad + a.load k ≤ a.committedLoad :=
        State.committedLoad_add_le (b := k) fun d => by
          by_cases hd : d = k
          · subst hd
            have hout : ((a.evict t d).bay d).state.powered = false := by rw [evict_bay_same]; rfl
            simp [State.committedBy, hout, hpowered d List.mem_cons_self]
          · simp [State.committedBy, evict_bay_other a t hd, hd, hload]
      have hmore := ih (a := a.evict t k) (n := n + 1 - a.load k) hrest
        (fun d hd => by
          have hne : d ≠ k := fun e => hk (e ▸ hd)
          rw [evict_bay_other a t hne]
          exact hpowered d (List.mem_cons_of_mem k hd))
        (by rw [hload]; simp only [List.map_cons, List.sum_cons] at hn; omega)
      show ((a.evict t k).evictFor t rest (n + 1 - a.load k)).committedLoad + (n + 1) ≤ a.committedLoad
      omega

section
variable {s a : State} (h : s.Keeps a)
include h

theorem judgeHandover {b} (hold : (a.bay b).state.powered = false) : s.Keeps (a.judgeHandover b) := by
  unfold State.judgeHandover
  dsimp only
  split
  next hfit => exact h.enterStarting hold fun _ => by omega
  split
  next hfit henough =>
    have hev : a.Keeps (a.evictFor b a.candidates (a.committedLoad + a.load b - a.budget)) := (refl a).evictFor
    refine (h.trans hev).enterStarting (evictFor_unpowered hold) fun hs => ?_
    have hr := h.roles hs
    have hsub : a.candidates.Sublist a.power.warm := List.filter_sublist
    have hfrees := evictFor_frees (t := b) (hsub.nodup hr.warm.1)
      (fun k hk => by rw [(State.isRunning_iff a k).1 (hr.warm.2 k (hsub.subset hk)).1]; rfl) henough
    have hbudget : (a.evictFor b a.candidates (a.committedLoad + a.load b - a.budget)).budget = a.budget :=
      congrArg (fun t : Tables => t.cabinet.system.budget) hev.tables
    rw [State.load_congr hev.tables, hbudget]
    omega
  next => exact h.report

end
end State.Keeps

end Sys2Proof.Machine
end

section
/-! What every operation of the Handover Controller keeps, and with it the end of every event: the settings, the bound of
the queues, feeders for RUNNING bays only, the warm list and the load budget (R154 to R170). -/

namespace Sys2Proof.Machine

/-! ## Bays that leave a role (R132, R134) -/

theorem State.Holds.setStage (a : State) (x : Stage) : a.Holds (a.setStage x) := ⟨rfl, le_refl _, id, fun _ => id, id, id⟩

theorem State.Holds.setWarm (a : State) (w : List Bay) : a.Holds (a.setWarm w) := ⟨rfl, le_refl _, id, fun _ => id, id, id⟩

/-- A bay has left its role: it may have joined the warm list if it runs, or have been cut; no other bay changes. -/
structure State.Lets (a t : State) (b : Bay) : Prop where
  holds : a.Holds t
  stage : t.stage = a.stage
  nodup : a.power.warm.Nodup → b ∉ a.power.warm → t.power.warm.Nodup
  mem : ∀ d ∈ t.power.warm,
    (d ∈ a.power.warm ∧ (a.isRunning d = true → t.isRunning d = true)) ∨ (d = b ∧ t.isRunning b = true)
  powered : ∀ d, (t.bay d).state.powered = true → (a.bay d).state.powered = true

section
variable (a : State) (b : Bay)

theorem State.lets_refl : a.Lets a b := ⟨.refl a, rfl, fun h _ => h, fun _ hd => .inl ⟨hd, id⟩, fun _ => id⟩

theorem State.lets_cut : a.Lets (a.cutPower b .cooling) b where
  holds := ((State.Keeps.refl a).cutPower rfl).toHolds
  stage := a.cutPower_stage b .cooling
  nodup h _ := by rw [State.cutPower_warm]; exact h.filter _
  mem d hd := by
    rw [State.cutPower_warm, List.mem_filter] at hd
    have hne : d ≠ b := by simpa using hd.2
    refine .inl ⟨hd.1, fun hr => ?_⟩
    rw [State.isRunning_iff] at hr ⊢
    rw [a.cutPower_bay_other b .cooling hne]
    exact hr
  powered d hd := by
    by_cases e : d = b
    · rw [e, a.cutPower_bay_same] at hd
      cases hd
    · rw [a.cutPower_bay_other b .cooling e] at hd
      exact hd

/-- A RUNNING bay joins the warm list at either end. -/
theorem State.lets_join (hb : (a.bay b).state = .running) {w : List Bay} (hw : w.Perm (b :: a.power.warm)) :
    a.Lets (a.setWarm w) b where
  holds := .setWarm a w
  stage := rfl
  nodup h hmem := hw.nodup_iff.2 (List.nodup_cons.2 ⟨hmem, h⟩)
  mem d hd := by
    rcases List.mem_cons.1 (hw.mem_iff.1 hd) with rfl | hd
    · exact .inr ⟨rfl, (State.isRunning_iff _ _).2 hb⟩
    · exact .inl ⟨hd, id⟩
  powered _ := id

/-- A bay's power record replaced behind that, its state as it was. -/
theorem State.Lets.setBay {a t : State} {b : Bay} (h : a.Lets t b) {p : BayPower} (hp : p.state = (t.bay b).state) :
    a.Lets (t.setBay b p) b := by
  have hk : t.Keeps (t.setBay b p) := (State.Keeps.refl t).setBay hp
  have hstate : ∀ d, ((t.setBay b p).bay d).state = (t.bay d).state := fun d => by
    by_cases hd : d = b
    · rw [hd, t.bay_setBay_same, hp]
    · rw [t.bay_setBay_other p hd]
  have hrun : ∀ d, (t.setBay b p).isRunning d = t.isRunning d := fun d => by simp [State.isRunning, hstate]
  exact ⟨h.holds.trans hk.toHolds, h.stage, h.nodup, fun d hd => by rw [hrun, hrun]; exact h.mem d hd,
    fun d hd => h.powered d (by rw [← hstate]; exact hd)⟩

theorem State.lets_dropDeferred : a.Lets (a.dropDeferred b) b := (a.lets_refl b).setBay rfl

theorem State.lets_releaseOrigin : a.Lets (a.releaseOrigin b) b := by
  unfold State.releaseOrigin
  dsimp only
  split
  next hb =>
    have hjoin := a.lets_join b hb (List.perm_append_singleton b a.power.warm)
    repeat' split
    · exact hjoin
    · exact a.lets_cut b
    · exact hjoin.setBay (by rfl)
  all_goals repeat' split
  all_goals first | exact a.lets_refl b | exact a.lets_cut b | exact a.lets_dropDeferred b

theorem State.lets_retargetedAway : a.Lets (a.retargetedAway b) b := by
  unfold State.retargetedAway
  dsimp only
  split
  case h_3 hb =>
    split
    · exact a.lets_join b hb (.refl _)
    · exact a.lets_cut b
  all_goals repeat' split
  all_goals first | exact a.lets_refl b | exact a.lets_cut b | exact a.lets_dropDeferred b
end

/-! ## Roles read in HANDOVER -/

section
variable {s : State} {r : HandoverRecord} (h : s.stage = .handover r)
include h

theorem State.handover_of_stage : s.handover = some r := by simp [State.handover, h]
theorem State.isActive_of_handover (b : Bay) : s.isActive b = false := by simp [State.isActive, h]
theorem State.isOrigin_of_handover (b : Bay) : s.isOrigin b = (decide (r.origin = .bay b) && !r.released) := by
  simp [State.isOrigin, State.handover, h]
theorem State.isTarget_of_handover (b : Bay) : s.isTarget b = decide (r.target = .bay b) := by
  simp [State.isTarget, State.handover, h]
theorem State.handoverOk_iff : s.HandoverOk ↔ (r.released = true → r.phase = .quiet) := by
  simp [State.HandoverOk, State.handover, h]

/-- Before QUIET no origin has been released. -/
theorem State.RolesOk.unreleased (hs : s.RolesOk) (hp : r.phase ≠ .quiet) : r.released = false := by
  by_contra hreleased
  exact hp ((State.handoverOk_iff h).1 hs.handover (by simpa using hreleased))

end

/-- A bay as its naming as target leaves it (R128, R133). -/
theorem State.nameTarget_bay_same (a : State) (b : Bay) (reload : Bool) : (a.nameTarget b reload).bay b =
    { a.bay b with releasePending := false
                   attempts := if reload then (a.profile b).general.attempts else (a.bay b).attempts } :=
  State.bay_setBay_same a b _

theorem State.nameTarget_bay_other (a : State) {b d : Bay} (reload : Bool) (hd : d ≠ b) :
    (a.nameTarget b reload).bay d = a.bay d :=
  State.bay_setBay_other a _ hd

theorem State.nameTarget_bay (a : State) (b d : Bay) (reload : Bool) :
    ((a.nameTarget b reload).bay d).state = (a.bay d).state := by
  by_cases hd : d = b
  · rw [hd, State.nameTarget_bay_same]
  · rw [State.nameTarget_bay_other a reload hd]

theorem State.nameIfBay_bay (a : State) (t : Target) (d : Bay) : ((a.nameIfBay t).bay d).state = (a.bay d).state := by
  cases t with
  | menu => rfl
  | bay b => exact a.nameTarget_bay b d true

theorem State.nameIfBay_isRunning (a : State) (t : Target) (d : Bay) : (a.nameIfBay t).isRunning d = a.isRunning d := by
  simp [State.isRunning, State.nameIfBay_bay]

/-- A target named leaves the warm list (R131). -/
theorem State.nameIfBay_warm (a : State) (t : Target) :
    (a.nameIfBay t).power.warm = a.power.warm.filter fun k => decide (t ≠ .bay k) := by
  cases t with
  | menu => simp [State.nameIfBay]
  | bay b => simp [State.nameIfBay, State.nameTarget, eq_comm]

theorem State.nameIfBay_stage (a : State) (t : Target) : (a.nameIfBay t).stage = a.stage := by cases t <;> rfl

namespace State.Keeps

section
variable {s a : State} (h : s.Keeps a)
include h

theorem nameIfBay {t} : s.Keeps (a.nameIfBay t) := by
  have hp : a.Keeps (a.setPower (a.nameIfBay t).power) :=
    (refl a).setPower (by rw [State.nameIfBay_warm]; exact List.filter_sublist) (a.nameIfBay_bay t)
  have heq : a.setPower (a.nameIfBay t).power = a.nameIfBay t := by cases t <;> rfl
  exact h.trans (heq ▸ hp)

/-! ## The end of COOLING and power requests -/

theorem judgeDeferred {b k} (hold : (a.bay b).state.powered = false) : s.Keeps (a.judgeDeferred b k) := by
  unfold State.judgeDeferred
  split
  next hfit => exact h.enterStarting hold fun _ => by simpa [State.fits] using hfit
  next => exact h.notifyBay
theorem coolingEnds {b} (hb : (a.bay b).state = .cooling) : s.Keeps (a.coolingEnds b) := by
  have hoff : s.Keeps (a.setBay b { a.bay b with state := .off, deferred := none, timer := none }) :=
    h.changeBay (by rw [hb]; decide) fun hp => by cases hp
  have hold : ((a.setBay b { a.bay b with state := .off, deferred := none, timer := none }).bay b).state.powered
      = false := by rw [State.bay_setBay_same]; rfl
  unfold State.coolingEnds
  dsimp only
  split
  · exact hoff
  · exact hoff.judgeDeferred hold
  · exact hoff.judgeDeferred hold
  · exact hoff.judgeHandover hold
theorem powerRequest {b} : s.Keeps (a.powerRequest b) := by
  unfold State.powerRequest
  split
  case h_5 hb => exact h.judgeHandover (by rw [hb]; rfl)
  all_goals first | exact h | exact h.report | exact h.setBay rfl

/-! ## Phases -/

/-- The record of the handover in progress replaced, with its origin, its release and its target as they were. -/
theorem setRecord {r q : HandoverRecord} (hr : a.stage = .handover r) (ho : q.origin = r.origin)
    (hl : q.released = r.released) (ht : q.target = r.target) (hp : a.RolesOk → q.released = true → q.phase = .quiet) :
    s.Keeps (a.setRecord q) := by
  have hq : (a.setRecord q).stage = .handover q := rfl
  refine h.trans ⟨.setStage a _, fun hs => ⟨(State.handoverOk_iff hq).2 (hp hs), ⟨hs.warm.1, fun b hb => ?_⟩, hs.budget⟩⟩
  obtain ⟨hrun, _, horigin, htarget⟩ := hs.warm.2 b hb
  rw [State.isOrigin_of_handover hr] at horigin
  rw [State.isTarget_of_handover hr] at htarget
  exact ⟨hrun, State.isActive_of_handover hq b,
    by rw [State.isOrigin_of_handover hq, ho, hl]; exact horigin, by rw [State.isTarget_of_handover hq, ht]; exact htarget⟩
/-- The phase of the handover in progress replaced, before QUIET. -/
theorem setPhaseOf {r : HandoverRecord} {p : Phase} (hr : a.stage = .handover r) (hq : r.phase ≠ .quiet) :
    s.Keeps (a.setRecord { r with phase := p }) :=
  h.setRecord hr rfl rfl rfl fun hs hl => by
    have := hs.unreleased hr hq
    rw [this] at hl
    cases hl
theorem afterRelease {r : HandoverRecord} (hr : a.stage = .handover r) (hq : r.phase ≠ .quiet) :
    s.Keeps (a.afterRelease r) := by
  unfold State.afterRelease
  split
  · exact (h.setPhaseOf hr hq).powerRequest
  · exact (h.setPhaseOf hr hq).cutRequest
theorem rampDone : s.Keeps a.rampDone := by
  unfold State.rampDone
  split
  next r hr =>
    split
    next hp => exact h.afterRelease hr (by rw [hp]; decide)
    next => exact h
  · exact h
  · exact h
theorem ready {b} : s.Keeps (a.ready b) := by
  unfold State.ready
  split
  next r hr =>
    split
    next hp => exact (h.setPhaseOf hr (by rw [hp.1]; decide)).cutRequest
    next => exact h
  · exact h
  · exact h
theorem redirect {r : HandoverRecord} (hr : a.stage = .handover r) : s.Keeps (a.redirect r) := by
  unfold State.redirect
  split
  · exact h
  next hp => exact h.afterRelease hr (by rw [hp]; decide)
  next hp =>
    have hw : s.Keeps a.withdrawCut := h.setMonitor
    exact hw.afterRelease hr (by rw [hp]; decide)
  · exact h

end

/-! ## Beginning -/

/-- The origin of a handover that begins is no bay of the warm list. -/
theorem begunRoles {a : State} (hs : a.RolesOk) (t : Target) (c : Cause) (w : List Bay) :
    (((a.setRecord (.begun a.beginOrigin t c)).setProtected w).nameIfBay t).RolesOk := by
  let v := ((a.setRecord (.begun a.beginOrigin t c)).setProtected w).nameIfBay t
  have hstage : v.stage = .handover (.begun a.beginOrigin t c) := State.nameIfBay_stage _ t
  have hbay : ∀ d, (v.bay d).state = (a.bay d).state := fun d => State.nameIfBay_bay _ t d
  have hwarm : v.power.warm = a.power.warm.filter fun k => decide (t ≠ .bay k) := State.nameIfBay_warm _ t
  have htables : v.tables = a.tables := by cases t <;> rfl
  refine ⟨(State.handoverOk_iff hstage).2 (by simp [HandoverRecord.begun]),
    ⟨by rw [hwarm]; exact hs.warm.1.filter _, fun d hd => ?_⟩,
    hs.budget.of_powered htables fun d => by rw [hbay]; exact id⟩
  rw [hwarm, List.mem_filter] at hd
  obtain ⟨hrun, hactive, _, _⟩ := hs.warm.2 d hd.1
  refine ⟨by rw [State.isRunning_iff, hbay]; exact (State.isRunning_iff a d).1 hrun, State.isActive_of_handover hstage d,
    ?_, ?_⟩
  · rw [State.isOrigin_of_handover hstage]
    have : a.beginOrigin ≠ .bay d := by
      unfold State.beginOrigin State.activeBay
      cases hg : a.stage <;> simp_all [State.isActive]
    simp [HandoverRecord.begun, this]
  · rw [State.isTarget_of_handover hstage]
    exact decide_eq_false (show ¬ t = .bay d by simpa using hd.2)

section
variable {s a : State} (h : s.Keeps a)
include h

theorem releaseParts {t} : s.Keeps (a.releaseParts t) := by
  cases t with
  | menu => exact h
  | bay b => exact h.stopRoutePulses.credits (.releaseCredit (.refl _))
theorem begins {t c} : s.Keeps (a.begin t c) := by
  have hheld : a.Holds (((a.setRecord (.begun a.beginOrigin t c)).setProtected t.bay?.toList).nameIfBay t) :=
    ((State.Holds.setStage a _).trans (refl _).setProtected.toHolds).trans (refl _).nameIfBay.toHolds
  have hbegun := h.trans ⟨hheld, fun hs => begunRoles hs t c _⟩
  unfold State.begin
  exact hbegun.notify.releaseParts.rampDownRequest

end

/-! ## The cut-over (R160, R161) -/

/-- A state in HANDOVER whose warm list holds RUNNING bays that the record does not name. -/
theorem rolesOk_of_record {a v : State} {q : HandoverRecord} (hs : a.RolesOk) (hstage : v.stage = .handover q)
    (hq : q.released = true → q.phase = .quiet) (htables : v.tables = a.tables) (hnodup : v.power.warm.Nodup)
    (hmem : ∀ d ∈ v.power.warm, v.isRunning d = true ∧ (q.origin = .bay d → q.released = true) ∧ q.target ≠ .bay d)
    (hpowered : ∀ d, (v.bay d).state.powered = true → (a.bay d).state.powered = true) : v.RolesOk := by
  refine ⟨(State.handoverOk_iff hstage).2 hq, ⟨hnodup, fun d hd => ?_⟩, hs.budget.of_powered htables hpowered⟩
  obtain ⟨hrun, horigin, htarget⟩ := hmem d hd
  refine ⟨hrun, State.isActive_of_handover hstage d, ?_, ?_⟩
  · rw [State.isOrigin_of_handover hstage]
    cases hl : q.released
    · simp [show q.origin ≠ .bay d from fun e => by simp [horigin e] at hl]
    · simp
  · rw [State.isTarget_of_handover hstage]
    exact decide_eq_false htarget

/-- What the warm list tells of the record of a handover whose origin has not been released. -/
theorem warm_unnamed {a : State} {r : HandoverRecord} (hr : a.stage = .handover r) (hs : a.RolesOk)
    (hl : r.released = false) : ∀ d ∈ a.power.warm, a.isRunning d = true ∧ r.origin ≠ .bay d ∧ r.target ≠ .bay d :=
  fun d hd => by
    obtain ⟨hrun, _, horigin, htarget⟩ := hs.warm.2 d hd
    rw [State.isOrigin_of_handover hr, hl] at horigin
    rw [State.isTarget_of_handover hr] at htarget
    exact ⟨hrun, by simpa using horigin, by simpa using htarget⟩

theorem cutOverRelease_lets {a : State} {r : HandoverRecord} {b : Bay} (hb : r.origin = .bay b)
    (ht : r.target ≠ .bay b) : a.cutOverRelease r = (a.setRecord { r with released := true }).releaseOrigin b := by
  simp [State.cutOverRelease, hb, ht]

theorem cutOver {a : State} {r : HandoverRecord} (hr : a.stage = .handover r) (hp : r.phase = .classChange) :
    a.Keeps ((a.cutOverRelease r).setPhase .quiet) := by
  have hphase : ∀ {v : State} {q : HandoverRecord}, v.stage = .handover q →
      v.setPhase .quiet = v.setRecord { q with phase := .quiet } := fun h => by simp [State.setPhase, h]
  have hquiet : r.phase ≠ .quiet := by rw [hp]; decide
  cases hb : r.origin with
  | menu =>
    have hsame : a.cutOverRelease r = a := by simp [State.cutOverRelease, hb]
    rw [hsame, hphase hr]
    exact (refl a).setRecord hr rfl rfl rfl fun _ _ => rfl
  | bay b =>
    by_cases ht : r.target = .bay b
    · have hsame : a.cutOverRelease r = a := by simp [State.cutOverRelease, hb, ht]
      rw [hsame, hphase hr]
      exact (refl a).setRecord hr rfl rfl rfl fun _ _ => rfl
    · have hlets := (a.setRecord { r with released := true }).lets_releaseOrigin b
      rw [cutOverRelease_lets hb ht, hphase hlets.stage]
      refine ⟨((State.Holds.setStage a _).trans hlets.holds).trans (.setStage _ _), fun hs => ?_⟩
      have hwarm := warm_unnamed hr hs (hs.unreleased hr hquiet)
      refine rolesOk_of_record hs rfl (fun _ => rfl) hlets.holds.tables
        (hlets.nodup hs.warm.1 fun hmem => (hwarm b hmem).2.1 hb) (fun d hd => ?_) hlets.powered
      rcases hlets.mem d hd with ⟨hold, hrun⟩ | ⟨rfl, hrun⟩
      · exact ⟨hrun (hwarm d hold).1, fun _ => rfl, (hwarm d hold).2.2⟩
      · exact ⟨hrun, fun _ => rfl, ht⟩

/-! ## Retargets and failures (R164, R165, R167) -/

theorem leaveTarget_lets (a : State) (former origin : Target) {b : Bay} (hb : former = .bay b) :
    a.Lets (a.leaveTarget former origin) b := by
  subst hb
  unfold State.leaveTarget
  dsimp only
  split
  · exact a.lets_refl b
  · exact a.lets_retargetedAway b

theorem protect_keeps (a : State) (t : Target) : a.Keeps (a.protect t) := by
  unfold State.protect
  repeat' split
  · exact refl a
  · exact refl a
  · exact (refl a).setProtected

theorem protect_warm (a : State) (t : Target) : (a.protect t).power.warm = a.power.warm := by
  unfold State.protect
  repeat' split
  all_goals rfl

theorem protect_bay (a : State) (t : Target) (d : Bay) : (a.protect t).bay d = a.bay d := by
  unfold State.protect
  repeat' split
  all_goals rfl

theorem protect_stage (a : State) (t : Target) : (a.protect t).stage = a.stage := by
  unfold State.protect
  repeat' split
  all_goals rfl

/-- A handover turned to another target: the former one is left, the new one is protected and named (R164). -/
theorem turned {a : State} {r q : HandoverRecord} {t : Target} (hr : a.stage = .handover r) (hp : r.phase ≠ .quiet)
    (htarget : q.target = t) (ho : q.origin = r.origin) (hl : q.released = r.released) :
    a.Keeps ((((a.setRecord q).leaveTarget r.target r.origin).protect t).nameIfBay t) := by
  obtain ⟨c, hc, hleft⟩ : ∃ c, c = (a.setRecord q).leaveTarget r.target r.origin
      ∧ ((r.target = .menu ∧ c = a.setRecord q) ∨ ∃ b, r.target = .bay b ∧ (a.setRecord q).Lets c b
        ∧ (r.target = r.origin → c = a.setRecord q)) := by
    refine ⟨_, rfl, ?_⟩
    cases hb : r.target with
    | menu => exact .inl ⟨rfl, rfl⟩
    | bay b => exact .inr ⟨b, rfl, leaveTarget_lets _ _ _ rfl, fun e => by simp [State.leaveTarget, ← e]⟩
  rw [← hc]
  have hholds : (a.setRecord q).Holds c := by
    rcases hleft with ⟨_, rfl⟩ | ⟨b, _, hlets, _⟩
    · exact .refl _
    · exact hlets.holds
  have hstage : ((c.protect t).nameIfBay t).stage = .handover q := by
    rw [State.nameIfBay_stage, protect_stage]
    rcases hleft with ⟨_, rfl⟩ | ⟨b, _, hlets, _⟩
    · rfl
    · exact hlets.stage
  have hnamed : c.Keeps ((c.protect t).nameIfBay t) := (protect_keeps c t).nameIfBay
  have hbay : ∀ d, (((c.protect t).nameIfBay t).bay d).state = (c.bay d).state := fun d => by
    rw [State.nameIfBay_bay, protect_bay]
  have hlist : ((c.protect t).nameIfBay t).power.warm = c.power.warm.filter fun k => decide (t ≠ .bay k) := by
    rw [State.nameIfBay_warm, protect_warm]
  refine ⟨((State.Holds.setStage a _).trans hholds).trans hnamed.toHolds, fun hs => ?_⟩
  have hunreleased := hs.unreleased hr hp
  have hwarm := warm_unnamed hr hs hunreleased
  refine rolesOk_of_record hs hstage (fun h => by rw [hl, hunreleased] at h; cases h)
    (hnamed.tables.trans hholds.tables) ?_ (fun d hd => ?_) fun d hd => ?_
  · rw [hlist]
    refine List.Nodup.filter _ ?_
    rcases hleft with ⟨_, rfl⟩ | ⟨b, hb, hlets, _⟩
    · exact hs.warm.1
    · exact hlets.nodup hs.warm.1 fun hmem => (hwarm b hmem).2.2 hb
  · rw [hlist, List.mem_filter] at hd
    have hnew : q.target ≠ .bay d := by rw [htarget]; simpa using hd.2
    have hrun : ∀ k, c.isRunning k = true → ((c.protect t).nameIfBay t).isRunning k = true := fun k hk => by
      rw [State.isRunning_iff] at hk ⊢
      rw [hbay]
      exact hk
    rcases hleft with ⟨_, rfl⟩ | ⟨b, hb, hlets, hsame⟩
    · exact ⟨hrun d (hwarm d hd.1).1, fun e => absurd (ho ▸ e) (hwarm d hd.1).2.1, hnew⟩
    · by_cases horigin : r.target = r.origin
      · obtain rfl := hsame horigin
        exact ⟨hrun d (hwarm d hd.1).1, fun e => absurd (ho ▸ e) (hwarm d hd.1).2.1, hnew⟩
      · rcases hlets.mem d hd.1 with ⟨hold, hkeep⟩ | ⟨rfl, hruns⟩
        · exact ⟨hrun d (hkeep (hwarm d hold).1), fun e => absurd (ho ▸ e) (hwarm d hold).2.1, hnew⟩
        · exact ⟨hrun d hruns, fun e => absurd (hb.trans (ho ▸ e).symm) horigin, hnew⟩
  · rw [hbay] at hd
    rcases hleft with ⟨_, rfl⟩ | ⟨b, _, hlets, _⟩
    · exact hd
    · exact hlets.powered d hd

/-- A handover turned to MENU by the failure of its target (R167). -/
theorem failedRoles {a : State} {r q : HandoverRecord} (hr : a.stage = .handover r) (htarget : q.target = .menu)
    (ho : q.origin = r.origin) (hl : q.released = r.released) (hp : q.phase = r.phase) : a.Keeps (a.setRecord q) := by
  have hq : (a.setRecord q).stage = .handover q := rfl
  refine ⟨.setStage a _, fun hs => ⟨(State.handoverOk_iff hq).2 ?_, ⟨hs.warm.1, fun d hd => ?_⟩, hs.budget⟩⟩
  · rw [hl, hp]
    exact (State.handoverOk_iff hr).1 hs.handover
  · obtain ⟨hrun, _, horigin, _⟩ := hs.warm.2 d hd
    rw [State.isOrigin_of_handover hr] at horigin
    exact ⟨hrun, State.isActive_of_handover hq d, by rw [State.isOrigin_of_handover hq, ho, hl]; exact horigin,
      by rw [State.isTarget_of_handover hq]; exact decide_eq_false (by rw [htarget]; simp)⟩

/-- The stage a completed handover enters names no bay but its target (R162). -/
theorem enterStage {a : State} {r : HandoverRecord} (hr : a.stage = .handover r) : a.Keeps (a.enterStage r.target) := by
  have hnone : ∀ d, (a.setStage .menu).isOrigin d = false ∧ (a.setStage .menu).isTarget d = false :=
    fun d => ⟨rfl, rfl⟩
  cases ht : r.target with
  | menu =>
    have hmenu : a.Keeps (a.setStage .menu) := by
      refine ⟨.setStage a _, fun hs => ⟨fun q hq => (nomatch hq), ⟨hs.warm.1, fun d hd => ?_⟩, hs.budget⟩⟩
      exact ⟨(hs.warm.2 d hd).1, rfl, rfl, rfl⟩
    exact hmenu.setPanel
  | bay b =>
    have hplay : a.Keeps (a.setStage (.play b)) := by
      refine ⟨.setStage a _, fun hs => ⟨fun q hq => (nomatch hq), ⟨hs.warm.1, fun d hd => ?_⟩, hs.budget⟩⟩
      obtain ⟨hrun, _, _, htarget⟩ := hs.warm.2 d hd
      rw [State.isTarget_of_handover hr, ht] at htarget
      refine ⟨hrun, decide_eq_false fun e => ?_, rfl, rfl⟩
      simp [State.setStage] at e
      simp [e] at htarget
    exact hplay.enterActive.stopRoutePulses

section
variable {s a : State} (h : s.Keeps a)
include h

theorem cutDone {src} : s.Keeps (a.cutDone src) := by
  unfold State.cutDone
  split
  next r hr =>
    split
    next hc => exact (h.trans (cutOver hr hc.1)).quietRequest
    next => exact h
  · exact h
  · exact h
theorem followOn {r} : s.Keeps (a.followOn r) := by
  unfold State.followOn
  split
  · exact h.begins
  · exact h
  · exact h
theorem quietGrant : s.Keeps a.quietGrant := by
  unfold State.quietGrant
  split
  next r hr =>
    split
    · exact (h.trans (enterStage hr)).setProtected.notify.followOn
    · exact h
  · exact h
  · exact h
theorem retarget {r t c} (hr : a.stage = .handover r) (hp : r.phase ≠ .quiet) :
    s.Keeps (a.retarget r t c) := by
  let q : HandoverRecord := { r with target := t, cause := c, failedBay := none, failReason := none }
  have hturned := h.trans (turned (q := q) hr hp rfl rfl rfl)
  have hstage : ((((a.setRecord q).leaveTarget r.target r.origin).protect t).nameIfBay t).stage = .handover q := by
    rw [State.nameIfBay_stage, protect_stage]
    cases hb : r.target with
    | menu => rfl
    | bay b => exact (leaveTarget_lets _ _ _ rfl).stage
  unfold State.retarget
  exact hturned.notify.redirect hstage
theorem turnToMenu {r b w} (hr : a.stage = .handover r) : s.Keeps (a.turnToMenu r b w) := by
  have hmenu := failedRoles (q := { r with
    target := .menu, cause := .failed, failedBay := some b, failReason := some w }) hr rfl rfl rfl rfl
  unfold State.turnToMenu
  exact (h.trans hmenu).notify.redirect rfl
/-- A loss or a menu request in QUIET sets the follow-on alone (R166, R170). -/
theorem setFollowOn {r : HandoverRecord} {f : Option FollowOn} (hr : a.stage = .handover r) :
    s.Keeps (a.setRecord { r with followOn := f }) :=
  h.setRecord hr rfl rfl rfl fun hs => (State.handoverOk_iff hr).1 hs.handover
theorem lose {r : HandoverRecord} {c} (hr : a.stage = .handover r) : s.Keeps (a.setRecord (r.lose c)) := by
  unfold HandoverRecord.lose
  split
  · exact h.setFollowOn (f := r.followOn) hr
  · exact h.setFollowOn hr
  · exact h.setFollowOn hr
theorem targetFailed {b w} : s.Keeps (a.targetFailed b w) := by
  unfold State.targetFailed
  split
  next r hr =>
    repeat' split
    · exact h.lose hr
    · exact h.turnToMenu hr
    · exact h
  · exact h
  · exact h
theorem bayLost {b c} : s.Keeps (a.bayLost b c) := by
  unfold State.bayLost
  split
  · exact h
  · split
    · exact h.begins
    · exact h
  next r hr =>
    split
    · exact h.lose hr
    · exact h
theorem targetCools {b} : s.Keeps (a.targetCools b) := by
  unfold State.targetCools
  split
  · exact h
  · exact h
  next r hr =>
    split
    · split
      · exact h
      · exact h
      next hp =>
        have hw : s.Keeps a.withdrawCut := h.setMonitor
        exact hw.setPhaseOf hr (by rw [hp]; decide)
      · exact h.lose hr
    · exact h
theorem menuRequest : s.Keeps a.menuRequest := by
  unfold State.menuRequest
  split
  · exact h
  · exact h.begins
  next r hr =>
    split
    · exact h
    next =>
      split
      next =>
        unfold HandoverRecord.askMenu
        split
        · exact h.setFollowOn (f := r.followOn) hr
        · exact h.setFollowOn (f := r.followOn) hr
        · exact h.setFollowOn hr
      next hp => exact h.retarget hr hp
theorem askSelect {l t} : s.Keeps (a.askSelect l t).1 := by
  unfold State.askSelect
  split
  · exact h
  split
  · split
    · exact h
    · exact h.begins
  · split
    · exact h
    · exact h.begins
  next r hr =>
    split
    · exact h
    split
    · exact h
    next hp =>
    split
    · exact h
    · exact h.retarget hr hp

/-! ## The end of an event -/

theorem takeReport {r} : s.Keeps (a.takeReport r) := by
  cases r
  · exact h.rampDone
  · exact h.cutDone
  · exact h.ready
  · exact h.targetFailed
  · exact h.bayLost
  · exact h.targetCools
  · exact h.quietGrant
  · exact h.feederIdle
/-- A report left for the next event is one of a power cut (log entry 39). -/
theorem setLate {r : Option Report} (hr : (a.setLate r).LateOk) : s.Keeps (a.setLate r) :=
  h.trans
    { tables := rfl
      live := le_refl _
      queues := id
      marks := fun _ => id
      late := fun _ => hr
      feeders := id
      roles := fun hs => ⟨hs.handover, hs.warm, hs.budget⟩ }
theorem takeOrLeave {r} : s.Keeps (a.takeOrLeave r) := by
  unfold State.takeOrLeave
  split
  next hwait =>
    split
    · exact h.drawn.takeReport
    · refine h.drawn.setLate ?_
      rintro q ⟨⟩
      cases r <;> simp_all [State.mayWait]
  next => exact h.takeReport
omit h in
theorem drainWith {n} {a : State} (h : s.Keeps a) : s.Keeps (a.drainWith n) := by
  induction n generalizing a with
  | zero => exact h.setReports
  | succ n ih =>
    unfold State.drainWith
    split
    · exact h
    · exact ih h.setReports.takeOrLeave
theorem takeLate : s.Keeps a.takeLate := by
  unfold State.takeLate
  split
  · exact h
  · exact (h.setLate (fun r hr => by cases hr)).takeReport
theorem drain : s.Keeps a.drain := h.takeLate.drainWith

end
end State.Keeps

end Sys2Proof.Machine
end

section
/-! What every request, every command and every step keeps: settings in range, the bound of the queues, feeders for
RUNNING bays only, the warm list and the load budget. -/

namespace Sys2Proof.Machine

/-! ## Draws (R10, R26) -/

theorem State.formUnit_feeder_length (s : State) (b : Bay) (cause : UnitCause) :
    ((s.formUnit b cause).feeder b).queue.length = (s.feeder b).queue.length + 1 := by
  rw [State.formUnit_feeder_same]
  simp

namespace State.Keeps

section
variable {s a : State} (h : s.Keeps a)
include h

/-- A unit formed for a RUNNING bay whose feeder has a free place. -/
theorem formUnit {b cause} (hrun : a.isRunning b = true) (hroom : (a.feeder b).queue.length < Config.feederCapacity) :
    s.Keeps (a.formUnit b cause) := by
  have hseqs : seqsOf (a.formUnit b cause).store.arrival = seqsOf a.store.arrival := by
    rw [State.formUnit_store]
    exact placeFirst_seqs _ _ _
  refine h.trans ⟨⟨rfl, (live_of_seqs hseqs).le, id, fun _ => id, id, fun hf d => ?_⟩, fun hr => ⟨hr.handover, hr.warm, hr.budget⟩⟩
  by_cases hd : d = b
  · subst hd
    exact ⟨by rw [State.formUnit_feeder_length]; exact hroom, fun _ => hrun⟩
  · rw [State.formUnit_feeder_other a cause hd]
    exact hf d

omit h in
theorem formUnits {b cause k} {a : State} (h : s.Keeps a) (hrun : a.isRunning b = true) (hroom : k ≤ (a.feeder b).free) :
    s.Keeps (a.formUnits b cause k) := by
  induction k generalizing a with
  | zero => exact h
  | succ k ih =>
    unfold Feeder.free at hroom
    refine ih (h.formUnit hrun (by omega)) hrun ?_
    rw [Feeder.free, State.formUnit_feeder_length]
    omega

theorem drawUnits {b cause k} (hrun : a.isRunning b = true) (hroom : k ≤ (a.feeder b).free) :
    s.Keeps (a.drawUnits b cause k) :=
  (h.formUnits hrun hroom).credits (.storeChanged (.refl _))
theorem startPress {b w} : s.Keeps (a.startPress b w) := by
  unfold State.startPress
  dsimp only
  split
  · exact h
  · exact h
  split
  · exact h
  next hrun =>
  split
  · exact h.notify
  split
  · exact h.notify
  next hroom =>
  have hrunning : a.isRunning b = true := by
    by_contra hn
    exact hrun (by simp [Bool.not_eq_true _ ▸ hn])
  unfold State.openCharge
  exact ((h.drawUnits hrunning (not_lt.1 hroom)).setGate).credits (.arbitrate (.refl _))

/-! ## Switch events -/

theorem startRoutePulses {b w} : s.Keeps (a.startRoutePulses b w) := by
  unfold State.startRoutePulses
  split
  · exact h.setRouting
  · exact h
theorem menuSwitchEvent {e} : s.Keeps (a.menuSwitchEvent e) := by cases e <;> exact h.setPanel
theorem playEvent {b w e} : s.Keeps (a.playEvent b w e) := by
  unfold State.playEvent
  repeat' split
  · exact h.menuSwitchEvent
  · exact h.startPress
  · exact h
  · exact h.startRoutePulses
  · exact h
theorem dealSwitch {w e} : s.Keeps (a.dealSwitch w e) := by
  unfold State.dealSwitch
  repeat' split
  · exact h.notifyOn
  · exact h.menuSwitchEvent
  · exact h
  · exact h.playEvent
theorem quietCheck {e} : s.Keeps (a.quietCheck e) := by
  unfold State.quietCheck
  split
  · exact h.setRouting.report
  · exact h
theorem notePress {w e} : s.Keeps (a.notePress w e) := h.setPanel
theorem takeSwitch {w e} : s.Keeps (a.takeSwitch w e) := by
  unfold State.takeSwitch
  dsimp only
  split
  · exact h.notePress.quietCheck
  · exact h.notePress.dealSwitch.quietCheck

end
end State.Keeps

/-! ## What a command may do besides: settings written, tokens created -/

/-- What every command keeps. -/
structure State.Lasts (s t : State) : Prop where
  tables : s.TablesOk → t.TablesOk
  queues : s.QueuesOk → t.QueuesOk
  late : s.LateOk → t.LateOk
  feeders : s.FeedersOk → t.FeedersOk
  roles : s.RolesOk → t.RolesOk

/-- What every request keeps: a mark is set by the busy rule alone (R186). -/
structure State.Stays (s t : State) : Prop extends State.Lasts s t where
  marks : ∀ l, s.Unmarked l → t.Unmarked l

theorem State.Lasts.refl (s : State) : s.Lasts s := ⟨id, id, id, id, id⟩

theorem State.Lasts.trans {s t u : State} (h : s.Lasts t) (g : t.Lasts u) : s.Lasts u :=
  ⟨g.tables ∘ h.tables, g.queues ∘ h.queues, g.late ∘ h.late, g.feeders ∘ h.feeders, g.roles ∘ h.roles⟩

theorem State.Stays.refl (s : State) : s.Stays s := ⟨.refl s, fun _ => id⟩

theorem State.Stays.trans {s t u : State} (h : s.Stays t) (g : t.Stays u) : s.Stays u :=
  ⟨h.toLasts.trans g.toLasts, fun l => g.marks l ∘ h.marks l⟩

theorem State.Keeps.stays {s t : State} (h : s.Keeps t) : s.Stays t :=
  ⟨⟨fun hs => by simpa [State.TablesOk, h.tables] using hs, h.queues, h.late, h.feeders, h.roles⟩, h.marks⟩

theorem State.Keeps.lasts {s t : State} (h : s.Keeps t) : s.Lasts t := h.stays.toLasts

theorem Tables.valid_iff (t : Tables) : t.valid = true ↔
    (∀ b : Bay, t.profiles[b].valid = true ∧ routeMapValid t.routes[b] = true)
      ∧ chutesValid t.cabinet.chutes = true ∧ t.cabinet.panel.valid = true ∧ t.cabinet.system.valid = true := by
  have hall : ∀ b : Bay, b ∈ allBays := by decide
  simp only [Tables.valid, Bool.and_eq_true, List.all_eq_true, and_assoc]
  exact ⟨fun ⟨h, g⟩ => ⟨fun b => h b (hall b), g⟩, fun ⟨h, g⟩ => ⟨fun b _ => h b, g⟩⟩

/-- A group written is in its range (R81). -/
theorem Profile.withGroup_valid {p q : Profile} {g : ProfileGroup} {fields : List Byte} (hp : p.valid = true)
    (h : p.withGroup g fields = some q) : q.valid = true := by
  simp only [Profile.valid, Bool.and_eq_true] at hp ⊢
  obtain ⟨⟨hgeneral, hcoin⟩, hplay⟩ := hp
  cases g <;> simp only [Profile.withGroup, Option.map_eq_some_iff, Option.filter_eq_some_iff] at h <;>
    obtain ⟨x, hx, rfl⟩ := h
  case general => exact ⟨⟨hx.2, hcoin⟩, hplay⟩
  case coin => exact ⟨⟨hgeneral, hx.2⟩, hplay⟩
  case play => exact ⟨⟨hgeneral, hcoin⟩, hx.2⟩
  case lines => exact ⟨⟨hgeneral, hcoin⟩, hplay⟩

theorem Cabinet.withGroup_valid {c d : Cabinet} {g : CabinetGroup} {fields : List Byte}
    (hc : chutesValid c.chutes = true ∧ c.panel.valid = true ∧ c.system.valid = true)
    (h : c.withGroup g fields = some d) :
    chutesValid d.chutes = true ∧ d.panel.valid = true ∧ d.system.valid = true := by
  cases g <;> simp only [Cabinet.withGroup, Option.map_eq_some_iff, Option.filter_eq_some_iff] at h <;>
    obtain ⟨x, hx, rfl⟩ := h
  case chutes => exact ⟨hx.2, hc.2⟩
  case panel => exact ⟨hc.1, hx.2, hc.2.2⟩
  case system => exact ⟨hc.1, hc.2.1, hx.2⟩

/-- A bay that may be written is not powered (R80, R87). -/
theorem State.unpowered_of_writable {s : State} {b : Bay} (h : s.writable b = true) :
    (s.bay b).state.powered = false := by
  unfold State.writable at h
  cases hb : (s.bay b).state <;> simp_all [PowerState.powered]

theorem State.tablesOk_iff (s : State) : s.TablesOk ↔
    (∀ b : Bay, (s.profile b).valid = true ∧ routeMapValid (s.routeMap b) = true)
      ∧ chutesValid s.tables.cabinet.chutes = true ∧ s.tables.cabinet.panel.valid = true
      ∧ s.tables.cabinet.system.valid = true := Tables.valid_iff s.tables

@[simp] theorem State.profile_setProfile_same (s : State) (b : Bay) (p : Profile) : (s.setProfile b p).profile b = p :=
  Vector.getElem_set_self b.isLt

theorem State.profile_setProfile_other (s : State) {b d : Bay} (p : Profile) (h : d ≠ b) :
    (s.setProfile b p).profile d = s.profile d :=
  Vector.getElem_set_ne b.isLt d.isLt fun e => h (Fin.ext e.symm)

@[simp] theorem State.routeMap_setRoutes_same (s : State) (b : Bay) (m : List Route) :
    (s.setRoutes b m).routeMap b = m := Vector.getElem_set_self b.isLt

theorem State.routeMap_setRoutes_other (s : State) {b d : Bay} (m : List Route) (h : d ≠ b) :
    (s.setRoutes b m).routeMap d = s.routeMap d :=
  Vector.getElem_set_ne b.isLt d.isLt fun e => h (Fin.ext e.symm)

/-- Settings replaced by others in range, within which the powered load stays. -/
theorem State.stays_setTables {s : State} (x : Tables) (hx : s.TablesOk → (s.setTables x).TablesOk)
    (hbudget : s.WithinBudget → (s.setTables x).WithinBudget) : s.Stays (s.setTables x) where
  tables := hx
  queues := id
  marks := fun _ => id
  late := id
  feeders := id
  roles hr := ⟨hr.handover, hr.warm, hbudget hr.budget⟩

theorem State.setProfile_stays {s : State} {b : Bay} {p : Profile} (hp : (s.profile b).valid = true → p.valid = true)
    (hw : s.writable b = true) : s.Stays (s.setProfile b p) := by
  refine State.stays_setTables _ (fun hs => ?_) fun hr => ?_
  · rw [State.tablesOk_iff] at hs ⊢
    refine ⟨fun d => ⟨?_, (hs.1 d).2⟩, hs.2⟩
    show ((s.setProfile b p).profile d).valid = true
    by_cases hd : d = b
    · rw [hd, State.profile_setProfile_same]
      exact hp (hs.1 b).1
    · rw [State.profile_setProfile_other s p hd]
      exact (hs.1 d).1
  · refine le_trans (State.committedLoad_le_add (t := s.setProfile b p) (b := b) (c := 0) fun k => ?_) hr
    have hpowered : ((s.setProfile b p).bay k).state.powered = (s.bay k).state.powered := rfl
    by_cases hk : k = b
    · simp [State.committedBy, hpowered, hk ▸ State.unpowered_of_writable hw]
    · simp [State.committedBy, hpowered, State.load, State.profile_setProfile_other s p hk]

theorem State.setRoutes_stays {s : State} {b : Bay} {m : List Route} (hm : routeMapValid m = true) :
    s.Stays (s.setRoutes b m) := by
  refine State.stays_setTables _ (fun hs => ?_) id
  rw [State.tablesOk_iff] at hs ⊢
  refine ⟨fun d => ⟨(hs.1 d).1, ?_⟩, hs.2⟩
  show routeMapValid ((s.setRoutes b m).routeMap d) = true
  by_cases hd : d = b
  · rw [hd, State.routeMap_setRoutes_same]
    exact hm
  · rw [State.routeMap_setRoutes_other s m hd]
    exact (hs.1 d).2

/-! ## Requests -/

section
variable (s : State)

theorem State.stays_withBay {x : Byte} {f : Bay → State × Answer} (hf : ∀ b, s.Stays (f b).1) :
    s.Stays (s.withBay x f).1 := by
  unfold State.withBay
  split
  · exact hf _
  · exact .refl s

theorem State.stays_askSetIntake (v : Byte) : s.Stays (s.askSetIntake v).1 := by
  unfold State.askSetIntake
  repeat' split
  · exact .refl s
  · exact .refl s
  next v _ _ =>
    have hflag : s.Keeps (s.setIntakeOpen v) := (State.Keeps.refl s).setFlags
    exact (hflag.credits (.evalClosure (.refl _))).stays

theorem State.stays_askArmCoils : s.Stays s.askArmCoils.1 := by
  unfold State.askArmCoils
  repeat' split
  · exact .refl s
  · exact ((State.Credits.refl s).setIntake.followCoils.notifyIntake).keeps.stays
  · exact .refl s

theorem State.stays_mint (o : Origin) (c : Option Chute) (n : Nat) : s.Stays (s.mint o c n) :=
  ⟨⟨id, id, id, id, fun hr => ⟨hr.handover, hr.warm, hr.budget⟩⟩, fun _ => id⟩

theorem State.stays_askGrant (n : Byte) : s.Stays (s.askGrant n).1 := by
  unfold State.askGrant
  repeat' split
  · exact .refl s
  · exact .refl s
  next k _ _ =>
    exact (s.stays_mint .grant none k).trans ((State.Credits.refl _).bump.storeChanged).keeps.stays

theorem State.stays_askWithdraw (n : Byte) : s.Stays (s.askWithdraw n).1 := by
  unfold State.askWithdraw
  repeat' split
  · exact .refl s
  · exact .refl s
  next k _ _ =>
    have hdrop : s.Credits (s.withdrawTokens k) :=
      State.Credits.bump ((State.Credits.refl s).setStore (x := { s.store with arrival := dropFirst k s.store.arrival })
        (dropFirst_sublist k s.store.arrival).length_le)
    exact hdrop.storeChanged.keeps.stays

theorem State.stays_askTransfer (b n : Byte) : s.Stays (s.askTransfer b n).1 := by
  unfold State.askTransfer State.transfer
  split
  · split
    · exact .refl s
    next hrun =>
    split
    · exact .refl s
    split
    · exact .refl s
    split
    · exact .refl s
    next hroom =>
    have hdraw := (State.Keeps.refl s).drawUnits (cause := .transfer) (by simpa using hrun) (not_lt.1 hroom)
    exact (hdraw.credits (.arbitrate (.refl _))).stays
  · exact .refl s

theorem State.stays_rule (b : Bay) {f : CoinUnit → State} (hf : ∀ k, s.Stays (f k)) : s.Stays (s.rule b f).1 := by
  unfold State.rule
  repeat' split
  · exact .refl s
  · exact .refl s
  · exact hf _
  · exact .refl s

theorem State.stays_askWriteProfile (b g : Byte) (f : List Byte) : s.Stays (s.askWriteProfile b g f).1 := by
  unfold State.askWriteProfile State.writeProfile
  split
  · split
    · exact .refl s
    split
    · exact .refl s
    next hw =>
    split
    next p hp => exact State.setProfile_stays (fun hv => Profile.withGroup_valid hv hp) (by simpa using hw)
    next => exact .refl s
  · exact .refl s

theorem State.stays_askWriteRoutes (b st t n : Byte) (e : List Byte) : s.Stays (s.askWriteRoutes b st t n e).1 := by
  unfold State.askWriteRoutes State.writeRoutes
  dsimp only
  repeat' split
  all_goals first
    | exact .refl s
    | exact State.setRoutes_stays ‹_›

theorem State.credits_takeCabinet (g : CabinetGroup) (c : Cabinet) : (s.setCabinet c).Credits (s.takeCabinet g c) := by
  have happly : (s.setCabinet c).Credits ((s.setCabinet c).applyCabinet g s.tables.cabinet) := by
    cases g
    · refine State.Credits.foldl (fun {d} k hd => ?_) _ (.refl _)
      unfold State.applyChute
      split
      · exact hd
      · exact hd.setIntake
    · exact .refl _
    · exact (State.Credits.refl _).setIntake
  unfold State.takeCabinet
  refine State.Credits.tellClosure ?_
  cases g
  · exact State.Credits.foldl (fun k hd => hd.notifyIntake) _ happly.settleClosure
  · exact happly.settleClosure
  · exact happly.settleClosure

theorem State.stays_askWriteCabinet (g : Byte) (f : List Byte) : s.Stays (s.askWriteCabinet g f).1 := by
  unfold State.askWriteCabinet State.writeCabinet
  split
  next k _ =>
    split
    · exact .refl s
    split
    · exact .refl s
    split
    · exact .refl s
    next c hc =>
    split
    · exact .refl s
    next hfits =>
    refine State.Stays.trans (State.stays_setTables _ (fun hs => ?_) fun hr => ?_)
      (s.credits_takeCabinet k c).keeps.stays
    · rw [State.tablesOk_iff] at hs ⊢
      exact ⟨hs.1, Cabinet.withGroup_valid hs.2 hc⟩
    · show s.committedLoad ≤ c.system.budget
      by_cases hk : k = .system
      · exact not_lt.1 fun hlt => hfits ⟨hlt, hk⟩
      · have hsame : c.system = s.tables.cabinet.system := by
          cases k <;> simp only [Cabinet.withGroup, Option.map_eq_some_iff] at hc <;> obtain ⟨x, _, rfl⟩ := hc
          · rfl
          · rfl
          · exact absurd rfl hk
        rw [hsame]
        exact hr
  next => exact .refl s

theorem State.stays_askSetLock (x : Byte) : s.Stays (s.askSetLock x).1 := by
  unfold State.askSetLock
  repeat' split
  · exact .refl s
  · exact .refl s
  · exact State.stays_setTables _ id id

theorem State.keeps_askPowerOn (b : Bay) : s.Keeps (s.askPowerOn b).1 := by
  have hreload : s.Keeps (s.setBay b { s.bay b with attempts := (s.profile b).general.attempts }) :=
    (State.Keeps.refl s).setBay rfl
  unfold State.askPowerOn
  dsimp only
  split
  case h_4 hb =>
    split
    next hfit =>
      refine hreload.enterStarting ?_ fun hr => ?_
      · rw [s.bay_setBay_same]
        exact hb ▸ rfl
      · have hload := State.committedLoad_le_add (s := s) (b := b) (c := 0)
          (t := s.setBay b { s.bay b with attempts := (s.profile b).general.attempts }) fun k => by
            by_cases hk : k = b
            · subst hk
              simp only [State.committedBy, s.bay_setBay_same]
              exact Nat.le_add_right _ _
            · simp only [State.committedBy, s.bay_setBay_other _ hk]
              exact Nat.le_add_right _ _
        have hfits : s.committedLoad + s.load b ≤ s.budget := by simpa [State.fits] using hfit
        exact (Nat.add_le_add_right hload _).trans hfits
    next => exact .refl s
  all_goals first | exact .refl s | exact hreload | exact (State.Keeps.refl s).setBay rfl

theorem State.keeps_askPower (b v : Byte) : s.Keeps (s.askPower b v).1 := by
  unfold State.askPower
  split
  · split
    · exact s.keeps_askPowerOn _
    · unfold State.askPowerOff
      repeat' split
      · exact .refl s
      · exact .refl s
      · exact (State.Keeps.refl s).powerOff
  · exact .refl s

/-- A bay that returns to OFF from a state it cannot run in (R126, R128, R130). -/
theorem State.keeps_toOff {b : Bay} (hold : (s.bay b).state ≠ .running) (e : BayEvent) :
    s.Keeps ((s.setBay b { s.bay b with state := .off }).notifyBay e b) :=
  ((State.Keeps.refl s).changeBay hold fun h => by cases h).notifyBay

theorem State.keeps_askArm (b : Bay) : s.Keeps (s.askArm b).1 := by
  unfold State.askArm
  split
  · exact .refl s
  next hb =>
  split
  · exact .refl s
  · exact s.keeps_toOff (by rw [not_not.1 hb]; decide) _

theorem State.keeps_askClear (b : Bay) : s.Keeps (s.askClear b).1 := by
  unfold State.askClear
  split
  · exact .refl s
  next hb => exact s.keeps_toOff (by rw [not_not.1 hb]; decide) _

theorem State.keeps_askEnable (b : Bay) : s.Keeps (s.askEnable b).1 := by
  unfold State.askEnable
  split
  · exact .refl s
  next hb =>
    have hflag : s.Keeps (s.setEnabled b true) := (State.Keeps.refl s).setFlags
    exact hflag.trans ((s.setEnabled b true).keeps_toOff (b := b)
      (show (s.bay b).state ≠ .running by rw [not_not.1 hb]; decide) .enabled)

theorem State.keeps_askDisable (b : Bay) : s.Keeps (s.askDisable b).1 := by
  unfold State.askDisable
  split
  · exact .refl s
  · exact (State.Keeps.refl s).disable

/-- Every request keeps what must stay true. -/
theorem State.stays_perform (l : Link) (r : Request) : s.Stays (s.perform l r).1 := by
  cases r
  case status =>
    have hclear : s.Keeps (s.clearOverrun l) := (State.Keeps.refl s).setLink (le_refl _) rfl
    exact hclear.stays
  case select t =>
    unfold State.perform State.askSelectByte
    dsimp only
    split
    · exact (State.Keeps.refl s).askSelect.stays
    · exact .refl s
  case transfer b n => exact s.stays_askTransfer b n
  case voidDoubt b =>
    exact s.stays_withBay fun b => s.stays_rule b fun k => (State.Credits.refl s).voidUnit.keeps.stays
  case refundDoubt b =>
    exact s.stays_withBay fun b => s.stays_rule b fun k => (State.Credits.refl s).refundUnit.keeps.stays
  case queryBay b => exact s.stays_withBay fun _ => .refl s
  case latch =>
    unfold State.perform State.askLatch
    dsimp only
    repeat' split
    · exact (State.Keeps.refl s).setSnapshot.stays
    · exact .refl s
    · exact .refl s
  case readCounters x y =>
    unfold State.perform State.askReadCounters
    dsimp only
    split <;> exact .refl s
  case freeSnapshot =>
    unfold State.perform State.askFreeSnapshot
    dsimp only
    split
    · exact (State.Keeps.refl s).setSnapshot.stays
    · exact .refl s
  case readProfile b g =>
    unfold State.perform State.askReadProfile
    dsimp only
    split <;> exact .refl s
  case writeProfile b g f => exact s.stays_askWriteProfile b g f
  case readRoutes b st n =>
    unfold State.perform State.askReadRoutes
    dsimp only
    repeat' split
    all_goals exact .refl s
  case writeRoutes b st t n e => exact s.stays_askWriteRoutes b st t n e
  case readCabinet g =>
    unfold State.perform State.askReadCabinet
    dsimp only
    split <;> exact .refl s
  case writeCabinet g f => exact s.stays_askWriteCabinet g f
  case setLock k => exact s.stays_askSetLock k
  case enableBay b => exact s.stays_withBay fun b => (s.keeps_askEnable b).stays
  case disableBay b => exact s.stays_withBay fun b => (s.keeps_askDisable b).stays
  case powerBay b v => exact (s.keeps_askPower b v).stays
  case armBay b => exact s.stays_withBay fun b => (s.keeps_askArm b).stays
  case clearFault b => exact s.stays_withBay fun b => (s.keeps_askClear b).stays
  case armCoils => exact s.stays_askArmCoils
  case setIntake v => exact s.stays_askSetIntake v
  case grant n => exact s.stays_askGrant n
  case withdraw n => exact s.stays_askWithdraw n
  case restart => exact .refl s

/-! ## Links -/

theorem State.keeps_setLink_next (l : Link) {k : LinkState} (hk : k.queue.length ≤ (s.link l).queue.length)
    (hm : k.mark = (s.link l).mark) : s.Keeps (s.setLink l k.txNext) :=
  (State.Keeps.refl s).setLink (k.txNext_queue_le.trans hk) (k.txNext_mark.trans hm)

theorem State.keeps_setPendingRequest (l : Link) (t : Byte) : s.Keeps (s.setPendingRequest l t) :=
  (State.Keeps.refl s).setLink (le_refl _) rfl

theorem State.keeps_reply (l : Link) (t : Byte) (x : Answer) (y : AfterReply) : s.Keeps (s.reply l t x y) :=
  s.keeps_setLink_next l (le_refl _) rfl

theorem State.keeps_refuse (l : Link) (t : Byte) (r : NakReason) : s.Keeps (s.refuse l t r) :=
  (s.keeps_setPendingRequest l t).trans (State.keeps_reply _ _ _ _ _)

theorem State.stays_takeRequest (l : Link) (r : Request) : s.Stays (s.takeRequest l r) := by
  have hpend := (s.keeps_setPendingRequest l r.typ).stays.trans (State.stays_perform _ l r)
  exact (hpend.trans (State.Keeps.refl _).drain.stays).trans (State.keeps_reply _ _ _ _ _).stays

theorem State.stays_judgeLevel (l : Link) (r : Request) : s.Stays (s.judgeLevel l r) := by
  unfold State.judgeLevel
  split
  · exact s.stays_takeRequest l r
  · exact (s.keeps_refuse l _ _).stays

theorem State.keeps_setRx (l : Link) (r : Receiver) : s.Keeps (s.setRx l r) := (State.Keeps.refl s).setLink (le_refl _) rfl

end

end Sys2Proof.Machine
end

section
/-! Commands and steps: each is answered, and what it keeps. A command moves the block, or is a part reset that takes the
factory defaults together (R94, R97, R174 to R176). -/

namespace Sys2Proof.Machine

/-! ## What an event comes to -/

/-- What holds of a state and what an event makes of it: the block moves, the invariants stay, and no report is left
behind those that may be left aside (log entry 39). -/
structure State.Event (s t : State) : Prop where
  moves : Moves s t
  stays : s.Lasts t
  reports : s.reports = [] → t.reports = []

theorem State.Event.refl (s : State) : s.Event s := ⟨.refl s, .refl s, id⟩

/-- An event that reports are taken behind. -/
theorem State.Event.drain {s a : State} (hm : Moves s a) (hk : s.Keeps a) : s.Event a.drain :=
  ⟨hm.drain, hk.drain.lasts, fun _ => a.drain_reports⟩

/-- An event that makes no report. -/
theorem State.Event.plain {s t : State} (hm : Moves s t) (hk : s.Lasts t) (hr : t.reports = s.reports) : s.Event t :=
  ⟨hm, hk, hr.trans⟩

theorem State.Event.trans {s t u : State} (h : s.Event t) (g : t.Event u) : s.Event u :=
  ⟨h.moves.trans g.moves, h.stays.trans g.stays, g.reports ∘ h.reports⟩

/-! ## Commands that are requests, and events that confirm a unit -/

/-- A command that is a request is that request on its link (log entry 15). -/
theorem exec_of_request {i : Instr} {l : Link} {r : Request} (h : i.request? = some (l, r)) (s : State) :
    exec i s = .next (s.command l r) := by
  cases i <;> first
    | (obtain ⟨rfl, rfl⟩ : _ = l ∧ _ = r := by simpa [Instr.request?] using h
       rfl)
    | simp [Instr.request?] at h

/-- An event that may confirm a unit is taken, and creates no token and writes no setting. -/
theorem exec_trailEnd_next (u : PulseId) (s : State) : ∃ t, exec (.trailEnd u) s = .next t ∧ s.Event t ∧ s.Keeps t := by
  show ∃ t, execTrailEnd u s = .next t ∧ _
  unfold execTrailEnd
  split
  · split
    next p _ _ =>
      have hkeeps : s.Keeps (s.trailEnd u p) := (State.Credits.refl s).trailEnd.keeps
      exact ⟨_, rfl, .drain (Moves.refl s).trailEnd hkeeps, hkeeps.drain⟩
    · exact ⟨_, rfl, .refl s, .refl s⟩
  · exact ⟨_, rfl, .refl s, .refl s⟩

theorem State.echoAfterLoss_moves (s : State) (b : Bay) (m : CoinLine) :
    Moves s (s.echoAfterLoss b m) ∧ s.Keeps (s.echoAfterLoss b m) := by
  unfold State.echoAfterLoss
  dsimp only
  split
  · exact ⟨(Moves.refl s).setBayFilters.judgeEcho, (State.Keeps.refl s).setBayFilters.credits (.judgeEcho (.refl _))⟩
  · exact ⟨.refl s, .refl s⟩

theorem exec_echo_next (b : Bay) (m : CoinLine) (s : State) :
    ∃ t, exec (.echo b m) s = .next t ∧ s.Event t ∧ s.Keeps t := by
  show ∃ t, execEcho b m s = .next t ∧ _
  unfold execEcho
  split
  · have hkeeps : s.Keeps ((s.setFilter b m .waitRelease).judgeEcho b m) :=
      (State.Keeps.refl s).setFilter.credits (.judgeEcho (.refl _))
    exact ⟨_, rfl, .drain (Moves.refl s).setFilter.judgeEcho hkeeps, hkeeps.drain⟩
  · obtain ⟨hmoves, hkeeps⟩ := s.echoAfterLoss_moves b m
    exact ⟨_, rfl, .drain hmoves hkeeps, hkeeps.drain⟩
  · exact ⟨_, rfl, .refl s, .refl s⟩
  · exact ⟨_, rfl, .refl s, .refl s⟩

theorem State.confirming_next (s : State) (c : Confirming) : ∃ t, s.confirming c = .next t ∧ s.Event t ∧ s.Keeps t := by
  cases c with
  | trailEnd u => exact exec_trailEnd_next u s
  | echo b m => exact exec_echo_next b m s

/-! ## The audit that a lost play leaves (R78, R176) -/

/-- The record of a confirmation accounts for the tokens that have gone. -/
theorem State.withoutPlay_balanced {s t : State} (b : Bay) (ha : s.Balanced)
    (hlive : t.store.live ≤ s.store.live) : (t.setAudit (s.confirmationRecord t b)).Balanced := by
  let k := s.store.live - t.store.live
  have hcount : ∀ i, i ≠ confirmedIx b →
      (t.setAudit (s.confirmationRecord t b)).counter i = (s.bump tokensSpentIx k).counter i := fun i hi =>
    (s.bump tokensSpentIx k).bump_counter_other 1 hi
  have hne : ∀ i : CounterIx, 44 ≤ i.val → i ≠ confirmedIx b := fun i hi e => by
    have := congrArg Fin.val e
    simp only [confirmedIx] at this
    omega
  unfold State.Balanced
  rw [hcount _ (hne _ (by decide)), hcount _ (hne _ (by decide)), hcount _ (hne _ (by decide)),
    hcount _ (hne _ (by decide)), State.bump_counter_self, State.bump_counter_other _ _ (by decide),
    State.bump_counter_other _ _ (by decide), State.bump_counter_other _ _ (by decide)]
  intro h1 h2 h3 h4
  have hsum := ha h1 (by omega) h3 h4
  have hmin : min Config.counterMax (s.counter tokensSpentIx + k) = s.counter tokensSpentIx + k := by omega
  have hk : t.store.live + k = s.store.live := Nat.add_sub_cancel' hlive
  show _ = t.store.live + _ + _ + _
  omega

/-- What a power failure within an event leaves in the store is what an event leaves (R78, R175). -/
theorem State.tornBy_event (s : State) (c : Confirming) : s.Event (s.tornBy c) ∧ (s.tornBy c).tables = s.tables := by
  obtain ⟨t, ht, hevent, hkeeps⟩ := s.confirming_next c
  have hmoves := hevent.moves
  have hwithout : s.tornBy c = s.withoutPlay t := by simp [State.tornBy, ht]
  rw [hwithout]
  unfold State.withoutPlay
  split
  next b _ _ _ =>
    have hspent := State.bump_bounded (s := s) tokensSpentIx (s.store.live - t.store.live)
    have haudit : t.Keeps (t.setAudit (s.confirmationRecord t b)) := (State.Keeps.refl t).setAudit
    refine ⟨⟨?_, hevent.stays.trans haudit.lasts, hevent.reports⟩, hkeeps.tables⟩
    exact
      { queue := hmoves.queue
        fixed := hmoves.fixed
        bounded := fun hb => State.bump_bounded (confirmedIx b) 1 (hspent hb)
        grows := fun hb i => (State.bump_grows _ _ hb i).trans (State.bump_grows (confirmedIx b) 1 (hspent hb) i)
        full := fun hf => State.bump_full (confirmedIx b) 1 (State.bump_full _ _ hf)
        balance := fun _ ha => State.withoutPlay_balanced b ha hkeeps.live
        store := hmoves.store
        blank := hmoves.blank }
  · exact ⟨hevent, hkeeps.tables⟩

/-! ## The part reset (R97) -/

/-- Behind the reset of every block a part reset evaluates closure, sends its notice and may trip the coils. -/
theorem State.credits_partReset (s : State) (intact : Bool) :
    (s.retainedReset (intact && s.tables.valid)).Credits (s.partReset intact) := by
  unfold State.partReset State.coilFaultTrip
  dsimp only
  split
  · exact (State.Credits.refl _).settleClosure.notify.setIntake.notifyIntake
  · exact (State.Credits.refl _).settleClosure.notify

theorem State.moves_partReset (s : State) (intact : Bool) :
    Moves (s.retainedReset (intact && s.tables.valid)) (s.partReset intact) := by
  unfold State.partReset State.coilFaultTrip
  dsimp only
  split
  · exact (Moves.refl _).settleClosure.notify.setIntake.notifyIntake
  · exact (Moves.refl _).settleClosure.notify

theorem resetMonitor_settle (t : Tables) : (resetMonitor t).settle = none := by
  unfold resetMonitor Crosspoint.rampUp
  split <;> rfl

theorem State.blocksReset_settle (s : State) (t : Tables) (f : RetainedFlags) (k : TokenStore) (a : Audit) :
    (s.blocksReset t f k a).monitor.settle = none := resetMonitor_settle t

theorem Tables.factory_valid : Tables.factory.valid = true := by decide

/-- The blocks as a part reset sets them hold nothing that is asked of them, the settings apart. -/
theorem State.lasts_blocksReset (s : State) {t : Tables} (f : RetainedFlags) (k : TokenStore) (a : Audit)
    (ht : t.valid = true) : s.Lasts (s.blocksReset t f k a) where
  tables _ := ht
  queues _ := ⟨Nat.zero_le _, Nat.zero_le _⟩
  late _ := fun _ hr => nomatch hr
  feeders _ := fun b => by
    have hfeeder : (s.blocksReset t f k a).feeder b = Feeder.fresh := Vector.getElem_replicate b.isLt
    rw [hfeeder]
    exact ⟨Nat.zero_le _, fun hbusy => absurd rfl hbusy⟩
  roles _ :=
    { handover := fun _ hr => nomatch hr
      warm := ⟨List.nodup_nil, fun _ hb => nomatch hb⟩
      budget := by
        have hcommitted : ∀ b, (s.blocksReset t f k a).committedBy b = 0 := fun b => by
          have hbay : (s.blocksReset t f k a).bay b = resetBay t f b := Vector.getElem_ofFn b.isLt
          have hpower : (resetBay t f b).state.powered = false := by
            unfold resetBay
            dsimp only
            split <;> rfl
          simp [State.committedBy, hbay, hpower]
        unfold State.WithinBudget
        rw [State.committedLoad_eq_sum, Finset.sum_eq_zero fun b _ => hcommitted b]
        exact Nat.zero_le _ }

theorem State.lasts_partReset (s : State) (intact : Bool) : s.Lasts (s.partReset intact) := by
  have hrest := (s.credits_partReset intact).keeps.lasts
  have hreset : s.Lasts (s.retainedReset (intact && s.tables.valid)) := by
    unfold State.retainedReset
    split
    next hvalid => exact s.lasts_blocksReset _ _ _ (Bool.and_eq_true .. ▸ hvalid).2
    next => exact s.lasts_blocksReset _ _ _ Tables.factory_valid
  exact hreset.trans hrest

@[simp] theorem State.coilFaultTrip_reports (s : State) : s.coilFaultTrip.reports = s.reports := by
  unfold State.coilFaultTrip
  split <;> rfl

theorem State.partReset_reports (s : State) (intact : Bool) : (s.partReset intact).reports = [] := by
  unfold State.partReset
  dsimp only
  rw [State.coilFaultTrip_reports, State.notify_reports, State.settleClosure_reports]
  unfold State.retainedReset
  split <;> rfl

/-- A part reset that finds the store valid moves the block. -/
theorem State.partReset_valid {s : State} {intact : Bool} (h : (intact && s.tables.valid) = true) :
    s.Event (s.partReset intact) := by
  have hreset : Moves s (s.retainedReset true) :=
    { queue := rfl
      fixed := fun _ => rfl
      bounded := id
      grows := fun _ _ => le_refl _
      full := id
      balance := fun _ hb => by
        have hlive := live_of_seqs s.store.allToPool_seqs
        simpa [State.Balanced, State.counter, State.retainedReset, State.blocksReset, hlive] using hb
      store := fun hs => by
        have hseqs := s.store.allToPool_seqs
        have hlive := live_of_seqs hseqs
        unfold seqsOf at hseqs
        simpa [State.StoreOk, State.retainedReset, State.blocksReset, hlive, hseqs] using hs
      blank := fun _ h => by
        rw [show (s.retainedReset true).monitor = resetMonitor s.tables from rfl, resetMonitor_settle] at h
        cases h }
  have hrest := s.moves_partReset intact
  rw [h] at hrest
  exact ⟨hreset.trans hrest, s.lasts_partReset intact, fun _ => s.partReset_reports intact⟩

/-- A state that has taken the factory defaults together (R97, R175). -/
structure State.Factory (s t : State) : Prop where
  queue : t.pending = s.pending
  tables : t.tables = Tables.factory
  audit : t.audit = Audit.factory
  bounded : t.Bounded
  balanced : t.Balanced
  store : t.StoreOk
  blank : t.SettlesBlank
  stays : s.Lasts t
  reports : t.reports = []

theorem State.partReset_invalid {s : State} {intact : Bool} (h : (intact && s.tables.valid) = false) :
    s.Factory (s.partReset intact) := by
  have hcredits := s.credits_partReset intact
  have hmoves := s.moves_partReset intact
  rw [h] at hcredits hmoves
  have hzero : ∀ i : CounterIx, (s.retainedReset false).counter i = 0 := fun i => Vector.getElem_replicate i.isLt
  have hbounded : (s.retainedReset false).Bounded := fun i => by
    rw [hzero]
    exact Nat.zero_le _
  have hlive : (s.retainedReset false).store.live = 0 := rfl
  have haudit : (s.partReset intact).audit = Audit.factory := by
    unfold State.partReset State.coilFaultTrip
    rw [h]
    dsimp only
    split <;> rfl
  exact
    { queue := hmoves.queue
      tables := hcredits.tables
      audit := haudit
      bounded := hmoves.bounded hbounded
      balanced := hmoves.balance hbounded fun _ _ _ _ => by
        rw [hzero, hzero, hzero, hzero]
        rfl
      store := hmoves.store ⟨hlive.trans_le (Nat.zero_le _), List.nodup_nil⟩
      blank := hmoves.blank fun (hsettle : (s.blocksReset _ _ _ _).monitor.settle.isSome = true) => by
        rw [State.blocksReset_settle] at hsettle
        cases hsettle
      stays := s.lasts_partReset intact
      reports := s.partReset_reports intact }

/-! ## Every command -/

/-- A command that brings a part reset which finds the retained store invalid. -/
def State.FindsInvalid (s : State) (i : Instr) : Prop :=
  i = .partReset .corrupt ∨ (∃ found, i = .partReset found ∧ s.tables.valid = false)
    ∨ ∃ l x, i = .replySent l x ∧ (x && s.tables.valid) = false
        ∧ ∃ p, (s.link l).pending = some p ∧ p.after = .restart

theorem execPartReset_next (found : Found) (s : State) : ∃ t, exec (.partReset found) s = .next t
    ∧ (s.Event t ∨ s.Factory t ∧ s.FindsInvalid (.partReset found)) := by
  refine ⟨_, rfl, ?_⟩
  cases found with
  | corrupt => exact .inr ⟨State.partReset_invalid rfl, .inl rfl⟩
  | whole =>
    cases hv : s.tables.valid with
    | true => exact .inl (State.partReset_valid (by simp [hv]))
    | false => exact .inr ⟨State.partReset_invalid (by simp [hv]), .inr (.inl ⟨_, rfl, hv⟩)⟩
  | torn c =>
    obtain ⟨hevent, htables⟩ := s.tornBy_event c
    cases hv : s.tables.valid with
    | true => exact .inl (hevent.trans (State.partReset_valid (by simp [htables, hv])))
    | false =>
      have hfactory : (s.tornBy c).Factory ((s.tornBy c).partReset true) :=
        State.partReset_invalid (by simp [htables, hv])
      exact .inr ⟨{ hfactory with
        queue := hfactory.queue.trans hevent.moves.queue, stays := hevent.stays.trans hfactory.stays },
        .inr (.inl ⟨_, rfl, hv⟩)⟩

/-- A link's record replaced by one whose queue is no longer. -/
theorem State.event_setLink (s : State) (l : Link) {k : LinkState} (hk : k.queue.length ≤ (s.link l).queue.length) :
    s.Event (s.setLink l k) := by
  refine .plain (Moves.refl s).setLink
    { tables := by simp [State.TablesOk]
      queues := fun hq => hq.setLink l (hk.trans ((State.queuesOk_iff s).1 hq l))
      late := by simp [State.LateOk]
      feeders := fun hf => hf.of_shrinks (fun b => by simp) (fun b => by simp)
        fun b => (State.isRunning_congr (State.setLink_power s l k) b).trans
      roles := fun hr => hr.of_power (by simp) (by simp) (by simp)
        (fun b _ => (State.isRunning_congr (State.setLink_power s l k) b).trans) (fun b => by simp) }
    (s.setLink_reports l _)

theorem State.event_setLink_next (s : State) (l : Link) {k : LinkState} (hk : k.queue.length ≤ (s.link l).queue.length) :
    s.Event (s.setLink l k.txNext) := s.event_setLink l (k.txNext_queue_le.trans hk)

theorem State.event_requestDone (s : State) (l : Link) : s.Event (s.requestDone l) := s.event_setLink_next l (le_refl _)

theorem State.event_replyDone (s : State) (l : Link) {p : PendingRequest} (intact : Bool) (hafter : p.after ≠ .restart) :
    s.Event (s.replyDone l p intact) := by
  unfold State.replyDone
  split
  · exact s.event_requestDone l
  · have hempty : s.Event (s.emptySnapshot l) := by
      unfold State.emptySnapshot
      split
      · exact .plain (Moves.refl s).setSnapshot (State.Keeps.refl s).setSnapshot.lasts rfl
      · exact .refl s
    exact hempty.trans (State.event_requestDone _ l)
  · exact absurd (by assumption) hafter

theorem execReplySent_next (l : Link) (x : Bool) (s : State) : ∃ t, exec (.replySent l x) s = .next t
    ∧ (s.Event t ∨ s.Factory t ∧ s.FindsInvalid (.replySent l x)) := by
  refine ⟨s.replySent l x, rfl, ?_⟩
  unfold State.replySent
  split
  · split
    next p hp =>
      by_cases hafter : p.after = .restart
      · have hreset : s.replyDone l p x = s.partReset x := by simp [State.replyDone, hafter]
        rw [hreset]
        cases hv : x && s.tables.valid with
        | true => exact .inl (State.partReset_valid hv)
        | false => exact .inr ⟨State.partReset_invalid hv, .inr (.inr ⟨l, x, rfl, hv, p, hp, hafter⟩)⟩
      · exact .inl (s.event_replyDone l x hafter)
    next => exact .inl (s.event_requestDone l)
  · exact .inl (s.event_setLink_next l (le_refl _))
  · exact .inl (.refl s)
  · exact .inl (.refl s)

theorem State.takeRequest_reports (s : State) (l : Link) (r : Request) : (s.takeRequest l r).reports = [] :=
  (State.setLink_reports _ l _).trans (State.drain_reports _)

theorem State.refuse_reports (s : State) (l : Link) (typ : Byte) (why : NakReason) :
    (s.refuse l typ why).reports = s.reports :=
  (State.setLink_reports _ l _).trans (s.setLink_reports l _)

theorem State.event_refuse (s : State) (l : Link) (typ : Byte) (why : NakReason) : s.Event (s.refuse l typ why) :=
  .plain (Moves.refl s).refuse (s.keeps_refuse l typ why).lasts (s.refuse_reports l typ why)

theorem State.event_busyDiscard (s : State) (l : Link) (typ : Byte) : s.Event (s.busyDiscard l typ) := by
  unfold State.busyDiscard
  split
  · exact .refl s
  · exact s.event_setLink l (le_refl _)

theorem State.event_judgeLevel (s : State) (l : Link) (r : Request) : s.Event (s.judgeLevel l r) := by
  unfold State.judgeLevel
  split
  · exact ⟨(Moves.refl s).takeRequest, (s.stays_takeRequest l r).toLasts, fun _ => s.takeRequest_reports l r⟩
  · exact s.event_refuse l _ _

theorem State.event_command (s : State) (l : Link) (r : Request) : s.Event (s.command l r) := by
  unfold State.command
  repeat' split
  · exact s.event_busyDiscard l _
  · exact s.event_judgeLevel l r
  · exact s.event_refuse l _ _

theorem State.event_frameComplete (s : State) (l : Link) (n typ : Byte) (payload : List Byte) (x : Byte) :
    s.Event (s.frameComplete l n typ payload x) := by
  unfold State.frameComplete State.judgeFrame
  repeat' split
  · exact s.event_busyDiscard l _
  · exact s.event_refuse l _ _
  · exact s.event_refuse l _ _
  · exact s.event_judgeLevel l _
  · exact s.event_refuse l _ _

theorem State.event_setRx (s : State) (l : Link) (r : Receiver) : s.Event (s.setRx l r) :=
  s.event_setLink l (le_refl _)

theorem State.event_receive (s : State) (l : Link) (x : Byte) : s.Event (s.receive l x) := by
  unfold State.receive
  split
  · split
    · exact s.event_setRx l _
    · exact .refl s
  · split
    · exact s.event_setRx l _
    · refine (s.event_setRx l .hunt).trans ?_
      unfold State.lengthError
      split
      · exact State.event_busyDiscard _ l _
      · exact State.event_refuse _ l _ _
  · exact s.event_setRx l _
  · exact s.event_setRx l _
  · exact (s.event_setRx l _).trans (State.event_frameComplete _ l _ _ _ _)

theorem State.event_noticeSent (s : State) (l : Link) : s.Event (s.noticeSent l) := by
  unfold State.noticeSent
  split
  · exact s.event_setLink_next l (le_refl _)
  · exact .refl s
  · exact .refl s
  · exact .refl s

/-! ### The chutes and the coils -/

/-- What the intake does by itself makes no report. -/
theorem State.event_setIntake (s : State) (x : Intake) : s.Event (s.setIntake x) :=
  .plain (Moves.refl s).setIntake (State.Keeps.refl s).setIntake.lasts rfl

theorem State.event_setPins (s : State) (x : Pins) : s.Event (s.setPins x) :=
  .plain (Moves.refl s).setPins (State.Keeps.refl s).setPins.lasts rfl

theorem State.event_jam (s : State) (c : Chute) : s.Event (s.jam c) :=
  .plain (Moves.refl s).jam (State.Credits.refl s).setIntake.followCoils.notifyIntake.keeps.lasts rfl

theorem State.event_coilFaultTrip (s : State) : s.Event s.coilFaultTrip := by
  refine .plain (Moves.refl s).coilFaultTrip ?_ s.coilFaultTrip_reports
  unfold State.coilFaultTrip
  split
  · exact (State.Credits.refl s).setIntake.notifyIntake.keeps.lasts
  · exact .refl s

theorem State.event_coinEdge (s : State) (c : Chute) : s.Event (s.coinEdge c) := by
  unfold State.coinEdge
  split
  · exact s.event_setIntake _
  · exact s.event_setIntake _
  · exact .refl s
  · exact .refl s

theorem State.event_validCoin (s : State) (c : Chute) (w : Nat) : s.Event (s.validCoin c w) := by
  refine .plain (Moves.refl s).validCoin ?_ ?_ <;> unfold State.validCoin <;> split
  · exact ((State.Credits.refl s).bump.keeps.lasts.trans (State.stays_mint ..).toLasts).trans
      (State.Credits.refl _).storeChanged.keeps.lasts
  · exact (State.Credits.refl s).bump.bump.notifyIntake.keeps.lasts
  · exact State.storeChanged_reports ..
  · rfl

theorem State.event_coinReleased (s : State) (c : Chute) (n : Nat) : s.Event (s.coinReleased c n) := by
  unfold State.coinReleased State.judgeCoin
  dsimp only
  split
  · exact s.event_jam c
  split
  · exact s.event_setIntake _
  · exact (s.event_setIntake _).trans (State.event_validCoin _ c _)

theorem State.activeEdge_reports (s : State) (u : PulseId) : (s.activeEdge u).reports = s.reports := by
  unfold State.activeEdge
  dsimp only
  repeat' split
  · rfl
  · exact s.setPulse_reports u _
  · exact s.setPulse_reports u _
  · exact s.setPulse_reports u _

/-! ### The checkers -/

/-- A field sync pulse moves its checker, and its checker's report is taken (R139 to R142). -/
theorem State.fieldSync_moves (s : State) (b : Bay) (m n : Nat) :
    Moves s (s.fieldSync b m n) ∧ s.Keeps (s.fieldSync b m n) := by
  unfold State.fieldSync State.checkerReport
  dsimp only
  have hmoves := Moves.refl s
  have hkeeps := State.Keeps.refl s
  repeat' split
  · exact ⟨hmoves.setChecker.lockedReport, hkeeps.setChecker.lockedReport⟩
  · exact ⟨hmoves.setChecker.lostReport, hkeeps.setChecker.lostReport⟩
  · exact ⟨hmoves.setChecker, hkeeps.setChecker⟩
  · exact ⟨hmoves.setChecker, hkeeps.setChecker⟩

/-! ### All of them -/

/-- The command of an event whose reports are taken, when its condition holds, is that event. -/
theorem State.event_drain_if (s : State) {c : Prop} [Decidable c] {a : State} (h : c → Moves s a ∧ s.Keeps a) :
    s.Event (if c then a.drain else s) := by
  split
  next hc => exact .drain (h hc).1 (h hc).2
  next => exact .refl s

/-- A command is an event of its own when its condition holds. -/
theorem State.event_if (s : State) {c : Prop} [Decidable c] {a : State} (h : s.Event a) :
    s.Event (if c then a else s) := by
  split
  · exact h
  · exact .refl s

/-- Every command that is no request, no part reset and no end of a reply is an event. -/
theorem exec_event {i : Instr} (s : State) (hrequest : i.request? = none) (hreset : ∀ f, i ≠ .partReset f)
    (hreply : ∀ l x, i ≠ .replySent l x) : ∃ t, exec i s = .next t ∧ s.Event t := by
  have hmoves := Moves.refl s
  have hkeeps := State.Keeps.refl s
  have hcredits := State.Credits.refl s
  cases i
  case partReset f => exact absurd rfl (hreset f)
  case replySent l x => exact absurd rfl (hreply l x)
  case coinActiveEdge c => exact ⟨_, rfl, (s.event_setPins _).trans (State.event_coinEdge _ c)⟩
  case coinRelease c n => exact ⟨_, rfl, (s.event_setPins _).trans (State.event_if _ (State.event_coinReleased _ c n))⟩
  case maxTimerExpiry c => exact ⟨_, rfl, s.event_if (s.event_jam c)⟩
  case jamReleaseExpiry c =>
    exact ⟨_, rfl, s.event_if (.plain hmoves.setChute.followCoils.notifyIntake
      hcredits.setIntake.followCoils.notifyIntake.keeps.lasts rfl)⟩
  case pullInExpiry c => exact ⟨_, rfl, s.event_setIntake _⟩
  case pwmPeriodBoundary => exact ⟨_, rfl, s.event_setIntake _⟩
  case coilFault v => exact ⟨_, rfl, (s.event_setPins _).trans (State.event_coilFaultTrip _)⟩
  case leadEnd u =>
    show ∃ t, execLeadEnd u s = .next t ∧ _
    unfold execLeadEnd
    repeat' split
    · exact ⟨_, rfl, .plain hmoves.activeEdge hcredits.activeEdge.keeps.lasts (s.activeEdge_reports u)⟩
    · exact ⟨_, rfl, .refl s⟩
    · exact ⟨_, rfl, .refl s⟩
  case activeEnd u =>
    show ∃ t, execActiveEnd u s = .next t ∧ _
    unfold execActiveEnd
    repeat' split
    · exact ⟨_, rfl, .plain hmoves.setPulse hcredits.setPulse.keeps.lasts (s.setPulse_reports u _)⟩
    · exact ⟨_, rfl, .refl s⟩
    · exact ⟨_, rfl, .refl s⟩
  case trailEnd u =>
    obtain ⟨t, ht, hevent, _⟩ := exec_trailEnd_next u s
    exact ⟨t, ht, hevent⟩
  case echo b m =>
    obtain ⟨t, ht, hevent, _⟩ := exec_echo_next b m s
    exact ⟨t, ht, hevent⟩
  case meterActiveEdge b m =>
    exact ⟨_, rfl, .plain hmoves.setPins.setFilter hkeeps.setPins.setFilter.lasts (State.setFilter_reports _ b m _)⟩
  case meterRelease b m =>
    exact ⟨_, rfl, .plain hmoves.setPins.setFilter hkeeps.setPins.setFilter.lasts (State.setFilter_reports _ b m _)⟩
  case echoWindowExpiry b => exact ⟨_, rfl, .drain hmoves.windowExpires hcredits.windowExpires.keeps⟩
  case startWidthExpiry => exact ⟨_, rfl, s.event_if (.plain hmoves.setGate hkeeps.setGate.lasts rfl)⟩
  case firstCompleteDebounce x y z w =>
    refine ⟨_, rfl, ?_⟩
    split
    · exact .refl s
    · exact .plain hmoves.setPins.setPanel hkeeps.setPins.setPanel.lasts rfl
  case switchEvent w e =>
    exact ⟨_, rfl, (s.event_setPins _).trans
      (State.event_drain_if _ fun _ => ⟨(Moves.refl _).takeSwitch, (State.Keeps.refl _).takeSwitch⟩)⟩
  case menuHoldExpiry =>
    exact ⟨_, rfl, s.event_drain_if fun _ => ⟨hmoves.stopMenuHold.menuRequest, hkeeps.setPanel.menuRequest⟩⟩
  case routePulseExpiry w n => exact ⟨_, rfl, .plain hmoves.setRouting hkeeps.setRouting.lasts rfl⟩
  case quietExpiry => exact ⟨_, rfl, s.event_drain_if fun _ => ⟨hmoves.quietExpires, hkeeps.quietExpires⟩⟩
  case resetHoldExpiry b => exact ⟨_, rfl, s.event_drain_if fun hstate => ⟨hmoves.resetHoldEnds, hkeeps.resetHoldEnds hstate⟩⟩
  case bootLimitExpiry b => exact ⟨_, rfl, s.event_drain_if fun _ => ⟨hmoves.crash, hkeeps.crash⟩⟩
  case coolingExpiry b => exact ⟨_, rfl, s.event_drain_if fun hstate => ⟨hmoves.coolingEnds, hkeeps.coolingEnds hstate⟩⟩
  case overcurrent b v =>
    exact ⟨_, rfl, (s.event_setPins _).trans
      (State.event_drain_if _ fun _ => ⟨(Moves.refl _).trip, (State.Keeps.refl _).trip⟩)⟩
  case fieldSyncPulse b n m =>
    refine ⟨_, rfl, ?_⟩
    split
    · exact .refl s
    · obtain ⟨hfield, hstays⟩ := s.fieldSync_moves b n m
      exact .drain hfield hstays
  case fieldGapExpiry b =>
    exact ⟨_, rfl, s.event_drain_if fun _ => ⟨hmoves.setChecker.lostReport, hkeeps.setChecker.lostReport⟩⟩
  case settleExpiry => exact ⟨_, rfl, s.event_drain_if fun _ => ⟨hmoves.settleStops, hkeeps.settleStops⟩⟩
  case audioRampEnd =>
    show ∃ t, execAudioRampEnd s = .next t ∧ _
    unfold execAudioRampEnd
    split
    · exact ⟨_, rfl, .plain (hmoves.trans (Moves.monitor s.monitor.rampFull id)) hkeeps.setMonitor.lasts rfl⟩
    · exact ⟨_, rfl, .drain (hmoves.trans (Moves.monitor s.monitor.mute id)).report hkeeps.setMonitor.report⟩
    · exact ⟨_, rfl, .refl s⟩
    · exact ⟨_, rfl, .refl s⟩
  case frameEnd l x => exact ⟨_, rfl, s.event_if (s.event_receive l x)⟩
  case frameGapTimeout l => exact ⟨_, rfl, s.event_setRx l _⟩
  case stopBitError l => exact ⟨_, rfl, s.event_setRx l _⟩
  case noticeSent l => exact ⟨_, rfl, s.event_noticeSent l⟩
  case serviceKeyChange v => exact ⟨_, rfl, .plain hmoves.keyChange hkeeps.setPins.setKey.lasts rfl⟩
  case byteReceived l x => exact ⟨_, rfl, s.event_receive l x⟩
  all_goals simp [Instr.request?] at hrequest

/-- Every command is answered with a state that an event leaves, or that has taken the factory defaults. -/
theorem exec_next (i : Instr) (s : State) :
    ∃ t, exec i s = .next t ∧ (s.Event t ∨ s.Factory t ∧ s.FindsInvalid i) := by
  cases hrequest : i.request? with
  | some lr => exact ⟨_, exec_of_request hrequest s, .inl (s.event_command _ _)⟩
  | none =>
    by_cases hreset : ∃ f, i = .partReset f
    · obtain ⟨f, rfl⟩ := hreset
      exact execPartReset_next f s
    by_cases hreply : ∃ l x, i = .replySent l x
    · obtain ⟨l, x, rfl⟩ := hreply
      exact execReplySent_next l x s
    obtain ⟨t, ht, hevent⟩ := exec_event s hrequest (fun f e => hreset ⟨f, e⟩) fun l x e => hreply ⟨l, x, e⟩
    exact ⟨t, ht, .inl hevent⟩

/-- What a command comes to is what `exec_next` says. -/
theorem exec_moves_or_resets {i : Instr} {s t : State} (h : exec i s = .next t) :
    Moves s t ∨ s.Factory t ∧ s.FindsInvalid i := by
  obtain ⟨u, hu, hcases⟩ := exec_next i s
  rw [hu] at h
  cases h
  exact hcases.imp_left State.Event.moves

theorem exec_lasts {i : Instr} {s t : State} (h : exec i s = .next t) :
    s.Lasts t ∧ (s.reports = [] → t.reports = []) := by
  obtain ⟨u, hu, hevent | ⟨hfactory, _⟩⟩ := exec_next i s <;> rw [hu] at h <;> cases h
  · exact ⟨hevent.stays, hevent.reports⟩
  · exact ⟨hfactory.stays, fun _ => hfactory.reports⟩

/-! ## The statements that follow -/

/-- Settles O1: a step takes the command in front. -/
theorem stepTakesFrontCommand : Obligations.StepTakesFrontCommand := fun _ _ => rfl

theorem everyCommandCompletes : Claims.EveryCommandCompletes := fun i s => by
  obtain ⟨t, ht, hevent | ⟨hfactory, _⟩⟩ := exec_next i s
  · exact ⟨t, ht, hevent.moves.queue⟩
  · exact ⟨t, ht, hfactory.queue⟩

theorem takeAllDue_next (order : List Instr) (s : State) : ∃ t, takeAllDue order s = .next t ∧ t.pending = s.pending := by
  induction order generalizing s with
  | nil => exact ⟨s, rfl, rfl⟩
  | cons i rest ih =>
    have htake : ∃ u, s.takeDue i = .next u ∧ u.pending = s.pending := by
      by_cases hd : i ∈ s.due
      · rw [State.takeDue_of_due hd]
        exact everyCommandCompletes i s
      · rw [State.takeDue_of_not_due hd]
        exact ⟨s, rfl, rfl⟩
    obtain ⟨u, hu, hqueue⟩ := htake
    obtain ⟨t, ht, hqueue'⟩ := ih u
    exact ⟨t, by rw [takeAllDue_cons_of_next hu, ht], hqueue'.trans hqueue⟩

/-- The coils whose PULL_IN has ended are taken one after another (R18). -/
theorem periodBoundary_next (s : State) : ∃ t, s.periodBoundary = .next t ∧ t.pending = s.pending := by
  have hfold : ∀ (l : List Instr) (v : State), ∃ t, l.foldl (fun r i => match r with
      | .next u => exec i u
      | .fault f => .fault f
      | .refused q => .refused q) (Host.Outcome.next v : Result) = .next t ∧ t.pending = v.pending := by
    intro l
    induction l with
    | nil => exact fun v => ⟨v, rfl, rfl⟩
    | cons i rest ih =>
      intro v
      obtain ⟨u, hu, hqueue⟩ := everyCommandCompletes i v
      obtain ⟨t, ht, hqueue'⟩ := ih u
      exact ⟨t, by rw [List.foldl_cons]; simp only [hu]; exact ht, hqueue'.trans hqueue⟩
  exact hfold _ (s.setIntake { s.intake with activeDuty := s.intake.pendingDuty })

theorem slot_next (s : State) : ∃ t, s.slot = .next t ∧ t.pending = s.pending := by
  have hdrain := (Moves.refl s).drain.queue
  unfold State.slot
  dsimp only
  split
  · obtain ⟨v, hv, hqueue⟩ :=
      periodBoundary_next (s.drain.setPanel (s.drain.panel.slotEnd s.drain.pins.panel)).tickCounts
    obtain ⟨t, ht, hqueue'⟩ := takeAllDue_next (inFreeRank v.choices v.dueGroups).flatten v.drawn
    exact ⟨t, by simp only [State.tick, hv, ht], (hqueue'.trans hqueue).trans hdrain⟩
  · obtain ⟨t, ht, hqueue⟩ := takeAllDue_next
      (s.drain.setPanel (s.drain.panel.slotEnd s.drain.pins.panel)).duePanel
      (s.drain.setPanel (s.drain.panel.slotEnd s.drain.pins.panel))
    exact ⟨t, ht, hqueue.trans hdrain⟩

/-- Settles O2: every command and every slot is answered with a next state. -/
theorem stepsComplete : Obligations.StepsComplete := by
  refine ⟨fun s hs => ?_, everyCommandCompletes⟩
  have hstep : step s = s.slot := by simp [step, hs]
  obtain ⟨t, ht, hqueue⟩ := slot_next s
  exact ⟨hstep, t, hstep.trans ht, hqueue.trans hs⟩

/-- What moves and the factory defaults keep is kept by every step, for a property that reads no panel and no queue. -/
theorem step_keeps_of_moves {P : State → Prop} (hmoves : ∀ s t, Moves s t → P s → P t)
    (hfactory : ∀ s t : State, s.Factory t → P t) {s t : State} (hs : P s) (h : step s = .next t)
    (hqueue : ∀ (s : State) (q : List Instr), P s → P (s.setPending q)) : P t := by
  have keep : ∀ (i : Instr) (s t : State), P s → exec i s = .next t → P t := fun i s t hs h =>
    (exec_moves_or_resets h).elim (fun g => hmoves s t g hs) fun g => hfactory s t g.1
  refine step_keeps keep (fun s t hs h => ?_) hqueue hs h
  exact State.slot_keeps keep (fun s => hmoves _ _ (Moves.refl s).setPanel)
    (fun s => hmoves _ _ (Moves.refl s).tickCounts) (fun s => hmoves _ _ (Moves.refl s).drawn)
    (fun s => hmoves _ _ (Moves.refl s).drain) hs h

/-- Settles O6: moves keep the account, and the factory defaults meet it. -/
theorem stepKeepsTokenAccount : Obligations.StepKeepsTokenAccount := by
  intro s t hbounded hbalanced hstore h
  exact step_keeps_of_moves (P := fun s => s.Bounded ∧ s.Balanced ∧ s.StoreOk)
    (fun _ _ hm hs => ⟨hm.bounded hs.1, hm.balance hs.1 hs.2.1, hm.store hs.2.2⟩)
    (fun _ _ hf => ⟨hf.bounded, hf.balanced, hf.store⟩) ⟨hbounded, hbalanced, hstore⟩ h fun _ _ => id

/-- Settles O7: moves keep a settling monitor blank, and a part reset stops the settle timer. -/
theorem stepKeepsSettlingBlank : Obligations.StepKeepsSettlingBlank := fun _ _ hs h =>
  step_keeps_of_moves (fun _ _ hm => hm.blank) (fun _ _ hf => hf.blank) hs h fun _ _ => id

/-- Settles O12: an advance stops at the maximum, and only a part reset that finds the store invalid takes a counter
back. -/
theorem countersOnlyGrow : Obligations.CountersOnlyGrow := by
  refine ⟨fun s i k _ => ⟨s.bump_counter_self i k, fun j hj => s.bump_counter_other k hj, ?_⟩, fun s t i hb h => ?_⟩
  · show (s.audit.full || decide (s.counter i + k > Config.counterMax)) = true ↔ _
    rw [Bool.or_eq_true, decide_eq_true_iff]
    rfl
  · exact (exec_moves_or_resets h).imp (fun g => ⟨g.grows hb, g.full⟩) fun g => ⟨g.1.audit, g.2⟩

/-- Settles O13: moves keep the tables under a FIXED lock. -/
theorem fixedLockKeepsTables : Obligations.FixedLockKeepsTables := fun _ _ _ hlock h =>
  (exec_moves_or_resets h).imp (fun g => g.fixed hlock) fun g => ⟨g.1.tables, g.2⟩

end Sys2Proof.Machine
end

section
/-! Steps: what every command keeps, the counts of a tick, the samples of a slot and the reset state keep (R28, R97, R120,
R131, R190). -/

namespace Sys2Proof.Machine

/-! ## The parts of a tick -/

@[simp] theorem State.tickCounts_bay (s : State) (b : Bay) :
    s.tickCounts.bay b = { s.bay b with timer := (s.bay b).timer.map Timer.advance } := Vector.getElem_map _ b.isLt

@[simp] theorem State.tickCounts_feeder (s : State) (b : Bay) :
    s.tickCounts.feeder b = { s.feeder b with window := (s.feeder b).window.map Timer.advance } :=
  Vector.getElem_map _ b.isLt

theorem State.keeps_tickCounts (s : State) : s.Keeps s.tickCounts := by
  have hrun : ∀ b, s.tickCounts.isRunning b = s.isRunning b := fun b => by simp [State.isRunning]
  exact
    { tables := rfl
      live := le_refl _
      queues := id
      marks := fun l => by cases l <;> exact id
      late := id
      feeders := fun h => h.of_shrinks (fun b => by rw [State.tickCounts_feeder])
        (fun b => by rw [State.tickCounts_feeder, Feeder.idle_iff, Feeder.idle_iff]; exact id) fun b => (hrun b).trans
      roles := fun h => h.of_power rfl rfl (List.Sublist.refl _) (fun b _ => (hrun b).trans) fun b => by simp }

/-- What every command keeps of the invariants, every step keeps. -/
theorem step_keeps_of_lasts {P : State → Prop} (hlasts : ∀ s t : State, s.Lasts t → P s → P t) {s t : State}
    (hs : P s) (h : step s = .next t) : P t := by
  have keep : ∀ (i : Instr) (s t : State), P s → exec i s = .next t → P t := fun _ s t hs h =>
    hlasts s t (exec_lasts h).1 hs
  have kept : ∀ {s t : State}, s.Keeps t → P s → P t := fun h => hlasts _ _ h.lasts
  refine step_keeps keep (fun s t hs h => ?_) (fun s q => kept (State.Keeps.refl s).setPending) hs h
  exact State.slot_keeps keep (fun s => kept (State.Keeps.refl s).setPanel) (fun s => kept s.keeps_tickCounts)
    (fun s => kept (State.Keeps.refl s).drawn) (fun s => kept (State.Keeps.refl s).drain) hs h

/-- No report is left behind a step. -/
theorem step_reports {s t : State} (hs : s.reports = []) (h : step s = .next t) : t.reports = [] := by
  have keep : ∀ (i : Instr) (s t : State), s.reports = [] → exec i s = .next t → t.reports = [] := fun _ _ _ hs h =>
    (exec_lasts h).2 hs
  refine step_keeps (P := fun s => s.reports = []) keep (fun s t hs h => ?_) (fun s q => id) hs h
  exact State.slot_keeps (P := fun s => s.reports = []) keep (fun s => id) (fun s => id) (fun s => id)
    (fun s _ => s.drain_reports) hs h

/-! ## The invariants -/

/-- Settles O8: every event leaves settings that are valid, and the factory defaults are. -/
theorem stepKeepsTablesInRange : Obligations.StepKeepsTablesInRange := fun _ _ =>
  step_keeps_of_lasts fun _ _ hlasts => hlasts.tables

/-- Settles O9: every event takes its reports, leaves aside one of a power cut at most, and drops notices that a full
queue cannot take. -/
theorem stepKeepsQueuesBounded : Obligations.StepKeepsQueuesBounded := fun _ _ hreports hqueues h =>
  ⟨⟨step_reports hreports.1 h, step_keeps_of_lasts (fun _ _ hlasts => hlasts.late) hreports.2 h⟩,
    step_keeps_of_lasts (fun _ _ hlasts => hlasts.queues) hqueues h⟩

/-- Settles O10: a cut of power returns the units of its bay's feeder, and units are formed for RUNNING bays alone. -/
theorem stepKeepsFeedersPowered : Obligations.StepKeepsFeedersPowered := fun _ _ =>
  step_keeps_of_lasts fun _ _ hlasts => hlasts.feeders

/-- Settles O11: the roles, the warm list and the budget are kept together. -/
theorem stepKeepsLoadWithinBudget : Obligations.StepKeepsLoadWithinBudget := fun _ _ hhandover hwarm hbudget h =>
  have hroles := step_keeps_of_lasts (fun _ _ hlasts => hlasts.roles) ⟨hhandover, hwarm, hbudget⟩ h
  ⟨hroles.handover, hroles.warm, hroles.budget⟩

/-! ## The reset state -/

theorem resetStateHoldsDefaults : Claims.ResetStateHoldsDefaults := by
  refine ⟨rfl, rfl, rfl, rfl, by decide, by decide, rfl, rfl, rfl, rfl, by decide, rfl, rfl, rfl, rfl, rfl, rfl⟩

theorem resetStateMeetsInvariants : Claims.ResetStateMeetsInvariants where
  reportsOk := ⟨rfl, fun _ hr => nomatch hr⟩
  bounded := fun i => by
    have hzero : State.reset.counter i = 0 := Vector.getElem_replicate i.isLt
    rw [hzero]
    exact Nat.zero_le _
  balanced := fun _ _ _ _ => rfl
  storeOk := ⟨Nat.zero_le _, List.nodup_nil⟩
  settlesBlank := fun hsettle => nomatch hsettle
  tablesOk := Tables.factory_valid
  queuesOk := ⟨Nat.zero_le _, Nat.zero_le _⟩
  feedersOk := fun b => by
    have hfeeder : State.reset.feeder b = Feeder.fresh := Vector.getElem_replicate b.isLt
    rw [hfeeder]
    exact ⟨Nat.zero_le _, fun hbusy => absurd rfl hbusy⟩
  warmOk := ⟨List.nodup_nil, fun _ hb => nomatch hb⟩
  handoverOk := fun _ hr => nomatch hr
  withinBudget := by
    have hload : State.reset.committedLoad = 0 := by decide
    unfold State.WithinBudget
    rw [hload]
    exact Nat.zero_le _

/-- Settles O4: the reset state is a value, and it meets each invariant. -/
theorem resetStateIsSafe : Obligations.ResetStateIsSafe := ⟨resetStateHoldsDefaults, resetStateMeetsInvariants⟩

end Sys2Proof.Machine
end

section
/-! The links: a request judged and replied to, frames byte by byte, what the transmitter sends, STATUS and QUERY_BAY
(R181 to R193). -/

namespace Sys2Proof.Machine

/-! ## A link's record -/

@[simp] theorem State.setLink_self (s : State) (l : Link) : s.setLink l (s.link l) = s := by cases l <;> rfl

theorem State.setLink_of_eq {s : State} {l : Link} {k : LinkState} (h : k = s.link l) : s.setLink l k = s := by
  rw [h, s.setLink_self]

/-- What a busy link makes of a frame (R186). -/
theorem State.busyDiscard_eq (s : State) (l : Link) (typ : Byte) :
    s.busyDiscard l typ = s.setLink l { s.link l with mark := some (((s.link l).mark).getD typ) } := by
  unfold State.busyDiscard
  split
  next m hm =>
    have hsame : { s.link l with mark := some (((s.link l).mark).getD typ) } = s.link l := by
      rw [hm, Option.getD_some, ← hm]
    exact (State.setLink_of_eq hsame).symm
  next hm => rw [hm, Option.getD_none]

/-- What a frame refused leaves on its link (R185). -/
theorem State.refuse_eq (s : State) (l : Link) (typ : Byte) (why : NakReason) :
    s.refuse l typ why = s.setLink l ((s.link l).owes typ (.nak typ why) .nothing) := by
  simp [State.refuse, State.reply, State.setPendingRequest, LinkState.owes, Answer.reply]

theorem LinkState.free_iff (k : LinkState) : k.busy = false ↔ k.pending = none ∧ k.mark = none := by
  simp [LinkState.busy]

theorem LinkState.owes_mark (k : LinkState) (typ : Byte) (y : Reply) (after : AfterReply) :
    (k.owes typ y after).mark = k.mark := LinkState.txNext_mark _

/-! ## A request on its link (R185 to R188) -/

theorem State.command_format (s : State) (l : Link) (r : Request) (hfree : (s.link l).busy = false)
    (hwf : r.wf = false) : s.command l r = s.refuse l r.typ .format := by
  simp [State.command, hfree, hwf]

theorem State.judgeLevel_refused {s : State} {l : Link} {r : Request} (h : s.holdsLevel l r = false) :
    s.judgeLevel l r = s.refuse l r.typ .level := by
  simp [State.judgeLevel, h]

theorem State.command_judged (s : State) (l : Link) (r : Request) (hfree : (s.link l).busy = false)
    (hwf : r.wf = true) : s.command l r = s.judgeLevel l r := by
  simp [State.command, hfree, hwf]

theorem linkJudgesRequestFirst : Claims.LinkJudgesRequestFirst := by
  intro s i l r hrequest
  rw [State.Refuses, State.Refuses, exec_of_request hrequest]
  refine ⟨fun hbusy => ?_, fun hfree hwf => ?_, fun hfree hwf hlevel => ?_⟩
  · rw [s.command_busy l r hbusy, State.busyDiscard_eq]
  · rw [s.command_format l r hfree hwf, State.refuse_eq]
  · rw [s.command_judged l r hfree hwf, State.judgeLevel_refused hlevel, State.refuse_eq]

theorem accessLevelFollowsKey : Claims.AccessLevelFollowsKey := by
  intro s l r
  simp [State.holdsLevel, State.operatorLevel]

/-- A request refused owes its NAK. -/
theorem State.refuse_owes {s : State} {l : Link} (hmark : s.Unmarked l) (typ : Byte) (why : NakReason) :
    ∃ p, ((s.refuse l typ why).link l).replying = some p ∧ ((s.refuse l typ why).link l).mark = none := by
  rw [State.refuse_eq, State.link_setLink_same]
  exact ⟨_, LinkState.replying_owes _ _ _ _, (LinkState.owes_mark _ _ _ _).trans hmark⟩

/-- A request taken owes its reply, and nothing that it causes sets the mark. -/
theorem State.takeRequest_owes {s : State} {l : Link} (hmark : s.Unmarked l) (r : Request) :
    ∃ p, ((s.takeRequest l r).link l).replying = some p ∧ ((s.takeRequest l r).link l).mark = none := by
  have hkept : (s.takeRequest l r).Unmarked l := (s.stays_takeRequest l r).marks l hmark
  exact ⟨_, (congrArg LinkState.replying (State.link_setLink _ l _)).trans (LinkState.replying_owes _ _ _ _), hkept⟩

theorem eachRequestOwedOneReply : Claims.EachRequestOwedOneReply := by
  intro s i l r hrequest hfree
  have hmark : s.Unmarked l := ((s.link l).free_iff.1 hfree).2
  have howes : ∃ p, ((s.command l r).link l).replying = some p ∧ ((s.command l r).link l).mark = none := by
    cases hwf : r.wf with
    | false => rw [s.command_format l r hfree hwf]; exact State.refuse_owes hmark _ _
    | true =>
      rw [s.command_judged l r hfree hwf, State.judgeLevel]
      split
      · exact State.takeRequest_owes hmark r
      · exact State.refuse_owes hmark _ _
  obtain ⟨p, hreply, hunmarked⟩ := howes
  exact ⟨_, p, exec_of_request hrequest s, hreply, hunmarked⟩

/-- Settles O14: the busy rule, the tests of R185 one after another, and the mark that a request never sets. -/
theorem linkJudgesRequests : Obligations.LinkJudgesRequests :=
  ⟨linkJudgesRequestFirst, accessLevelFollowsKey, eachRequestOwedOneReply⟩

/-! ## STATUS and QUERY_BAY (R191, R192) -/

set_option maxRecDepth 10000 in
/-- Settles O56: the check of the STATUS frame, and its four bytes. -/
theorem statusFrameCheck : Obligations.StatusFrameCheck := ⟨by decide, by decide⟩

theorem statusReportsAndClearsOverrun : Claims.StatusReportsAndClearsOverrun := by
  intro s l htakes
  let p := s.setPendingRequest l 0x01
  have hsettled : (p.clearOverrun l).Settled := by cases l <;> exact htakes.settled
  have hperform : p.perform l .status = (p.clearOverrun l, .ack (p.statusRecord l)) := rfl
  have hrecord : p.statusRecord l = s.statusRecord l := by cases l <;> rfl
  have hexec : exec (.status l) s = .next (s.takeRequest l .status) :=
    congrArg Host.Outcome.next (State.command_takes htakes)
  rw [hexec, State.takeRequest_next hperform hsettled, hrecord]
  simp only [p, State.clearOverrun, State.setPendingRequest, State.link_setLink_same, State.setLink_setLink]
  rfl

theorem queryBayReports : Claims.QueryBayReports := by
  intro s l bay htakes
  refine ⟨fun hrange => htakes.refuses rfl rfl fun x => State.withBay_outside hrange, fun b hbay =>
    htakes.reads rfl fun x => ?_⟩
  have hrecord : (s.setLink l x).bayRecord b = s.bayRecord b := by cases l <;> rfl
  exact (State.withBay_within hbay).trans (congrArg (fun d => (s.setLink l x, Answer.ack d)) hrecord)

/-- Settles O59: the status record with the overrun flag cleared, and the bay record. -/
theorem statusAndBayReported : Obligations.StatusAndBayReported := ⟨statusReportsAndClearsOverrun, queryBayReports⟩

/-! ## What a link sends (R186, R188, R190, R193) -/

theorem LinkState.place_room {k : LinkState} (n : Notice) (h : k.queue.length < 16) :
    k.place n = { k with queue := k.queue ++ [n] } := if_pos h

theorem LinkState.place_full {k : LinkState} (n : Notice) (h : 16 ≤ k.queue.length) :
    k.place n = { k with overrun := true } := if_neg (Nat.not_lt.2 h)

section
variable {k : LinkState} (htx : k.tx = none)
include htx

/-- An idle transmitter without a request takes up a mark, then the oldest notice (R186, R190). -/
theorem LinkState.txNext_free (hpending : k.pending = none) : k.txNext =
    match k.mark with
    | some typ => { k with tx := some (.busyLink typ) }
    | none => match k.queue with
      | [] => k
      | n :: rest => { k with tx := some (.notice n), queue := rest } := by
  unfold LinkState.txNext
  simp only [htx, hpending] <;> rfl

theorem LinkState.txNext_reply {p : PendingRequest} {y : Reply} (hpending : k.pending = some p)
    (hwaiting : p.waiting = some y) :
    k.txNext = { k with tx := some (.reply y), pending := some { p with waiting := none } } := by
  unfold LinkState.txNext
  rw [htx, hpending]
  simp only [hwaiting]

end

/-- The end of a reply that brings nothing else (R186). -/
theorem State.requestDone_eq (s : State) (l : Link) : s.requestDone l = s.setLink l
    (match (s.link l).mark with
      | some typ => { s.link l with pending := none, tx := some (.busyLink typ) }
      | none => match (s.link l).queue with
        | [] => { s.link l with pending := none, tx := none }
        | n :: rest => { s.link l with pending := none, tx := some (.notice n), queue := rest }) := by
  unfold State.requestDone
  rw [LinkState.txNext_free rfl rfl]

theorem State.replySent_reply {s : State} {l : Link} {y : Reply} {p : PendingRequest}
    (htx : (s.link l).tx = some (.reply y)) (hpending : (s.link l).pending = some p) (intact : Bool) :
    s.replySent l intact = s.replyDone l p intact := by
  unfold State.replySent
  rw [htx, hpending]

theorem State.noticeSent_eq {s : State} {l : Link} {n : Notice} (htx : (s.link l).tx = some (.notice n)) :
    s.noticeSent l = s.setLink l { s.link l with tx := none }.txNext := by
  unfold State.noticeSent
  rw [htx]

/-- The end of the BUSY_LINK refusal clears the mark (R186). -/
theorem State.replySent_busyLink {s : State} {l : Link} {typ : Byte} (htx : (s.link l).tx = some (.busyLink typ))
    (intact : Bool) : s.replySent l intact = s.setLink l { s.link l with tx := none, mark := none }.txNext := by
  unfold State.replySent
  rw [htx]

theorem sendingEndsInOrder : Claims.SendingEndsInOrder := by
  intro s l intact
  have hsent : exec (.replySent l intact) s = .next (s.replySent l intact) := rfl
  rw [hsent]
  refine ⟨fun p y htx hpending hafter => ?_, fun p y v htx hpending hafter hfull howner => ?_,
    fun p y htx hpending hafter => ?_, fun typ htx hpending => ?_, fun n htx => ?_⟩
  · rw [State.replySent_reply htx hpending, State.replyDone, hafter]
    exact congrArg _ (s.requestDone_eq l)
  · have hempty : s.replyDone l p intact = (s.setSnapshot none).requestDone l := by
      simp [State.replyDone, hafter, State.emptySnapshot, State.ownSnapshot_eq_some.2 ⟨hfull, howner⟩]
    rw [State.replySent_reply htx hpending, hempty]
    refine ⟨_, rfl, ?_, ?_, ?_⟩
    · cases l <;> rfl
    · rw [State.requestDone_eq, State.link_setLink_same]
      repeat' split
      all_goals rfl
    · cases l <;> rfl
  · have hreset : s.replyDone l p intact = s.partReset intact := by simp [State.replyDone, hafter]
    rw [State.replySent_reply htx hpending, hreset]
    cases intact <;> rfl
  · rw [State.replySent_busyLink htx]
    exact congrArg (fun k => Host.Outcome.next (s.setLink l k)) (LinkState.txNext_free rfl hpending)
  · have hnotice : exec (.noticeSent l) s = .next (s.noticeSent l) := rfl
    dsimp only
    rw [hnotice, State.noticeSent_eq htx]
    refine ⟨fun p y hpending hwaiting => ?_, fun hpending typ hmark => ?_, fun hpending hmark o rest hqueue => ?_,
      fun hpending hmark hqueue => ?_⟩
    · exact congrArg (fun k => Host.Outcome.next (s.setLink l k)) (LinkState.txNext_reply rfl hpending hwaiting)
    all_goals
      have hnext := LinkState.txNext_free (k := { s.link l with tx := none }) rfl hpending
      refine congrArg (fun k => Host.Outcome.next (s.setLink l k)) (hnext.trans ?_)
      dsimp only
    · rw [hmark]
    · rw [hmark, hqueue]
    · rw [hmark, hqueue]

theorem restartAcknowledgedFirst : Claims.RestartAcknowledgedFirst := by
  intro s l htakes
  have hservice := (accessLevelFollowsKey s l .restart).1 htakes.level
  exact ⟨htakes.reads rfl fun _ => rfl, rfl, hservice.elim (fun h => nomatch h) And.left⟩

/-- Settles O60: each end of a transmission by what waits, the queue's bound, RESTART and the service key. -/
theorem transmitterSendsInOrder : Obligations.TransmitterSendsInOrder :=
  ⟨sendingEndsInOrder, fun _ n => ⟨LinkState.place_room n, LinkState.place_full n⟩, restartAcknowledgedFirst,
    fun _ _ => rfl⟩

end Sys2Proof.Machine
end

section
/-! Frames: requests spelled and read back, the receiver byte by byte, and the frames it refuses (R181 to R186). -/

namespace Sys2Proof

/-! ## Payloads read back (R184, R185) -/

theorem Decoded.none_eq_request {q r : Request} {p : List Byte} (h : Decoded.none q p = .request r) :
    p = [] ∧ r = q := by
  unfold Decoded.none at h
  split at h <;> cases h
  exact ⟨rfl, rfl⟩

theorem Decoded.one_eq_request {f : Byte → Request} {r : Request} {p : List Byte}
    (h : Decoded.one f p = .request r) : ∃ x, p = [x] ∧ r = f x := by
  unfold Decoded.one at h
  split at h <;> cases h
  exact ⟨_, rfl, rfl⟩

theorem Decoded.two_eq_request {f : Byte → Byte → Request} {r : Request} {p : List Byte}
    (h : Decoded.two f p = .request r) : ∃ x y, p = [x, y] ∧ r = f x y := by
  unfold Decoded.two at h
  split at h <;> cases h
  exact ⟨_, _, rfl, rfl⟩

theorem Decoded.three_eq_request {f : Byte → Byte → Byte → Request} {r : Request} {p : List Byte}
    (h : Decoded.three f p = .request r) : ∃ x y z, p = [x, y, z] ∧ r = f x y z := by
  unfold Decoded.three at h
  split at h <;> cases h
  exact ⟨_, _, _, rfl, rfl⟩

/-- A request whose length is given by an argument is taken only when its run suits it. -/
theorem Decoded.sized_eq_request {q r : Request} {required : Option Nat} {n fixed : Nat}
    (h : Decoded.sized q required n = .request r) : r = q ∧ (n + fixed ≤ 60 → lengthSuits required n fixed = true) := by
  unfold Decoded.sized at h
  split at h
  · split at h <;> cases h
    exact ⟨rfl, fun _ => by simp_all [lengthSuits]⟩
  · cases h
    exact ⟨rfl, fun hn => decide_eq_true hn⟩

theorem Decoded.sized_of_suits {q : Request} {required : Option Nat} {n fixed : Nat}
    (h : lengthSuits required n fixed = true) : Decoded.sized q required n = .request q := by
  unfold Decoded.sized
  cases required with
  | none => rfl
  | some m => exact if_pos (by simpa [lengthSuits] using h)

/-! ## Types and payloads (R184, R185) -/

/-- The types of the request table (11). -/
def RequestType (k : Nat) : Prop := (1 ≤ k ∧ k ≤ 8) ∨ (16 ≤ k ∧ k ≤ 22) ∨ (32 ≤ k ∧ k ≤ 41) ∨ k = 47

theorem Request.typ_requestType (r : Request) : RequestType r.typ.toNat := by
  cases r <;> simp [Request.typ, RequestType]

/-- A request spelled is read back. -/
theorem decodeRequest_payload {r : Request} (h : r.wf = true) : decodeRequest r.typ r.payload = .request r := by
  cases r
  case writeProfile => exact Decoded.sized_of_suits (fixed := 2) h
  case writeRoutes => exact Decoded.sized_of_suits (fixed := 4) h
  case writeCabinet => exact Decoded.sized_of_suits (fixed := 1) h
  all_goals rfl

theorem Request.payload_length_le {r : Request} (h : r.wf = true) : r.payload.length ≤ 60 := by
  cases r
  case writeProfile b g fields => exact Laws.Framed.lengthSuits_le (k := 2) (Laws.Framed.profileGroupLength_le g) h
  case writeRoutes b start t n entries => exact Laws.Framed.lengthSuits_le (k := 4) (Laws.Framed.routeEntriesLength_le n) h
  case writeCabinet g fields => exact Laws.Framed.lengthSuits_le (Laws.Framed.cabinetGroupLength_le g) h
  all_goals simp [Request.payload]

/-- What a type and a payload are read as: unknown outside the request table alone, and a request only when it is spelled
so and suits a frame if its payload does. -/
structure Decodes (typ : Byte) (p : List Byte) (d : Decoded) : Prop where
  unknown : d = .unknown ↔ ¬RequestType typ.toNat
  spelled : ∀ r, d = .request r → r.typ = typ ∧ r.payload = p ∧ (p.length ≤ 60 → r.wf = true)

namespace Decodes
variable {typ : Byte} {p : List Byte} {d : Decoded}

/-- A reading that is no request's but refuses a payload of the wrong length. -/
theorem known (hk : RequestType typ.toNat) (hd : d ≠ .unknown)
    (hs : ∀ r, d = .request r → r.typ = typ ∧ r.payload = p ∧ (p.length ≤ 60 → r.wf = true)) : Decodes typ p d :=
  ⟨iff_of_false hd (not_not.2 hk), hs⟩

theorem format (hk : RequestType typ.toNat) : Decodes typ p .format := known hk nofun nofun

theorem none {q : Request} (ht : typ.toNat = q.typ.toNat) (hp : q.payload = []) (hw : q.wf = true) :
    Decodes typ p (.none q p) :=
  known (ht ▸ q.typ_requestType) (by unfold Decoded.none; split <;> exact nofun) fun r hr => by
    obtain ⟨rfl, rfl⟩ := Decoded.none_eq_request hr
    exact ⟨BitVec.eq_of_toNat_eq ht.symm, hp, fun _ => hw⟩

theorem one {f : Byte → Request} (ht : ∀ x, typ.toNat = (f x).typ.toNat) (hp : ∀ x, (f x).payload = [x])
    (hw : ∀ x, (f x).wf = true) : Decodes typ p (.one f p) :=
  known (ht 0 ▸ (f 0).typ_requestType) (by unfold Decoded.one; split <;> exact nofun) fun r hr => by
    obtain ⟨x, rfl, rfl⟩ := Decoded.one_eq_request hr
    exact ⟨BitVec.eq_of_toNat_eq (ht x).symm, hp x, fun _ => hw x⟩

theorem two {f : Byte → Byte → Request} (ht : ∀ x y, typ.toNat = (f x y).typ.toNat)
    (hp : ∀ x y, (f x y).payload = [x, y]) (hw : ∀ x y, (f x y).wf = true) : Decodes typ p (.two f p) :=
  known (ht 0 0 ▸ (f 0 0).typ_requestType) (by unfold Decoded.two; split <;> exact nofun) fun r hr => by
    obtain ⟨x, y, rfl, rfl⟩ := Decoded.two_eq_request hr
    exact ⟨BitVec.eq_of_toNat_eq (ht x y).symm, hp x y, fun _ => hw x y⟩

theorem three {f : Byte → Byte → Byte → Request} (ht : ∀ x y z, typ.toNat = (f x y z).typ.toNat)
    (hp : ∀ x y z, (f x y z).payload = [x, y, z]) (hw : ∀ x y z, (f x y z).wf = true) : Decodes typ p (.three f p) :=
  known (ht 0 0 0 ▸ (f 0 0 0).typ_requestType) (by unfold Decoded.three; split <;> exact nofun)
    fun r hr => by
      obtain ⟨x, y, z, rfl, rfl⟩ := Decoded.three_eq_request hr
      exact ⟨BitVec.eq_of_toNat_eq (ht x y z).symm, hp x y z, fun _ => hw x y z⟩

theorem sized {q : Request} {required : Option Nat} {n : Nat} (fixed : Nat) (ht : typ.toNat = q.typ.toNat)
    (hn : q.payload.length = n + fixed) (hw : lengthSuits required n fixed = true → q.wf = true) :
    Decodes typ q.payload (.sized q required n) :=
  known (ht ▸ q.typ_requestType) (by unfold Decoded.sized; (repeat' split) <;> exact nofun) fun r hr => by
    obtain ⟨rfl, hsuits⟩ := Decoded.sized_eq_request (fixed := fixed) hr
    exact ⟨BitVec.eq_of_toNat_eq ht.symm, rfl, fun hlen => hw (hsuits (hn ▸ hlen))⟩

end Decodes

/-- Tests 3 and 4 of R185, type by type. -/
theorem decodeRequest_decodes (typ : Byte) (p : List Byte) : Decodes typ p (decodeRequest typ p) := by
  unfold decodeRequest
  split
  next ht => exact .none (q := .status) ht rfl rfl
  next ht => exact .one (f := .select) (fun _ => ht) (fun _ => rfl) fun _ => rfl
  next ht => exact .two (f := .transfer) (fun _ _ => ht) (fun _ _ => rfl) fun _ _ => rfl
  next ht => exact .one (f := .voidDoubt) (fun _ => ht) (fun _ => rfl) fun _ => rfl
  next ht => exact .one (f := .queryBay) (fun _ => ht) (fun _ => rfl) fun _ => rfl
  next ht => exact .none (q := .latch) ht rfl rfl
  next ht => exact .two (f := .readCounters) (fun _ _ => ht) (fun _ _ => rfl) fun _ _ => rfl
  next ht => exact .none (q := .freeSnapshot) ht rfl rfl
  next ht => exact .two (f := .readProfile) (fun _ _ => ht) (fun _ _ => rfl) fun _ _ => rfl
  next ht =>
    split
    next b g fields => exact .sized (q := .writeProfile b g fields) 2 ht rfl id
    next => exact .format (ht ▸ .inr (.inl ⟨by decide, by decide⟩))
  next ht => exact .three (f := .readRoutes) (fun _ _ _ => ht) (fun _ _ _ => rfl) fun _ _ _ => rfl
  next ht =>
    split
    next b start t n entries => exact .sized (q := .writeRoutes b start t n entries) 4 ht rfl id
    next => exact .format (ht ▸ .inr (.inl ⟨by decide, by decide⟩))
  next ht => exact .one (f := .readCabinet) (fun _ => ht) (fun _ => rfl) fun _ => rfl
  next ht =>
    split
    next g fields => exact .sized (q := .writeCabinet g fields) 1 ht rfl id
    next => exact .format (ht ▸ .inr (.inl ⟨by decide, by decide⟩))
  next ht => exact .one (f := .setLock) (fun _ => ht) (fun _ => rfl) fun _ => rfl
  next ht => exact .one (f := .enableBay) (fun _ => ht) (fun _ => rfl) fun _ => rfl
  next ht => exact .one (f := .disableBay) (fun _ => ht) (fun _ => rfl) fun _ => rfl
  next ht => exact .two (f := .powerBay) (fun _ _ => ht) (fun _ _ => rfl) fun _ _ => rfl
  next ht => exact .one (f := .armBay) (fun _ => ht) (fun _ => rfl) fun _ => rfl
  next ht => exact .one (f := .clearFault) (fun _ => ht) (fun _ => rfl) fun _ => rfl
  next ht => exact .none (q := .armCoils) ht rfl rfl
  next ht => exact .one (f := .setIntake) (fun _ => ht) (fun _ => rfl) fun _ => rfl
  next ht => exact .one (f := .grant) (fun _ => ht) (fun _ => rfl) fun _ => rfl
  next ht => exact .one (f := .withdraw) (fun _ => ht) (fun _ => rfl) fun _ => rfl
  next ht => exact .one (f := .refundDoubt) (fun _ => ht) (fun _ => rfl) fun _ => rfl
  next ht => exact .none (q := .restart) ht rfl rfl
  next =>
    simp only [imp_false] at *
    exact ⟨iff_of_true rfl (by unfold RequestType; omega), nofun⟩

/-- A payload that no request of its type can have is refused FORMAT (R185 test 4). -/
theorem decodeRequest_eq_format {typ : Byte} {p : List Byte} (hk : RequestType typ.toNat) (hp : p.length ≤ 60)
    (hnone : ∀ r : Request, r.typ = typ → r.payload = p → r.wf = false) : decodeRequest typ p = .format := by
  obtain ⟨hunknown, hspelled⟩ := decodeRequest_decodes typ p
  cases hd : decodeRequest typ p with
  | unknown => exact absurd hk (hunknown.1 hd)
  | format => rfl
  | request r =>
    obtain ⟨htyp, hpayload, hwf⟩ := hspelled r hd
    exact absurd (hwf hp) (by simp [hnone r htyp hpayload])

end Sys2Proof

namespace Sys2Proof.Machine

/-! ## The receiver (R182) -/

@[simp] theorem State.link_setRx (s : State) (l : Link) (r : Receiver) :
    (s.setRx l r).link l = { s.link l with rx := r } := s.link_setLink l _

@[simp] theorem State.setRx_setRx (s : State) (l : Link) (r q : Receiver) : (s.setRx l r).setRx l q = s.setRx l q := by
  cases l <;> rfl

theorem State.setRx_self {s : State} {l : Link} {r : Receiver} (h : (s.link l).rx = r) : s.setRx l r = s :=
  State.setLink_of_eq (by rw [← h])

section
variable {s : State} {l : Link}

theorem State.receive_hunt (h : (s.link l).rx = .hunt) (x : Byte) :
    s.receive l x = s.setRx l (if x = 0xD5 then .length 0 else .hunt) := by
  unfold State.receive
  rw [h]
  dsimp only
  split
  · rfl
  · exact (State.setRx_self h).symm

theorem State.receive_length {g : Nat} (h : (s.link l).rx = .length g) {x : Byte} (hx : x.toNat ≤ 60) :
    s.receive l x = s.setRx l (.typ x 0) := by
  unfold State.receive
  rw [h]
  exact if_pos hx

/-- A length byte above 60 ends its frame (R185 test 1). -/
theorem State.receive_length_error {g : Nat} (h : (s.link l).rx = .length g) {x : Byte} (hx : 60 < x.toNat) :
    s.receive l x = (s.setRx l .hunt).lengthError l := by
  unfold State.receive
  rw [h]
  exact if_neg (Nat.not_le.2 hx)

theorem State.receive_typ {n : Byte} {g : Nat} (h : (s.link l).rx = .typ n g) (x : Byte) :
    s.receive l x = s.setRx l (if n = 0 then .check n x [] 0 else .payload n x [] 0) := by
  unfold State.receive
  rw [h]

theorem State.receive_payload {n typ : Byte} {got : List Byte} {g : Nat} (h : (s.link l).rx = .payload n typ got g)
    (x : Byte) : s.receive l x = s.setRx l
      (if got.length + 1 < n.toNat then .payload n typ (got ++ [x]) 0 else .check n typ (got ++ [x]) 0) := by
  unfold State.receive
  rw [h]

theorem State.receive_check {n typ : Byte} {got : List Byte} {g : Nat} (h : (s.link l).rx = .check n typ got g)
    (x : Byte) : s.receive l x = (s.setRx l .hunt).frameComplete l n typ got x := by
  unfold State.receive
  rw [h]

end

theorem receiverFollowsFrame : Claims.ReceiverFollowsFrame := by
  intro s l x
  exact ⟨fun h => congrArg Host.Outcome.next (State.receive_hunt h x),
    fun _ h hx => congrArg Host.Outcome.next (State.receive_length h hx),
    fun _ _ h => congrArg Host.Outcome.next (State.receive_typ h x),
    fun _ _ _ _ h => congrArg Host.Outcome.next (State.receive_payload h x), rfl, rfl⟩

/-- The bytes of a payload, one after another, fill it (R182). -/
theorem State.receive_payload_run {s : State} {l : Link} {n typ : Byte} (rest got : List Byte)
    (h : (s.link l).rx = .payload n typ got 0) (hne : rest ≠ []) (hlen : got.length + rest.length = n.toNat) :
    rest.foldl (fun t x => State.receive t l x) s = s.setRx l (.check n typ (got ++ rest) 0) := by
  induction rest generalizing s got with
  | nil => exact absurd rfl hne
  | cons x rest ih =>
    rw [List.foldl_cons, State.receive_payload h]
    simp only [List.length_cons] at hlen
    cases rest with
    | nil =>
      have hlast : ¬got.length + 1 < n.toNat := by simp only [List.length_nil] at hlen; omega
      rw [if_neg hlast, List.foldl_nil]
    | cons y rest =>
      have hmore : got.length + 1 < n.toNat := by simp only [List.length_cons] at hlen; omega
      have hlen' : (got ++ [x]).length + (y :: rest).length = n.toNat := by
        simp only [List.length_append, List.length_cons, List.length_nil] at hlen ⊢
        omega
      rw [if_pos hmore, ih (got ++ [x]) (by simp) (by simp) hlen', State.setRx_setRx, List.append_assoc]
      rfl

/-- A frame's bytes up to its check byte leave the receiver in CHECK (R182). -/
theorem State.receive_frame_run {s : State} {l : Link} (typ : Byte) {p : List Byte} (h : (s.link l).rx = .hunt)
    (hp : p.length ≤ 60) : (0xD5#8 :: BitVec.ofNat 8 p.length :: typ :: p).foldl (fun t x => State.receive t l x) s
      = s.setRx l (.check (BitVec.ofNat 8 p.length) typ p 0) := by
  have hn : (BitVec.ofNat 8 p.length).toNat = p.length := by
    rw [BitVec.toNat_ofNat]
    omega
  have hstart : s.receive l 0xD5#8 = s.setRx l (.length 0) := State.receive_hunt h _
  simp only [List.foldl_cons]
  rw [hstart, State.receive_length (g := 0) (x := BitVec.ofNat 8 p.length) (by simp) (by omega), State.setRx_setRx,
    State.receive_typ (n := BitVec.ofNat 8 p.length) (g := 0) (by simp), State.setRx_setRx]
  cases p with
  | nil => rfl
  | cons x rest =>
    have hnonzero : BitVec.ofNat 8 (x :: rest).length ≠ 0 := fun hzero => by
      rw [hzero] at hn
      exact absurd hn (by simp)
    rw [if_neg hnonzero, State.receive_payload_run (n := BitVec.ofNat 8 (x :: rest).length) (typ := typ) (x :: rest) []
      (by simp) (by simp) (by rw [hn]; simp), State.setRx_setRx]
    rfl

/-! ## A frame complete (R185, R186) -/

section
variable {s : State} {l : Link} {n typ : Byte} {got : List Byte}

theorem State.frameComplete_judged (hfree : (s.link l).busy = false) :
    s.frameComplete l n typ got (frameCheck n typ got) = s.judgeFrame l typ got := by
  simp [State.frameComplete, hfree]

theorem State.judgeFrame_request {r : Request} (h : decodeRequest typ got = .request r) :
    s.judgeFrame l typ got = s.judgeLevel l r := by
  rw [State.judgeFrame, h]

theorem State.judgeFrame_format (h : decodeRequest typ got = .format) :
    s.judgeFrame l typ got = s.refuse l typ .format := by
  rw [State.judgeFrame, h]

theorem State.judgeFrame_unknown (h : decodeRequest typ got = .unknown) :
    s.judgeFrame l typ got = s.refuse l typ .unknown := by
  rw [State.judgeFrame, h]

/-- The check byte of a frame that spells a request brings the request (R185). -/
theorem State.frameComplete_request {r : Request} (hfree : (s.link l).busy = false) (hwf : r.wf = true) :
    s.frameComplete l n r.typ r.payload (frameCheck n r.typ r.payload) = s.command l r := by
  rw [State.frameComplete_judged hfree, State.judgeFrame_request (decodeRequest_payload hwf),
    s.command_judged l r hfree hwf]

end

theorem frameBytesCarryRequest : Claims.FrameBytesCarryRequest := by
  intro s l r hwf hhunt hfree
  have hrun := State.receive_frame_run r.typ hhunt (Request.payload_length_le hwf)
  have hframe : r.frame = (0xD5#8 :: BitVec.ofNat 8 r.payload.length :: r.typ :: r.payload)
      ++ [frameCheck (BitVec.ofNat 8 r.payload.length) r.typ r.payload] := rfl
  rw [hframe, List.foldl_append, hrun, List.foldl_cons, List.foldl_nil,
    State.receive_check (n := BitVec.ofNat 8 r.payload.length) (typ := r.typ) (got := r.payload) (g := 0) (by simp),
    State.setRx_setRx, State.setRx_self hhunt]
  exact State.frameComplete_request hfree hwf

/-- Settles O57: the decoder inverts the payload table, and the receiver gathers a frame byte by byte. -/
theorem requestsTravelInFrames : Obligations.RequestsTravelInFrames :=
  ⟨fun _ hwf => ⟨decodeRequest_payload hwf, Request.payload_length_le hwf⟩, frameBytesCarryRequest⟩

/-! ## The byte that ends a frame -/

section
variable {s : State} {l : Link}

theorem exec_frameEnd_check {n typ : Byte} {got : List Byte} {g : Nat} (h : (s.link l).rx = .check n typ got g)
    (x : Byte) : exec (.frameEnd l x) s = .next ((s.setRx l .hunt).frameComplete l n typ got x) := by
  have hends : (s.link l).rx.endsFrame x = true := by rw [h]; rfl
  exact (congrArg Host.Outcome.next (if_pos hends)).trans (congrArg _ (State.receive_check h x))

theorem exec_frameEnd_length {g : Nat} {x : Byte} (h : (s.link l).rx = .length g) (hx : 60 < x.toNat) :
    exec (.frameEnd l x) s = .next ((s.setRx l .hunt).lengthError l) := by
  have hends : (s.link l).rx.endsFrame x = true := by rw [h]; exact decide_eq_true hx
  exact (congrArg Host.Outcome.next (if_pos hends)).trans (congrArg _ (State.receive_length_error h hx))

/-- The receiver does not look at what its link holds. -/
theorem State.setRx_busy (r : Receiver) : ((s.setRx l r).link l).busy = (s.link l).busy := by
  rw [State.link_setRx]
  rfl

end

theorem frameEndTakesRequest : Claims.FrameEndTakesRequest := by
  intro s l n g hfree
  have hfree' : ((s.setRx l .hunt).link l).busy = false := (State.setRx_busy _).trans hfree
  refine ⟨fun i r hrequest hwf hrx => ?_, fun typ got hrx hunknown => ?_⟩
  · rw [exec_frameEnd_check hrx, exec_of_request hrequest, State.frameComplete_request hfree' hwf]
  · rw [exec_frameEnd_check hrx, State.frameComplete_judged hfree', State.judgeFrame_unknown hunknown,
      State.refuse_eq]

theorem frameLengthRefused : Claims.FrameLengthRefused := by
  intro s l n typ got g hfree hrx hlen
  have hfree' : ((s.setRx l .hunt).link l).busy = false := (State.setRx_busy _).trans hfree
  refine ⟨fun hknown hnone => ?_, fun hunknown => ?_⟩
  · rw [exec_frameEnd_check hrx, State.frameComplete_judged hfree',
      State.judgeFrame_format (decodeRequest_eq_format hknown hlen hnone), State.refuse_eq]
  · rw [exec_frameEnd_check hrx, State.frameComplete_judged hfree',
      State.judgeFrame_unknown ((decodeRequest_decodes typ got).unknown.2 hunknown), State.refuse_eq]

theorem frameErrorsRefused : Claims.FrameErrorsRefused := by
  intro s l x
  have hrx := State.setRx_busy (s := s) (l := l) .hunt
  have hmark : ((s.setRx l .hunt).link l).mark = (s.link l).mark := by rw [State.link_setRx]
  refine ⟨fun n typ got g hcheck hwrong => ⟨fun hfree => ?_, fun hbusy => ?_⟩,
    fun g hlength hlong => ⟨fun hfree => ?_, fun hbusy => ?_⟩⟩
  · rw [exec_frameEnd_check hcheck, State.frameComplete, hrx, hfree, if_neg Bool.false_ne_true, if_neg hwrong,
      State.refuse_eq]
  · rw [exec_frameEnd_check hcheck, State.frameComplete, hrx, if_pos hbusy, State.busyDiscard_eq, hmark]
  · rw [exec_frameEnd_length hlength hlong, State.lengthError, hrx, hfree, if_neg Bool.false_ne_true,
      State.refuse_eq]
  · rw [exec_frameEnd_length hlength hlong, State.lengthError, hrx, if_pos hbusy, State.busyDiscard_eq, hmark]

/-- Settles O58: the receiver's states, and each byte that ends a frame by what the frame spells. -/
theorem receiverDropsBadFrames : Obligations.ReceiverDropsBadFrames :=
  ⟨receiverFollowsFrame, frameEndTakesRequest, frameLengthRefused, frameErrorsRefused⟩

end Sys2Proof.Machine
end

section
/-! The fields of the settings as bytes: what a group's fields are read as, and written back (R79, R83, R87, R89, R93,
R184). -/

namespace Sys2Proof.Machine

/-! ## Numbers (R184) -/

theorem byteOf_toNat (x : Byte) : byteOf x.toNat = x := by simp [byteOf]

theorem toNat_byteOf {n : Nat} (h : n ≤ 255) : (byteOf n).toNat = n := by
  rw [byteOf, BitVec.toNat_ofNat]
  omega

theorem twoBytes_wordArg (hi lo : Byte) : twoBytes (wordArg hi lo) = [hi, lo] := by
  have hhi := hi.isLt
  have hlo := lo.isLt
  have hhigh : byteOf (wordArg hi lo / 256) = hi := by
    rw [wordArg, show (hi.toNat * 256 + lo.toNat) / 256 = hi.toNat by omega, byteOf_toNat]
  have hlow : byteOf (wordArg hi lo) = lo := BitVec.eq_of_toNat_eq (by
    rw [byteOf, BitVec.toNat_ofNat, wordArg]
    omega)
  rw [twoBytes, hhigh, hlow]

theorem wordArg_byteOf {n : Nat} (h : n ≤ 65535) : wordArg (byteOf (n / 256)) (byteOf n) = n := by
  rw [wordArg, toNat_byteOf (by omega), byteOf, BitVec.toNat_ofNat]
  omega

/-! ## Named values (R184) -/

/-- A field that is read as one value alone is that value's byte. -/
theorem arg_eq_some {α : Type} {arg : Byte → Option α} {code : α → Byte} (hcode : ∀ v, arg (code v) = some v)
    (harg : ∀ x v, arg x = some v → x.toNat = (code v).toNat) {x : Byte} {v : α} : arg x = some v ↔ x = code v :=
  ⟨fun h => BitVec.eq_of_toNat_eq (harg x v h), fun h => h ▸ hcode v⟩

theorem boolArg_eq_some {x : Byte} {v : Bool} : boolArg x = some v ↔ x = boolByte v :=
  arg_eq_some (fun v => by cases v <;> rfl) fun x v h => by
    unfold boolArg at h
    split at h <;> cases h <;> assumption

theorem classArg_eq_some {x : Byte} {v : LineClass} : classArg x = some v ↔ x = v.code :=
  arg_eq_some (fun v => by cases v <;> rfl) fun x v h => by
    unfold classArg at h
    split at h <;> cases h <;> assumption

theorem polarityArg_eq_some {x : Byte} {v : Polarity} : polarityArg x = some v ↔ x = v.code :=
  arg_eq_some (fun v => by cases v <;> rfl) fun x v h => by
    unfold polarityArg at h
    split at h <;> cases h <;> assumption

theorem coinLineArg_eq_some {x : Byte} {v : CoinLine} : coinLineArg x = some v ↔ x = coinLineByte v :=
  arg_eq_some (fun v => by cases v <;> rfl) fun x v h => by
    unfold coinLineArg at h
    split at h <;> cases h <;> assumption

theorem echoModeArg_eq_some {x : Byte} {v : EchoMode} : echoModeArg x = some v ↔ x = v.code :=
  arg_eq_some (fun v => by cases v <;> rfl) fun x v h => by
    unfold echoModeArg at h
    split at h <;> cases h <;> assumption

theorem leavePolicyArg_eq_some {x : Byte} {v : LeavePolicy} : leavePolicyArg x = some v ↔ x = v.code :=
  arg_eq_some (fun v => by cases v <;> rfl) fun x v h => by
    unfold leavePolicyArg at h
    split at h <;> cases h <;> assumption

theorem payModeArg_eq_some {x : Byte} {v : PayMode} : payModeArg x = some v ↔ x = v.code :=
  arg_eq_some (fun v => by cases v <;> rfl) fun x v h => by
    unfold payModeArg at h
    split at h <;> cases h <;> assumption

theorem arbiterArg_eq_some {x : Byte} {v : ArbiterMode} : arbiterArg x = some v ↔ x = v.code :=
  arg_eq_some (fun v => by cases v <;> rfl) fun x v h => by
    unfold arbiterArg at h
    split at h <;> cases h <;> assumption

theorem switchArg_eq_some {x : Byte} {v : Switch} : switchArg x = some v ↔ x = switchByte v :=
  arg_eq_some (fun v => by
    have hval : (switchByte v).toNat = v.val := toNat_byteOf (by omega)
    simp [switchArg, hval]) fun x v h => by
    unfold switchArg at h
    split at h <;> cases h
    exact (toNat_byteOf (n := x.toNat) (by omega)).symm

theorem optSwitchArg_eq_some {x : Byte} {v : Option Switch} : optSwitchArg x = some v ↔ x = optByte switchByte v := by
  unfold optSwitchArg
  split
  next hnone =>
    cases v with
    | none => exact iff_of_true rfl hnone
    | some w =>
      have hval : (switchByte w).toNat = w.val := toNat_byteOf (by omega)
      refine iff_of_false (fun h => nomatch h) fun h => ?_
      rw [hnone] at h
      have := congrArg BitVec.toNat h
      simp only [optByte, hval] at this
      exact absurd this (by simp; omega)
  next hsome =>
    cases v with
    | none => exact iff_of_false (by simp) hsome
    | some w => simp [switchArg_eq_some, optByte]

/-! ## Groups: what a run of fields names, and back -/

theorem generalArg_fields {fields : List Byte} {g : GeneralGroup} (h : generalArg fields = some g) :
    g.bytes = fields := by
  unfold generalArg at h
  split at h
  · simp only [Option.bind_eq_bind, Option.bind_eq_some_iff, Option.some.injEq, boolArg_eq_some, classArg_eq_some] at h
    obtain ⟨warm, rfl, k, rfl, rfl⟩ := h
    simp [GeneralGroup.bytes, twoBytes_wordArg, byteOf_toNat]
  · cases h

theorem coinArg_fields {fields : List Byte} {g : CoinGroup} (h : coinArg fields = some g) : g.bytes = fields := by
  unfold coinArg at h
  split at h
  · simp only [Option.bind_eq_bind, Option.bind_eq_some_iff, Option.some.injEq, coinLineArg_eq_some,
      polarityArg_eq_some, echoModeArg_eq_some, leavePolicyArg_eq_some] at h
    obtain ⟨line, rfl, pol, rfl, mode, rfl, leave, rfl, rfl⟩ := h
    simp [CoinGroup.bytes, twoBytes_wordArg, byteOf_toNat]
  · cases h

theorem playArg_fields {fields : List Byte} {g : PlayGroup} (h : playArg fields = some g) : g.bytes = fields := by
  unfold playArg at h
  split at h
  · simp only [Option.bind_eq_bind, Option.bind_eq_some_iff, Option.some.injEq, payModeArg_eq_some] at h
    obtain ⟨mode, rfl, rfl⟩ := h
    simp [PlayGroup.bytes, byteOf_toNat]
  · cases h

theorem panelArg_fields {fields : List Byte} {g : PanelGroup} (h : panelArg fields = some g) : g.bytes = fields := by
  unfold panelArg at h
  split at h
  · simp only [Option.bind_eq_bind, Option.bind_eq_some_iff, Option.some.injEq, optSwitchArg_eq_some,
      switchArg_eq_some] at h
    obtain ⟨p1, rfl, p2, rfl, menu, rfl, rfl⟩ := h
    simp [PanelGroup.bytes, twoBytes_wordArg]
  · cases h

theorem systemArg_fields {fields : List Byte} {g : SystemGroup} (h : systemArg fields = some g) :
    g.bytes = fields := by
  unfold systemArg at h
  split at h
  · simp only [Option.bind_eq_bind, Option.bind_eq_some_iff, Option.some.injEq, arbiterArg_eq_some,
      classArg_eq_some] at h
    obtain ⟨arb, rfl, k, rfl, rfl⟩ := h
    simp [SystemGroup.bytes, twoBytes_wordArg, byteOf_toNat]
  · cases h

theorem chuteArg_fields {e w m x1 x0 : Byte} {c : ChuteConfig} (h : chuteArg e w m x1 x0 = some c) :
    c.bytes = [e, w, m, x1, x0] := by
  simp only [chuteArg, Option.bind_eq_bind, Option.bind_eq_some_iff, Option.some.injEq, boolArg_eq_some] at h
  obtain ⟨enabled, rfl, rfl⟩ := h
  simp [ChuteConfig.bytes, twoBytes_wordArg, byteOf_toNat]

theorem chutesArg_fields {fields : List Byte} {v : Vector ChuteConfig 4} (h : chutesArg fields = some v) :
    chutesBytes v = fields := by
  unfold chutesArg at h
  split at h
  · simp only [Option.bind_eq_bind, Option.bind_eq_some_iff, Option.some.injEq] at h
    obtain ⟨a, ha, b, hb, c, hc, d, hd, rfl⟩ := h
    simp [chutesBytes, chuteArg_fields ha, chuteArg_fields hb, chuteArg_fields hc, chuteArg_fields hd]
  · cases h

theorem polaritiesArg_eq_some {fields : List Byte} {ps : List Polarity} :
    polaritiesArg fields = some ps ↔ ps.map Polarity.code = fields := by
  induction fields generalizing ps with
  | nil => cases ps <;> simp [polaritiesArg]
  | cons x rest ih =>
    simp only [polaritiesArg, Option.bind_eq_bind, Option.bind_eq_some_iff, Option.some.injEq, polarityArg_eq_some, ih]
    constructor
    · rintro ⟨p, rfl, qs, rfl, rfl⟩
      rfl
    · intro h
      obtain ⟨p, qs, rfl, rfl, rfl⟩ := List.map_eq_cons_iff.1 h
      exact ⟨p, rfl, qs, rfl, rfl⟩

theorem linesArg_eq_some {fields : List Byte} {v : Vector Polarity 32} :
    linesArg fields = some v ↔ linesBytes v = fields := by
  simp only [linesArg, Option.bind_eq_bind, Option.bind_eq_some_iff, polaritiesArg_eq_some, linesBytes]
  constructor
  · rintro ⟨ps, rfl, hv⟩
    split at hv <;> cases hv
    simp
  · intro h
    exact ⟨v.toList, h, by simp [Vector.toList]⟩

theorem Profile.withGroup_fields {p q : Profile} {g : ProfileGroup} {fields : List Byte}
    (h : p.withGroup g fields = some q) : q.groupBytes g = fields ∧ ∀ k, k ≠ g → q.groupBytes k = p.groupBytes k := by
  cases g <;> simp only [Profile.withGroup, Option.map_eq_some_iff, Option.filter_eq_some_iff] at h <;>
    obtain ⟨x, hx, rfl⟩ := h
  case general =>
    exact ⟨generalArg_fields hx.1, fun k hk => by cases k <;> first | rfl | exact absurd rfl hk⟩
  case coin => exact ⟨coinArg_fields hx.1, fun k hk => by cases k <;> first | rfl | exact absurd rfl hk⟩
  case play => exact ⟨playArg_fields hx.1, fun k hk => by cases k <;> first | rfl | exact absurd rfl hk⟩
  case lines => exact ⟨linesArg_eq_some.1 hx, fun k hk => by cases k <;> first | rfl | exact absurd rfl hk⟩

theorem Cabinet.withGroup_fields {c d : Cabinet} {g : CabinetGroup} {fields : List Byte} (s : State) :
    c.withGroup g fields = some d → (s.setCabinet d).cabinetBytes g = (match g with
        | .chutes => fields
        | .panel => fields
        | .system => fields ++ [boolByte s.flags.intakeOpen])
      ∧ ∀ k, k ≠ g → (s.setCabinet d).cabinetBytes k = (s.setCabinet c).cabinetBytes k := by
  intro h
  cases g <;> simp only [Cabinet.withGroup, Option.map_eq_some_iff, Option.filter_eq_some_iff] at h <;>
    obtain ⟨x, hx, rfl⟩ := h
  case chutes => exact ⟨chutesArg_fields hx.1, fun k hk => by cases k <;> first | rfl | exact absurd rfl hk⟩
  case panel => exact ⟨panelArg_fields hx.1, fun k hk => by cases k <;> first | rfl | exact absurd rfl hk⟩
  case system =>
    exact ⟨congrArg (· ++ [boolByte s.flags.intakeOpen]) (systemArg_fields hx.1),
      fun k hk => by cases k <;> first | rfl | exact absurd rfl hk⟩

/-! ## Groups in range, read from their own fields -/

theorem within_iff {lo hi n : Nat} : within lo hi n = true ↔ lo ≤ n ∧ n ≤ hi := by simp [within]

theorem GeneralGroup.arg_bytes {g : GeneralGroup} (h : g.valid = true) : generalArg g.bytes = some g := by
  simp only [GeneralGroup.valid, Bool.and_eq_true, decide_eq_true_eq, within_iff] at h
  obtain ⟨⟨⟨⟨⟨htag, -⟩, hload⟩, hboot⟩, hhold⟩, hattempts⟩ := h
  obtain ⟨tag, load, boot, hold, warm, k, attempts⟩ := g
  match tag, htag with
  | [t0, t1, t2, t3, t4, t5, t6, t7], _ =>
    simp only at hload hboot hhold hattempts
    simp [GeneralGroup.bytes, generalArg, twoBytes, boolArg_eq_some.2 rfl, classArg_eq_some.2 rfl,
      toNat_byteOf (n := load) (by omega), toNat_byteOf (n := boot) (by omega),
      toNat_byteOf (n := attempts) (by omega), wordArg_byteOf (n := hold) (by omega)]

theorem CoinGroup.arg_bytes {g : CoinGroup} (h : g.valid = true) : coinArg g.bytes = some g := by
  simp only [CoinGroup.valid, Bool.and_eq_true, decide_eq_true_eq, within_iff] at h
  obtain ⟨⟨⟨⟨⟨hrate, hlead⟩, hactive⟩, htrail⟩, hwindow⟩, -⟩ := h
  simp [CoinGroup.bytes, coinArg, twoBytes, coinLineArg_eq_some.2 rfl, polarityArg_eq_some.2 rfl,
    echoModeArg_eq_some.2 rfl, leavePolicyArg_eq_some.2 rfl, toNat_byteOf (n := g.rate) (by omega),
    toNat_byteOf (n := g.lead) (by omega), toNat_byteOf (n := g.active) (by omega),
    wordArg_byteOf (n := g.trail) (by omega), wordArg_byteOf (n := g.window) (by omega)]

theorem PlayGroup.arg_bytes {g : PlayGroup} (h : g.valid = true) : playArg g.bytes = some g := by
  simp only [PlayGroup.valid, Bool.and_eq_true, within_iff] at h
  obtain ⟨hprice, hwidth⟩ := h
  simp [PlayGroup.bytes, playArg, payModeArg_eq_some.2 rfl, toNat_byteOf (n := g.price) (by omega),
    toNat_byteOf (n := g.startWidth) (by omega)]

theorem Profile.withGroup_groupBytes {p : Profile} (h : p.valid = true) (g : ProfileGroup) :
    p.withGroup g (p.groupBytes g) = some p := by
  simp only [Profile.valid, Bool.and_eq_true] at h
  obtain ⟨⟨hgeneral, hcoin⟩, hplay⟩ := h
  cases g with
  | general => simp [Profile.withGroup, Profile.groupBytes, GeneralGroup.arg_bytes hgeneral, hgeneral]
  | coin => simp [Profile.withGroup, Profile.groupBytes, CoinGroup.arg_bytes hcoin, hcoin]
  | play => simp [Profile.withGroup, Profile.groupBytes, PlayGroup.arg_bytes hplay, hplay]
  | lines => simp [Profile.withGroup, Profile.groupBytes, linesArg_eq_some.2 rfl]

/-! ## Route entries (R184) -/

/-- The first byte of a route entry: the switch below bit 6, and PULSE in bit 7. -/
theorem Route.bytes_eq (r : Route) : ∃ x, r.bytes = [x, byteOf r.line.val, byteOf r.width]
    ∧ x.getLsbD 6 = false ∧ x.getLsbD 7 = decide (r.mode = .pulse) ∧ x.toNat % 64 = r.switch.val := by
  obtain ⟨switch, line, mode, width⟩ := r
  cases mode
  · exact ⟨byteOf (switch.val + 0), rfl, (by decide : ∀ w : Switch, (byteOf (w.val + 0)).getLsbD 6 = false
      ∧ (byteOf (w.val + 0)).getLsbD 7 = false ∧ (byteOf (w.val + 0)).toNat % 64 = w.val) switch⟩
  · exact ⟨byteOf (switch.val + 128), rfl, (by decide : ∀ w : Switch, (byteOf (w.val + 128)).getLsbD 6 = false
      ∧ (byteOf (w.val + 128)).getLsbD 7 = true ∧ (byteOf (w.val + 128)).toNat % 64 = w.val) switch⟩

theorem routeArg_bytes {r : Route} (h : 10 ≤ r.width ∧ r.width ≤ 255) :
    ∃ x y z, r.bytes = [x, y, z] ∧ routeArg x y z = some r := by
  obtain ⟨x, hbytes, h6, h7, hswitch⟩ := r.bytes_eq
  have hline : (byteOf r.line.val).toNat = r.line.val := toNat_byteOf (by omega)
  have hwidth : (byteOf r.width).toNat = r.width := toNat_byteOf h.2
  refine ⟨x, _, _, hbytes, ?_⟩
  unfold routeArg
  rw [h6, if_neg Bool.false_ne_true, dif_pos (hline.trans_lt r.line.isLt), if_pos (h.1.trans_eq hwidth.symm)]
  simp only [h7, hswitch, hline, hwidth]
  obtain ⟨switch, line, mode, width⟩ := r
  cases mode <;> rfl

theorem routesArg_bytes_cons {r : Route} (h : 10 ≤ r.width ∧ r.width ≤ 255) (rest : List Byte) :
    routesArg (r.bytes ++ rest) = (routesArg rest).map (r :: ·) := by
  obtain ⟨x, y, z, hbytes, hroute⟩ := routeArg_bytes h
  simp only [hbytes, List.cons_append, List.nil_append, routesArg, hroute]
  cases routesArg rest <;> rfl

theorem routesArg_bytes {m : List Route} (h : ∀ r ∈ m, 10 ≤ r.width ∧ r.width ≤ 255) :
    routesArg (m.flatMap Route.bytes) = some m := by
  induction m with
  | nil => rfl
  | cons r rest ih =>
    rw [List.flatMap_cons, routesArg_bytes_cons (h r (by simp)), ih fun q hq => h q (by simp [hq])]
    rfl

/-- Settles O31: each group's fields read and written back, and the route entries. -/
theorem groupFieldsReadBack : Obligations.GroupFieldsReadBack :=
  ⟨fun _ _ _ _ h => ⟨(Profile.withGroup_fields h).1, (Profile.withGroup_fields h).2, fun hp => Profile.withGroup_valid hp h⟩,
    fun _ g hp => Profile.withGroup_groupBytes hp g, fun _ _ _ _ h s => Cabinet.withGroup_fields s h,
    fun _ => routesArg_bytes⟩

end Sys2Proof.Machine
end

section
/-! The writes of settings: WRITE_PROFILE, WRITE_ROUTES, WRITE_CABINET and SET_LOCK (R79, R80, R87, R89, R94). -/

namespace Sys2Proof.Machine

/-! ## Notices one after another (R190) -/

theorem State.link_foldl_notify (s : State) (ns : List Notice) (l : Link) :
    (ns.foldl State.notify s).link l = (s.link l).toldAll ns := by
  induction ns generalizing s with
  | nil => rfl
  | cons n ns ih => rw [List.foldl_cons, ih, State.link_notify]; rfl

/-- Notices change nothing but the links. -/
theorem State.foldl_notify_frame (s : State) (ns : List Notice) :
    ns.foldl State.notify s = { s with links := (ns.foldl State.notify s).links } := by
  induction ns generalizing s with
  | nil => rfl
  | cons n ns ih => exact ih (s.notify n)

/-- A request acknowledged once its event has ended, each link having been told notices (R188, R190). -/
theorem State.takeRequest_answers {s u : State} {l : Link} {r : Request} {data : List Byte} {ns : List Notice}
    (hp : (s.setPendingRequest l r.typ).perform l r = (u, .ack data))
    (hlink : ∀ m, u.drain.link m = ((s.setPendingRequest l r.typ).link m).toldAll ns) :
    s.Answers (s.takeRequest l r) l r data ns
      ∧ s.takeRequest l r = { u.drain with links := (s.takeRequest l r).links } := by
  have htake : s.takeRequest l r = u.drain.reply l r.typ (.ack data) (s.afterReply l r) := by
    unfold State.takeRequest
    rw [hp]
  rw [htake]
  refine ⟨⟨?_, fun m hm => ?_⟩, by cases l <;> rfl⟩
  · rw [State.reply, State.link_setLink_same, hlink, State.setPendingRequest, State.link_setLink_same,
      LinkState.toldAll_pending _ _ rfl]
    rfl
  · rw [State.reply, State.link_setLink_other _ _ hm, hlink, State.setPendingRequest,
      State.link_setLink_other _ _ hm]

/-! ## SET_LOCK (R94) -/

theorem State.askSetLock_range {s : State} {v : Byte} (h : 2 < v.toNat) : s.askSetLock v = (s, .nak .range) := by
  have hnone : lockArg v = none := by
    obtain ⟨n, hn⟩ := Nat.exists_eq_add_of_le' h
    rw [lockArg, hn]
    rfl
  rw [State.askSetLock, hnone]

theorem State.askSetLock_eq {s : State} {v : Byte} {k : Lock} (h : lockArg v = some k) : s.askSetLock v =
    if s.tables.lock = .fixed then (s, .nak .locked) else (s.setTables { s.tables with lock := k }, .ack []) := by
  rw [State.askSetLock, h]

/-- Settles O36: the tests of R94 one after another. -/
theorem setLockMovesUnlessFixed : Obligations.SetLockMovesUnlessFixed := by
  intro s l v htakes
  refine ⟨fun hrange => htakes.refuses rfl rfl fun x => State.askSetLock_range hrange, fun k hk => ⟨fun hfixed =>
    htakes.refuses rfl rfl fun x => ?_, fun hfree => ?_⟩⟩
  · exact (State.askSetLock_eq hk).trans (if_pos (by rw [State.setLink_tables, hfixed]))
  · refine htakes.changes (u := s.setTables { s.tables with lock := k }) rfl htakes.settled rfl fun x => ?_
    refine (State.askSetLock_eq hk).trans ((if_neg (by rwa [State.setLink_tables])).trans ?_)
    cases l <;> rfl

/-! ## WRITE_PROFILE (R79, R80) -/

/-- Profiles and route maps may be written of a bay that is OFF, DISABLED or FAULTED with its feeder IDLE (R80, R87). -/
theorem State.writable_iff (s : State) (b : Bay) : s.writable b = true ↔
    ((s.bay b).state = .off ∨ (s.bay b).state = .disabled ∨ (s.bay b).state = .faulted)
      ∧ (s.feeder b).state = .idle := by
  unfold State.writable
  cases (s.bay b).state <;> simp

@[simp] theorem State.setLink_writable (s : State) (l : Link) (x : LinkState) (b : Bay) :
    (s.setLink l x).writable b = s.writable b := by cases l <;> rfl

section
variable {s : State} {bay group : Byte} {fields : List Byte} {b : Bay} {g : ProfileGroup}

theorem State.askWriteProfile_range (h : 7 < bay.toNat ∨ 3 < group.toNat) :
    s.askWriteProfile bay group fields = (s, .nak .range) := by
  unfold State.askWriteProfile
  rcases h with hbay | hgroup
  · rw [bayArg_outside hbay]
  · rw [profileGroupArg_outside hgroup]
    cases bayArg bay <;> rfl

theorem State.askWriteProfile_within (hbay : bay.toNat = b.val) (hgroup : profileGroupArg group = some g) :
    s.askWriteProfile bay group fields = s.writeProfile b g fields := by
  rw [State.askWriteProfile, bayArg_within hbay, hgroup]

theorem State.writeProfile_locked (h : s.tables.lock ≠ .opened) : s.writeProfile b g fields = (s, .nak .locked) :=
  if_pos h

theorem State.writeProfile_busy (h : s.tables.lock = .opened) (hw : s.writable b = false) :
    s.writeProfile b g fields = (s, .nak .busy) := by
  simp [State.writeProfile, h, hw]

theorem State.writeProfile_opened (h : s.tables.lock = .opened) (hw : s.writable b = true) :
    s.writeProfile b g fields = match (s.profile b).withGroup g fields with
      | some p => (s.setProfile b p, .ack [])
      | none => (s, .nak .range) :=
  (if_neg (not_not.2 h)).trans (if_neg (by simp [hw]))

end

/-- Settles O32: the tests of R80 one after another, then the group replaced. -/
theorem writeProfileReplacesGroup : Obligations.WriteProfileReplacesGroup := by
  intro s l bay group fields i r htakes
  refine ⟨fun hrange => htakes.refuses rfl rfl fun x => State.askWriteProfile_range hrange,
    fun b g hbay hgroup => ⟨fun hlock => htakes.refuses rfl rfl fun x => ?_, fun hlock => ?_⟩⟩
  · exact (State.askWriteProfile_within hbay hgroup).trans (State.writeProfile_locked (by rwa [State.setLink_tables]))
  have hbusy : s.writable b = false → s.Refuses i l r .busy := fun hw =>
    htakes.refuses rfl rfl fun x => (State.askWriteProfile_within hbay hgroup).trans
      (State.writeProfile_busy (by rwa [State.setLink_tables]) (by rwa [State.setLink_writable]))
  refine ⟨fun hoff hdisabled hfaulted => hbusy ?_, fun hfeeder => hbusy ?_, fun hstate hidle => ?_⟩
  · rw [Bool.eq_false_iff, ne_eq, State.writable_iff]
    exact fun hw => hw.1.elim hoff (Or.rec hdisabled hfaulted)
  · rw [Bool.eq_false_iff, ne_eq, State.writable_iff]
    exact fun hw => hfeeder hw.2
  have hopen (x : LinkState) : (s.setLink l x).perform l r = match (s.profile b).withGroup g fields with
      | some p => ((s.setLink l x).setProfile b p, .ack [])
      | none => (s.setLink l x, .nak .range) := by
    rw [← State.setLink_profile s l x]
    exact (State.askWriteProfile_within hbay hgroup).trans (State.writeProfile_opened (by rwa [State.setLink_tables])
      (by rw [State.setLink_writable]; exact (s.writable_iff b).2 ⟨hstate, hidle⟩))
  refine ⟨fun hnone => htakes.refuses rfl rfl fun x => ?_, fun q hq =>
    htakes.changes (u := s.setProfile b q) rfl htakes.settled rfl fun x => ?_⟩
  · rw [hopen, hnone]
  · rw [hopen, hq]
    cases l <;> rfl

/-! ## WRITE_ROUTES (R87) -/

theorem routesArg_length {bytes : List Byte} {es : List Route} (h : routesArg bytes = some es) :
    bytes.length = 3 * es.length := by
  induction bytes using routesArg.induct generalizing es with
  | case1 => cases h; rfl
  | case2 x line width rest ih =>
    simp only [routesArg, Option.bind_eq_bind, Option.bind_eq_some_iff, Option.some.injEq] at h
    obtain ⟨r, -, rs, hrs, rfl⟩ := h
    have := ih hrs
    simp only [List.length_cons]
    omega
  | case3 bytes hnil hcons => simp [routesArg] at h

section
variable (old es : List Route) {start : Nat} (cut : Bool) (h : start ≤ old.length)
include h

theorem writtenRoutes_length : (writtenRoutes old start cut es).length =
    if cut then start + es.length else max old.length (start + es.length) := by
  unfold writtenRoutes
  cases cut
  · simp
    omega
  · simp [h]

theorem writtenRoutes_before {k : Nat} (hk : k < start) : (writtenRoutes old start cut es)[k]? = old[k]? := by
  have htake : k < (old.take start).length := by simp; omega
  rw [writtenRoutes, List.append_assoc, List.getElem?_append_left htake, List.getElem?_take_of_lt hk]

theorem writtenRoutes_within {k : Nat} (hk : k < es.length) : (writtenRoutes old start cut es)[start + k]? = es[k]? := by
  have htake : (old.take start).length = start := by simp [h]
  rw [writtenRoutes, List.append_assoc, List.getElem?_append_right (by omega), htake, Nat.add_sub_cancel_left,
    List.getElem?_append_left hk]

theorem writtenRoutes_behind {k : Nat} (hk : start + es.length ≤ k) :
    (writtenRoutes old start false es)[k]? = old[k]? := by
  have htake : (old.take start ++ es).length = start + es.length := by simp [h]
  rw [writtenRoutes, List.getElem?_append_right (by omega), htake, if_neg Bool.false_ne_true, List.getElem?_drop,
    Nat.add_sub_cancel' hk]

end

section
variable {s : State} {bay start truncate count : Byte} {entries : List Byte} {b : Bay} {cut : Bool}

theorem boolArg_outside {x : Byte} (h : 1 < x.toNat) : boolArg x = none := by
  obtain ⟨n, hn⟩ := Nat.exists_eq_add_of_le' h
  rw [boolArg, hn]
  rfl

theorem boolArg_within {x : Byte} {v : Bool} (h : x.toNat = v.toNat) : boolArg x = some v :=
  boolArg_eq_some.2 (BitVec.eq_of_toNat_eq (by rw [h]; cases v <;> rfl))

theorem State.askWriteRoutes_range (h : 7 < bay.toNat ∨ 1 < truncate.toNat ∨ count.toNat < 1 ∨ 18 < count.toNat) :
    s.askWriteRoutes bay start truncate count entries = (s, .nak .range) := by
  unfold State.askWriteRoutes
  rcases h with hbay | hcut | hcount
  · rw [bayArg_outside hbay]
  · rw [boolArg_outside hcut]
    cases bayArg bay <;> rfl
  · rw [numberArg_outside hcount]
    cases bayArg bay <;> cases boolArg truncate <;> rfl

theorem State.askWriteRoutes_within (hbay : bay.toNat = b.val) (hcut : truncate.toNat = cut.toNat)
    (h1 : 1 ≤ count.toNat) (h18 : count.toNat ≤ 18) :
    s.askWriteRoutes bay start truncate count entries = s.writeRoutes b start.toNat cut entries := by
  rw [State.askWriteRoutes, bayArg_within hbay, boolArg_within hcut, numberArg_within h1 h18]

/-- A WRITE_ROUTES that may write, by the tests of R87 from the fourth on. -/
theorem State.writeRoutes_opened {n : Nat} (hlock : s.tables.lock = .opened) (hw : s.writable b = true) :
    s.writeRoutes b n cut entries =
      if (s.routeMap b).length < n then (s, .nak .range)
      else match routesArg entries with
        | none => (s, .nak .range)
        | some es => if routeMapValid (writtenRoutes (s.routeMap b) n cut es)
          then (s.setRoutes b (writtenRoutes (s.routeMap b) n cut es), .ack []) else (s, .nak .range) :=
  (if_neg (not_not.2 hlock)).trans (if_neg (by simp [hw]))

end

/-- Settles O34: the tests of R87 one after another, with the list that results as the run. -/
theorem writeRoutesReplacesRun : Obligations.WriteRoutesReplacesRun := by
  intro s l bay start truncate count entries i r htakes
  refine ⟨fun hrange => htakes.refuses rfl rfl fun x => State.askWriteRoutes_range hrange,
    fun b cut hbay hcut h1 h18 => ?_⟩
  have hwithin (x : LinkState) : (s.setLink l x).perform l r = (s.setLink l x).writeRoutes b start.toNat cut entries :=
    State.askWriteRoutes_within hbay hcut h1 h18
  refine ⟨fun hlock => htakes.refuses rfl rfl fun x => ?_, fun hlock hw => htakes.refuses rfl rfl fun x => ?_,
    fun hlock hw => ?_⟩
  · rw [hwithin]
    exact if_pos (by rwa [State.setLink_tables])
  · rw [hwithin]
    simp [State.writeRoutes, hlock, hw]
  have hopened (x : LinkState) := State.writeRoutes_opened (s := s.setLink l x) (b := b) (cut := cut)
    (entries := entries) (n := start.toNat) (by rwa [State.setLink_tables]) (by rwa [State.setLink_writable])
  simp only [← hwithin, State.setLink_routeMap] at hopened
  refine ⟨fun hpast => htakes.refuses rfl rfl fun x => (hopened x).trans (if_pos hpast),
    fun hstart hnone => htakes.refuses rfl rfl fun x => ?_, fun hstart es hes => ?_⟩
  · rw [hopened, if_neg (Nat.not_lt.2 hstart), hnone]
  have hcount : es.length = count.toNat := by
    have hlength := routesArg_length hes
    have hwf : entries.length = 3 * count.toNat := by
      simpa [r, Request.wf, lengthSuits, routeEntriesLength, h1, h18] using htakes.wf
    omega
  refine ⟨writtenRoutes (s.routeMap b) start.toNat cut es, hcount ▸ writtenRoutes_length _ es cut hstart,
    fun k => writtenRoutes_before _ es cut hstart, fun k hk => writtenRoutes_within _ es cut hstart (hcount ▸ hk),
    fun hkeep k hk => ?_, fun hinvalid => htakes.refuses rfl rfl fun x => ?_, fun hvalid =>
    htakes.changes (u := s.setRoutes b (writtenRoutes (s.routeMap b) start.toNat cut es)) rfl htakes.settled rfl
      fun x => ?_⟩
  · rw [hkeep]
    exact writtenRoutes_behind _ es hstart (hcount ▸ hk)
  · rw [hopened, if_neg (Nat.not_lt.2 hstart), hes]
    simp only [hinvalid, Bool.false_eq_true, if_false]
  · rw [hopened, if_neg (Nat.not_lt.2 hstart), hes]
    simp only [hvalid, if_true]
    cases l <;> rfl

end Sys2Proof.Machine
end

section
/-! WRITE_CABINET: the chutes, the duty, closure and the notices of a write taken (R6, R15, R17, R19, R89). -/

namespace Sys2Proof.Machine

/-! ## A chute's record -/

@[simp] theorem State.chute_setChute_same (s : State) (c : Chute) (r : ChuteRecord) : (s.setChute c r).chute c = r :=
  Vector.getElem_set_self c.isLt

theorem State.chute_setChute_other (s : State) {c d : Chute} (r : ChuteRecord) (h : d ≠ c) :
    (s.setChute c r).chute d = s.chute d := Vector.getElem_set_ne c.isLt d.isLt fun e => h (Fin.ext e.symm)

theorem State.setChute_self (s : State) (c : Chute) : s.setChute c (s.chute c) = s := by
  have hset : s.intake.chutes.set c (s.chute c) = s.intake.chutes := Vector.set_getElem_self c.isLt
  show s.setIntake { s.intake with chutes := s.intake.chutes.set c (s.chute c) } = s
  rw [hset]
  rfl

/-! ## The chutes of a write (R1, R6) -/

/-- A chute's record as a chutes-group write leaves it, `was` being its enabled field before (R1, R6). -/
def State.appliedChute (s : State) (was : Bool) (c : Chute) : ChuteRecord :=
  if (s.chuteConfig c).enabled = was then s.chute c
  else ChuteRecord.fresh (chuteStart (s.chuteConfig c).enabled s.pins.coin[c])

theorem State.applyChute_eq (s : State) (was : Bool) (c : Chute) :
    s.applyChute was c = s.setChute c (s.appliedChute was c) := by
  unfold State.applyChute State.appliedChute
  split
  · exact (s.setChute_self c).symm
  · rfl

/-- A run of chutes takes the write chute by chute, and nothing else changes. -/
theorem State.applyChutes_run (was : Vector ChuteConfig 4) (cs : List Chute) (hcs : cs.Nodup) (s : State) :
    let t := cs.foldl (fun s c => s.applyChute was[c].enabled c) s
    t = s.setIntake { s.intake with chutes := t.intake.chutes }
      ∧ ∀ d, t.chute d = if d ∈ cs then s.appliedChute was[d].enabled d else s.chute d := by
  induction cs generalizing s with
  | nil => exact ⟨rfl, fun d => rfl⟩
  | cons c cs ih =>
    obtain ⟨hnot, hnodup⟩ := List.nodup_cons.1 hcs
    obtain ⟨hframe, hchute⟩ := ih hnodup (s.applyChute was[c].enabled c)
    rw [State.applyChute_eq] at hframe hchute
    simp only [List.foldl_cons, State.applyChute_eq s]
    refine ⟨hframe, fun d => (hchute d).trans ?_⟩
    by_cases hd : d = c
    · subst hd
      rw [if_neg hnot, if_pos (by simp), State.chute_setChute_same]
    · have happlied : (s.setChute c (s.appliedChute was[c].enabled c)).appliedChute was[d].enabled d
          = s.appliedChute was[d].enabled d := by
        unfold State.appliedChute
        rw [State.chute_setChute_other _ _ hd]
        rfl
      rw [happlied, State.chute_setChute_other _ _ hd]
      simp [hd]

/-! ## The notices of a write (R15, R17) -/

theorem State.notify_intakeView (s : State) (n : Notice) : (s.notify n).intakeView = s.intakeView := rfl

/-- INTAKE notices one after another all show intake as it stands. -/
theorem State.foldl_notifyIntake (s : State) (e : IntakeEvent) (cs : List Chute) :
    cs.foldl (fun s c => s.notifyIntake e (some c)) s
      = (cs.map fun c => .intake e (some c) s.intakeView).foldl State.notify s := by
  have hview : ∀ (t : State), t.intakeView = s.intakeView → cs.foldl (fun s c => s.notifyIntake e (some c)) t
      = (cs.map fun c => .intake e (some c) s.intakeView).foldl State.notify t := by
    induction cs with
    | nil => exact fun _ _ => rfl
    | cons c cs ih =>
      intro t ht
      rw [List.foldl_cons, List.map_cons, List.foldl_cons, State.notifyIntake, ht]
      exact ih _ ht
  exact hview s rfl

theorem State.tellClosure_eq (s u : State) :
    u.tellClosure s.intake.closed = (s.closureNotices u).foldl State.notify u := by
  unfold State.tellClosure State.closureNotices
  split <;> rfl

/-- The JAMMED notices of a write of a group (R17). -/
def State.jamNotices (s : State) (g : CabinetGroup) (was : Cabinet) : List Notice :=
  if g = .chutes then
    (allChutes.filter fun c => s.jamsAtWrite was.chutes[c].enabled c).map fun c => .intake .jammed (some c) s.intakeView
  else []

theorem State.tellJams_eq (s : State) (g : CabinetGroup) (was : Cabinet) :
    s.tellJams g was = (s.jamNotices g was).foldl State.notify s := by
  cases g with
  | chutes => exact s.foldl_notifyIntake .jammed _
  | panel => rfl
  | system => rfl

/-! ## The write taken -/

/-- The cabinet record replaced, with the chutes or the duty that take it, before closure is evaluated. -/
def State.cabinetApplied (s : State) (g : CabinetGroup) (q : Cabinet) : State :=
  (s.setCabinet q).applyCabinet g s.tables.cabinet

/-- The chutes and the pending duty behind a write; the rest stands (R6, R19). -/
structure State.TakesCabinet (s u : State) (g : CabinetGroup) (q : Cabinet) : Prop where
  frame : u = { s with
    tables := { s.tables with cabinet := q }
    intake := { s.intake with chutes := u.intake.chutes, pendingDuty := u.intake.pendingDuty } }
  duty : u.intake.pendingDuty = if g = .system then q.system.holdDuty else s.intake.pendingDuty
  chute : ∀ c : Chute, u.chute c =
    if q.chutes[c].enabled = (s.chuteConfig c).enabled then s.chute c
    else if q.chutes[c].enabled = false then ChuteRecord.fresh .disabled
    else ChuteRecord.fresh (if s.pins.coin[c] then .jammed else .idle)

theorem State.takesCabinet (s : State) {g : CabinetGroup} {q : Cabinet}
    (hchutes : g ≠ .chutes → q.chutes = s.tables.cabinet.chutes) : s.TakesCabinet (s.cabinetApplied g q) g q := by
  have hsame : g ≠ .chutes → ∀ c : Chute, q.chutes[c].enabled = (s.chuteConfig c).enabled := fun hg c => by
    rw [hchutes hg]
    rfl
  cases g with
  | chutes =>
    obtain ⟨hframe, hchute⟩ :=
      State.applyChutes_run s.tables.cabinet.chutes allChutes (by decide) (s.setCabinet q)
    have hduty : (s.cabinetApplied .chutes q).intake.pendingDuty = s.intake.pendingDuty :=
      (congrArg (fun t : State => t.intake.pendingDuty) hframe :)
    refine ⟨?_, hduty, fun c => ?_⟩
    · rw [hduty]
      exact hframe
    refine (hchute c).trans ((if_pos (by decide +revert)).trans ?_)
    show (if q.chutes[c].enabled = (s.chuteConfig c).enabled then s.chute c
      else ChuteRecord.fresh (chuteStart q.chutes[c].enabled s.pins.coin[c])) = _
    cases q.chutes[c].enabled <;> rfl
  | panel => exact ⟨rfl, rfl, fun c => (if_pos (hsame nofun c)).symm⟩
  | system => exact ⟨rfl, rfl, fun c => (if_pos (hsame nofun c)).symm⟩

/-- A group other than the chutes leaves the chutes' configuration. -/
theorem Cabinet.withGroup_chutes {c q : Cabinet} {g : CabinetGroup} {fields : List Byte}
    (h : c.withGroup g fields = some q) (hg : g ≠ .chutes) : q.chutes = c.chutes := by
  cases g <;> simp only [Cabinet.withGroup, Option.map_eq_some_iff] at h
  case chutes => exact absurd rfl hg
  all_goals
    obtain ⟨x, -, rfl⟩ := h
    rfl

/-- What a write taken comes to: closure settled behind the chutes and the duty, then its notices. -/
theorem State.takeCabinet_eq (s : State) (g : CabinetGroup) (q : Cabinet) :
    s.takeCabinet g q = ((s.cabinetApplied g q).settleClosure.jamNotices g s.tables.cabinet
      ++ s.closureNotices (s.cabinetApplied g q).settleClosure).foldl State.notify
        (s.cabinetApplied g q).settleClosure := by
  let u := (s.cabinetApplied g q).settleClosure
  have hjams := u.tellJams_eq g s.tables.cabinet
  have hnotices : s.closureNotices ((u.jamNotices g s.tables.cabinet).foldl State.notify u) = s.closureNotices u := by
    rw [State.foldl_notify_frame]
    rfl
  rw [List.foldl_append, ← hnotices, ← State.tellClosure_eq, ← hjams]
  rfl

/-- A request begins with its link's record alone changed. -/
theorem State.setPendingRequest_eq (s : State) (l : Link) (typ : Byte) :
    ∃ k : Links, s.setPendingRequest l typ = s.setLinks k := by
  cases l <;> exact ⟨_, rfl⟩

section
variable {s : State} {g : CabinetGroup} {fields : List Byte} {q : Cabinet}

theorem State.askWriteCabinet_range {group : Byte} (h : 2 < group.toNat) :
    s.askWriteCabinet group fields = (s, .nak .range) := by
  rw [State.askWriteCabinet, cabinetGroupArg_outside h]

theorem State.askWriteCabinet_within {group : Byte} (h : cabinetGroupArg group = some g) :
    s.askWriteCabinet group fields = s.writeCabinet g fields := by
  rw [State.askWriteCabinet, h]

theorem State.writeCabinet_busy (hlock : s.tables.lock = .opened) (hstage : s.stage ≠ .menu) :
    s.writeCabinet g fields = (s, .nak .busy) := (if_neg (not_not.2 hlock)).trans (if_pos hstage)

theorem State.writeCabinet_opened (hlock : s.tables.lock = .opened) (hstage : s.stage = .menu) :
    s.writeCabinet g fields = match s.tables.cabinet.withGroup g fields with
      | none => (s, .nak .range)
      | some c => if c.system.budget < s.committedLoad ∧ g = .system then (s, .nak .state)
        else (s.takeCabinet g c, .ack []) :=
  (if_neg (not_not.2 hlock)).trans (if_neg (not_not.2 hstage))

theorem State.writeCabinet_taken (hlock : s.tables.lock = .opened) (hstage : s.stage = .menu)
    (hq : s.tables.cabinet.withGroup g fields = some q) (hfits : g ≠ .system ∨ s.committedLoad ≤ q.system.budget) :
    s.writeCabinet g fields = (s.takeCabinet g q, .ack []) := by
  rw [State.writeCabinet_opened hlock hstage, hq]
  exact if_neg fun hover => hfits.elim (absurd hover.2) (Nat.not_le.2 hover.1)

end

/-- What the state behind a taken write shows of it: all that R89 names, the links apart. -/
theorem State.TakesCabinet.settled {s u t : State} {g : CabinetGroup} {q : Cabinet} (h : s.TakesCabinet u g q)
    (ht : t = { u.settleClosure with links := t.links }) :
    t.tables = { s.tables with cabinet := q } ∧ t.intake.closed = t.closureHolds
      ∧ t.intake.pendingDuty = (if g = .system then q.system.holdDuty else s.intake.pendingDuty)
      ∧ t.intake.activeDuty = s.intake.activeDuty ∧ t.intake.faultLatch = s.intake.faultLatch
      ∧ (∀ c : Chute, t.chute c =
          if q.chutes[c].enabled = (s.chuteConfig c).enabled then s.chute c
          else if q.chutes[c].enabled = false then ChuteRecord.fresh .disabled
          else ChuteRecord.fresh (if s.pins.coin[c] then .jammed else .idle))
      ∧ s.CoilsFollow t ∧ t = { s with tables := t.tables, intake := t.intake, links := t.links } := by
  have htables : u.tables = { s.tables with cabinet := q } := by rw [h.frame]
  have hactive : u.intake.activeDuty = s.intake.activeDuty := by rw [h.frame]
  have hlatch : u.intake.faultLatch = s.intake.faultLatch := by rw [h.frame]
  have hcoils : u.intake.coils = s.intake.coils := by rw [h.frame]
  have hrest : u = { s with tables := u.tables, intake := u.intake } := by rw [h.frame]
  rw [ht]
  refine ⟨htables, rfl, h.duty, hactive, hlatch, h.chute, fun c => ?_, ?_⟩
  · rw [← hcoils]
    exact Vector.getElem_ofFn c.isLt
  · rw [hrest]
    rfl

/-- The notices of a taken write, as the state behind it shows intake (R15, R17). -/
theorem State.TakesCabinet.jamNotices {s u t : State} {q : Cabinet} (h : s.TakesCabinet u .chutes q)
    (ht : t = { u.settleClosure with links := t.links }) : u.settleClosure.jamNotices .chutes s.tables.cabinet =
      ((List.finRange 4).filter fun c => !(s.chuteConfig c).enabled && q.chutes[c].enabled && s.pins.coin[c]).map
        fun c => .intake .jammed (some c) t.intakeView := by
  have hconfig : ∀ c, u.settleClosure.chuteConfig c = q.chutes[c] := fun c => by
    show u.tables.cabinet.chutes[c] = _
    rw [h.frame]
  have hpins : u.settleClosure.pins = s.pins := by
    show u.pins = _
    rw [h.frame]
  have hview : t.intakeView = u.settleClosure.intakeView := by
    rw [ht]
    rfl
  simp only [State.jamNotices, if_true, State.jamsAtWrite, hconfig, hpins, hview]
  rfl

/-- Settles O35: the tests of R89 one after another, then the group taken, closure settled behind it, and its notices. -/
theorem writeCabinetReplacesGroup : Obligations.WriteCabinetReplacesGroup := by
  intro s l group fields i r htakes
  refine ⟨fun hrange => htakes.refuses rfl rfl fun x => State.askWriteCabinet_range hrange, fun g hgroup => ?_⟩
  have hask (v : State) : v.perform l r = v.writeCabinet g fields := State.askWriteCabinet_within hgroup
  refine ⟨fun hlock => htakes.refuses rfl rfl fun x => ?_, fun hlock hstage => htakes.refuses rfl rfl fun x => ?_,
    fun hlock hstage => ⟨fun hnone => htakes.refuses rfl rfl fun x => ?_, fun q hq => ⟨fun hsystem hover =>
      htakes.refuses rfl rfl fun x => ?_, fun hfits => ?_⟩⟩⟩
  · rw [hask]
    exact if_pos (by rwa [State.setLink_tables])
  · rw [hask, State.writeCabinet_busy (by rwa [State.setLink_tables]) (by rwa [State.setLink_stage])]
  · rw [hask, State.writeCabinet_opened (by rwa [State.setLink_tables]) (by rwa [State.setLink_stage]),
      State.setLink_tables, hnone]
  · rw [hask, State.writeCabinet_opened (by rwa [State.setLink_tables]) (by rwa [State.setLink_stage]),
      State.setLink_tables, hq]
    have hload : (s.setLink l x).committedLoad = s.committedLoad := by cases l <;> rfl
    exact if_pos ⟨hload ▸ hover, hsystem⟩
  · obtain ⟨k, hk⟩ := s.setPendingRequest_eq l r.typ
    let v := s.setLinks k
    let u := v.cabinetApplied g q
    have htaken : v.TakesCabinet u g q := v.takesCabinet fun hg => Cabinet.withGroup_chutes hq hg
    have hperform : (s.setPendingRequest l r.typ).perform l r = (v.takeCabinet g q, .ack []) := by
      rw [hk, hask]
      exact State.writeCabinet_taken (s := v) hlock hstage hq hfits
    let ns := u.settleClosure.jamNotices g s.tables.cabinet ++ s.closureNotices u.settleClosure
    have hcabinet : v.takeCabinet g q = ns.foldl State.notify u.settleClosure := v.takeCabinet_eq g q
    have hframe : v.takeCabinet g q = { u.settleClosure with links := (v.takeCabinet g q).links } := by
      rw [hcabinet]
      exact State.foldl_notify_frame _ _
    have hu : u.settleClosure.Settled ∧ u.settleClosure.links = k := by
      have hrest : u = { v with tables := u.tables, intake := u.intake } := by rw [htaken.frame]
      rw [hrest]
      exact ⟨htakes.settled, rfl⟩
    have hdrain : (v.takeCabinet g q).drain = v.takeCabinet g q :=
      State.drain_settled _ (by rw [hframe]; exact hu.1)
    obtain ⟨hanswers, ht⟩ := State.takeRequest_answers (ns := ns) hperform fun m => by
      rw [hdrain, hcabinet, State.link_foldl_notify, State.link_congr (t := s.setLinks k) hu.2, hk]
    rw [hdrain, hframe] at ht
    have ht' : s.takeRequest l r = { u.settleClosure with links := (s.takeRequest l r).links } := ht
    have hclosure : s.closureNotices u.settleClosure = s.closureNotices (s.takeRequest l r) := by
      rw [ht']
      rfl
    obtain ⟨htables, hclosed, hduty, hactive, hlatch, hchute, hcoils, hrest⟩ := htaken.settled ht'
    refine ⟨s.takeRequest l r, congrArg Host.Outcome.next (State.command_takes htakes), htables, hclosed, hduty, hactive,
      hlatch, hchute, hcoils, fun hg => ?_, fun hg => ?_, hrest⟩
    · rw [← hclosure]
      have hnone : u.settleClosure.jamNotices g s.tables.cabinet = [] := if_neg hg
      have hns : ns = s.closureNotices u.settleClosure := by simp [ns, hnone]
      exact hns ▸ hanswers
    · subst hg
      rw [← hclosure]
      have hjams := htaken.jamNotices ht'
      exact hjams ▸ hanswers

end Sys2Proof.Machine
end

section
/-! Coin intake: coin pulses, jams, coils, the intake's requests and GRANT (R2 to R7, R9, R15 to R22). -/

namespace Sys2Proof.Machine

/-! ## Coin edges (R2, R5) -/

/-- Settles the first part of O15: an edge by its chute's state. -/
theorem coinEdgeActsByChuteState : Claims.CoinEdgeActsByChuteState := by
  intro s c
  let u := s.setCoinPin c true
  refine ⟨u.coinEdge c, rfl, ?_⟩
  unfold State.coinEdge
  have hchute : ∀ d, u.chute d = s.chute d := fun _ => rfl
  rw [hchute]
  cases hstate : (s.chute c).state with
  | idle => exact ⟨rfl, fun d hd => State.chute_setChute_other u _ hd, State.chute_setChute_same u c _⟩
  | jammed => exact ⟨rfl, fun d hd => State.chute_setChute_other u _ hd, State.chute_setChute_same u c _⟩
  | inCoin => exact ⟨rfl, fun _ _ => rfl, rfl⟩
  | disabled => exact ⟨rfl, fun _ _ => rfl, rfl⟩

/-! ## A chute that jams or clears (R4, R5, R18) -/

/-- A chute's record replaced, the coils following, with the INTAKE notice of it. -/
def State.chuteTurned (s : State) (c : Chute) (r : ChuteRecord) (e : IntakeEvent) : State :=
  ((s.setChute c r).followCoils).notifyIntake e (some c)

/-- What a chute that jams or clears leaves. -/
structure State.TurnsChute (s t : State) (c : Chute) (r : ChuteRecord) (e : IntakeEvent) : Prop where
  same : t.chute c = r
  others : ∀ d : Chute, d ≠ c → t.chute d = s.chute d
  coils : s.CoilsFollow t
  tells : s.Tells t [.intake e (some c) t.intakeView]
  intake : t.intake = { s.intake with chutes := t.intake.chutes, coils := t.intake.coils }

theorem State.turnsChute {s u : State} (hintake : u.intake = s.intake) (hlinks : u.links = s.links) (c : Chute)
    (r : ChuteRecord) (e : IntakeEvent) : s.TurnsChute (u.chuteTurned c r e) c r e
      ∧ u.chuteTurned c r e
        = { u with intake := (u.chuteTurned c r e).intake, links := (u.chuteTurned c r e).links } := by
  have hchute : ∀ d, u.chute d = s.chute d := fun d => congrArg (fun x : Intake => x.chutes[d]) hintake
  refine ⟨⟨u.chute_setChute_same c r, fun d hd => (u.chute_setChute_other r hd).trans (hchute d), fun d => ?_,
    fun l => ?_, ?_⟩, rfl⟩
  · rw [← hintake]
    exact Vector.getElem_ofFn d.isLt
  · rw [← State.link_congr hlinks]
    exact State.link_notify _ _ l
  · rw [← hintake]
    rfl

/-- Settles O16: the two expiries turn their chute. -/
theorem chuteJamsAndClears : Obligations.ChuteJamsAndClears := by
  refine fun s c => ⟨fun hin => ?_, fun hjammed hpin => ?_⟩
  · obtain ⟨⟨hsame, hothers, hcoils, htells, hintake⟩, hframe⟩ :=
      State.turnsChute (s := s) rfl rfl c { s.chute c with state := .jammed, jamCount := 0 } .jammed
    exact ⟨_, congrArg Host.Outcome.next (if_pos hin), hsame, hothers, hcoils, htells, hintake, hframe⟩
  · obtain ⟨⟨hsame, hothers, hcoils, htells, hintake⟩, hframe⟩ :=
      State.turnsChute (s := s) rfl rfl c { s.chute c with state := .idle, jamCount := 0 } .jamCleared
    exact ⟨_, congrArg Host.Outcome.next (if_pos ⟨hjammed, hpin⟩), hsame, hothers, hcoils, htells, hintake, hframe⟩

/-! ## The end of a coin pulse (R3, R4, R7) -/

theorem exec_coinRelease_inCoin {s : State} {c : Chute} (h : (s.chute c).state = .inCoin) (held : Nat) :
    exec (.coinRelease c held) s = .next ((s.setCoinPin c false).coinReleased c held) :=
  congrArg Host.Outcome.next (if_pos h)

section
variable {u : State} {c : Chute} {held : Nat}

theorem State.coinReleased_late (h : (u.chute c).maxWidth < (u.chute c).width + held) :
    u.coinReleased c held = u.jam c := if_pos h

theorem State.coinReleased_within (h : (u.chute c).width + held ≤ (u.chute c).maxWidth) : u.coinReleased c held =
    (u.setChute c { u.chute c with state := .idle, width := (u.chute c).width + held }).judgeCoin c (u.chute c)
      ((u.chute c).width + held) := if_neg (Nat.not_lt.2 h)

end

theorem coinReleaseJudgesPulse : Claims.CoinReleaseJudgesPulse := by
  intro s c held hin r w u
  have hexec := exec_coinRelease_inCoin hin held
  have hwithin (hmax : w ≤ r.maxWidth) : exec (.coinRelease c held) s = .next (u.judgeCoin c r w) :=
    hexec.trans (congrArg _ (State.coinReleased_within (u := s.setCoinPin c false) hmax))
  refine ⟨fun hmin hmax => ?_, fun hmin hmax hroom => ?_, fun hmin hmax hroom => ?_, fun hmax => ?_⟩
  · exact (hwithin hmax).trans (congrArg _ (if_pos hmin))
  · let v := (u.bump (coinsIx c) 1).mint .coin (some c) r.weight
    have hvalid : u.judgeCoin c r w = v.storeChanged .coin r.weight none :=
      (if_neg (Nat.not_lt.2 hmin)).trans (if_pos hroom)
    have hframe := v.storeChanged_frame .coin r.weight none
    have hlink (l : Link) : v.link l = s.link l := State.link_congr rfl l
    have htells : s.Tells (v.storeChanged .coin r.weight none)
        (u.storeNotices (v.storeChanged .coin r.weight none) .coin r.weight none) := fun l => by
      rw [← hlink]
      exact State.link_storeChanged rfl _ _ _ l
    refine ⟨_, (hwithin hmax).trans (congrArg _ hvalid), ?_, ?_,
      State.evalClosure_follows (u := v.notify (.pool .coin r.weight none v.store.poolCount v.store.free)) rfl, htells,
      hframe.trans ?_⟩
    · rw [hframe]
      rfl
    · rw [hframe]
      rfl
    · rw [hframe]
      rfl
  · have hover : u.judgeCoin c r w = ((u.bump (coinsIx c) 1).bump overflowIx 1).notifyIntake .overflow (some c) :=
      (if_neg (Nat.not_lt.2 hmin)).trans (if_neg (Nat.not_le.2 hroom))
    exact ⟨_, (hwithin hmax).trans (congrArg _ hover), rfl, fun l => State.link_notify _ _ l, rfl⟩
  · obtain ⟨⟨hsame, hothers, hcoils, htells, hintake⟩, hframe⟩ := State.turnsChute (s := s) (u := s.setCoinPin c false)
      rfl rfl c { r with state := .jammed, jamCount := 0 } .jammed
    exact ⟨_, hexec.trans (congrArg _ (State.coinReleased_late (u := s.setCoinPin c false) hmax)), hsame, hothers, hcoils,
      htells, hintake, hframe⟩

/-- Settles O15: the active edge by the chute's state, and the release by the pulse's width and the room in the store. -/
theorem coinPulseJudged : Obligations.CoinPulseJudged := ⟨coinEdgeActsByChuteState, coinReleaseJudgesPulse⟩

/-! ## The coils (R18 to R20) -/

theorem coilHoldsAtActiveDuty : Claims.CoilHoldsAtActiveDuty := by
  refine fun s => ⟨fun c n hpull => ?_, rfl, fun c hhold => ?_⟩
  · show Host.Outcome.next (s.setIntake { s.intake with coils := s.intake.coils.set c s.intake.coils[c].pulledIn }) = _
    rw [hpull]
    rfl
  · unfold State.coilDrive
    rw [hhold]

theorem coilFaultTripsEveryCoil : Claims.CoilFaultTripsEveryCoil := by
  intro s active u
  refine ⟨fun hnone => congrArg Host.Outcome.next (if_neg ?_), fun hactive hclear => ?_⟩
  · show ¬(active && !s.intake.faultLatch) = true
    rcases hnone with h | h <;> simp [h]
  · have htrip : u.coilFaultTrip = (u.setIntake { u.intake with
        faultLatch := true, coils := Vector.replicate 4 .tripped }).notifyIntake .coilFault none := by
      refine if_pos ?_
      show (active && !s.intake.faultLatch) = true
      rw [hactive, hclear]
      rfl
    exact ⟨_, congrArg Host.Outcome.next htrip, rfl, fun l => State.link_notify _ _ l, rfl⟩

/-- Settles O17: PULL_IN's end and the duty, and the fault input by its level and the latch. -/
theorem coilsFollowAndTrip : Obligations.CoilsFollowAndTrip := ⟨coilHoldsAtActiveDuty, coilFaultTripsEveryCoil⟩

/-! ## SET_INTAKE and ARM_COILS (R16, R21) -/

theorem State.askSetIntake_range {s : State} {v : Byte} (h : 1 < v.toNat) : s.askSetIntake v = (s, .nak .range) := by
  rw [State.askSetIntake, boolArg_outside h]

theorem State.askSetIntake_within {s : State} {v : Byte} {f : Bool} (h : v.toNat = f.toNat) : s.askSetIntake v =
    if s.flags.intakeOpen = f then (s, .ack []) else ((s.setIntakeOpen f).evalClosure, .ack []) := by
  rw [State.askSetIntake, boolArg_within h]

/-- A closure evaluation changes the intake and the links alone. -/
theorem State.evalClosure_frame (u : State) :
    u.evalClosure = { u with intake := u.evalClosure.intake, links := u.evalClosure.links } := by
  unfold State.evalClosure State.tellClosure
  split <;> rfl

theorem setIntakeSetsFlag : Claims.SetIntakeSetsFlag := by
  intro s l v htakes
  refine ⟨fun hrange => htakes.refuses rfl rfl fun x => State.askSetIntake_range hrange, fun f hf => ⟨fun hsame =>
    htakes.reads rfl fun x => (State.askSetIntake_within hf).trans (if_pos (by rwa [State.setLink_flags])),
    fun hchange => ?_⟩⟩
  obtain ⟨k, hk⟩ := s.setPendingRequest_eq l (Request.setIntake v).typ
  let p := s.setLinks k
  let u := (p.setIntakeOpen f).evalClosure
  have hperform : (s.setPendingRequest l (Request.setIntake v).typ).perform l (.setIntake v) = (u, .ack []) := by
    rw [hk]
    exact (State.askSetIntake_within hf).trans (if_neg hchange)
  have hframe : u = { p.setIntakeOpen f with intake := u.intake, links := u.links } := State.evalClosure_frame _
  have hdrain : u.drain = u := State.drain_settled _ (by rw [hframe]; exact htakes.settled)
  have hclosure : s.ClosureFollows u := State.evalClosure_follows (u := p.setIntakeOpen f) rfl
  obtain ⟨hanswers, ht⟩ := State.takeRequest_answers (ns := s.closureNotices u) hperform fun m => by
    rw [hdrain, hk]
    exact State.link_evalClosure (s := s) (u := p.setIntakeOpen f) rfl m
  rw [hdrain] at ht
  have hnotices : s.closureNotices u = s.closureNotices (s.takeRequest l (.setIntake v)) := by
    rw [ht]
    rfl
  refine ⟨_, congrArg Host.Outcome.next (State.command_takes htakes), ?_, ?_, hnotices ▸ hanswers, ?_⟩
  · rw [ht, hframe]
    rfl
  · rw [ht]
    exact ⟨hclosure.closed, hclosure.coils, hclosure.rest⟩
  · rw [ht, hframe]
    rfl

theorem State.armCoils_coil (s : State) (c : Chute) : s.armCoils.intake.coils[c] =
    (if s.intake.coils[c] = .tripped then Coil.off else s.intake.coils[c]).follow (s.armCoils.coilWanted c) := by
  have harmed : ∀ k : Coil, k.armed = if k = .tripped then Coil.off else k := fun k => by cases k <;> simp [Coil.armed]
  have hmap : (s.intake.coils.map Coil.armed)[c] = s.intake.coils[c].armed := Vector.getElem_map _ c.isLt
  rw [← harmed, ← hmap]
  exact Vector.getElem_ofFn c.isLt

theorem armCoilsClearsLatch : Claims.ArmCoilsClearsLatch := by
  intro s l htakes
  have hask (v : State) : v.perform l .armCoils = v.askArmCoils := rfl
  refine ⟨fun hfault => htakes.refuses rfl rfl fun x => ?_, fun hfault hlatch => htakes.reads rfl fun x => ?_,
    fun hfault hlatch => ?_⟩
  · simp [hask, State.askArmCoils, hfault]
  · simp [hask, State.askArmCoils, hfault, hlatch]
  · obtain ⟨k, hk⟩ := s.setPendingRequest_eq l Request.armCoils.typ
    let p := s.setLinks k
    have hperform : (s.setPendingRequest l Request.armCoils.typ).perform l .armCoils = (p.armCoils, .ack []) := by
      rw [hk]
      exact (if_neg (Bool.eq_false_iff.1 hfault)).trans (if_pos hlatch)
    have hdrain : p.armCoils.drain = p.armCoils := State.drain_settled _ htakes.settled
    obtain ⟨hanswers, ht⟩ := State.takeRequest_answers (ns := [.intake .coilsArmed none p.armCoils.intakeView]) hperform
      fun m => by
        rw [hdrain, hk]
        exact State.link_notify _ _ m
    rw [hdrain] at ht
    have hview : p.armCoils.intakeView = (s.takeRequest l .armCoils).intakeView := by
      rw [ht]
      rfl
    refine ⟨_, congrArg Host.Outcome.next (State.command_takes htakes), ?_, fun c => ?_, hview ▸ hanswers, ?_, ?_⟩
    · rw [ht]
      rfl
    · rw [ht]
      exact p.armCoils_coil c
    · rw [ht]
      rfl
    · rw [ht]
      rfl

/-- Settles O18: SET_INTAKE by its byte and the flag, ARM_COILS by the input and the latch. -/
theorem intakeRequestsAct : Obligations.IntakeRequestsAct := ⟨setIntakeSetsFlag, armCoilsClearsLatch⟩

/-! ## GRANT (R9, R22) -/

section
variable {s : State} {n : Byte}

theorem State.askGrant_range (h : n.toNat < 1 ∨ 16 < n.toNat) : s.askGrant n = (s, .nak .range) := by
  rw [State.askGrant, numberArg_outside h]

theorem State.askGrant_within (h : 1 ≤ n.toNat) (h' : n.toNat ≤ 16) : s.askGrant n =
    if s.store.free < n.toNat then (s, .nak .noRoom)
    else (((s.mint .grant none n.toNat).bump tokensGrantedIx n.toNat).storeChanged .grant n.toNat none, .ack []) := by
  rw [State.askGrant, numberArg_within h h']

end

theorem grantCreatesTokens : Claims.GrantCreatesTokens := by
  intro s l n htakes
  refine ⟨fun hrange => htakes.refuses rfl rfl fun x => State.askGrant_range hrange,
    fun h1 h16 hfull => htakes.refuses rfl rfl fun x => (State.askGrant_within h1 h16).trans
      (if_pos (by rwa [State.setLink_store])), fun h1 h16 hroom => ?_⟩
  obtain ⟨k, hk⟩ := s.setPendingRequest_eq l (Request.grant n).typ
  let u := ((s.setLinks k).mint .grant none n.toNat).bump tokensGrantedIx n.toNat
  have hperform : (s.setPendingRequest l (Request.grant n).typ).perform l (.grant n)
      = (u.storeChanged .grant n.toNat none, .ack []) := by
    rw [hk]
    exact (State.askGrant_within h1 h16).trans (if_neg (Nat.not_lt.2 hroom))
  obtain ⟨t, htake, hclosure, hanswers, hframe⟩ :=
    State.takeRequest_storeChanged (s := s) (u := u) htakes.settled rfl (by rw [hk]; rfl) hperform
  refine ⟨t, congrArg Host.Outcome.next ((State.command_takes htakes).trans htake), ?_, ?_, hclosure, hanswers, ?_⟩
  all_goals
    rw [hframe]
    rfl

theorem nextFreeSeq_eq (used : List Seq) (fuel : Nat) (a : Seq) : ∃ k ≤ fuel,
    nextFreeSeq used fuel a = a + BitVec.ofNat 16 k ∧ ∀ j < k, a + BitVec.ofNat 16 j ∈ used := by
  induction fuel generalizing a with
  | zero => exact ⟨0, le_refl _, by simp [nextFreeSeq], fun j hj => absurd hj (Nat.not_lt_zero j)⟩
  | succ fuel ih =>
    have hsucc : ∀ k : Nat, a + 1 + BitVec.ofNat 16 k = a + BitVec.ofNat 16 (k + 1) := fun k =>
      BitVec.eq_of_toNat_eq (by simp [BitVec.toNat_add]; omega)
    rw [nextFreeSeq]
    split
    next hused =>
      obtain ⟨k, hk, hnext, hbefore⟩ := ih (a + 1)
      refine ⟨k + 1, Nat.succ_le_succ hk, hnext.trans (hsucc k), fun j hj => ?_⟩
      cases j with
      | zero => simpa using hused
      | succ j => rw [← hsucc]; exact hbefore j (by omega)
    next => exact ⟨0, Nat.zero_le _, by simp, fun j hj => absurd hj (Nat.not_lt_zero j)⟩

/-- Values used one after another are no more than the values used. -/
theorem run_le_length {used : List Seq} {a : Seq} {k : Nat} (hk : k ≤ 64)
    (h : ∀ j < k, a + BitVec.ofNat 16 j ∈ used) : k ≤ used.length := by
  have hnodup : ((List.range k).map fun j => a + BitVec.ofNat 16 j).Nodup := by
    refine List.Nodup.map_on (fun x hx y hy hxy => ?_) List.nodup_range
    have hx := List.mem_range.1 hx
    have hy := List.mem_range.1 hy
    have := congrArg BitVec.toNat (add_left_cancel hxy)
    simp only [BitVec.toNat_ofNat] at this
    omega
  have hsub : ((List.range k).map fun j => a + BitVec.ofNat 16 j) ⊆ used := fun x hx => by
    obtain ⟨j, hj, rfl⟩ := List.mem_map.1 hx
    exact h j (List.mem_range.1 hj)
  simpa using (hnodup.subperm hsub).length_le

theorem createdTokenTakesFreeNumber : Claims.CreatedTokenTakesFreeNumber := by
  intro t o c hlive
  have hlen : (seqsOf t.arrival).length ≤ 63 := by simpa [seqsOf, TokenStore.live] using hlive
  obtain ⟨k, hk, hnext, hbefore⟩ := nextFreeSeq_eq (seqsOf t.arrival) 64 t.allocator
  have hfresh := nextFreeSeq_fresh (seqsOf t.arrival) t.allocator (hlen.trans (by decide))
  rw [hnext] at hfresh
  refine ⟨k, (run_le_length hk hbefore).trans hlen, ?_, fun x hx hseq => hfresh (List.mem_map.2 ⟨x, hx, hseq⟩),
    fun j hj => List.mem_map.1 (hbefore j hj)⟩
  unfold TokenStore.createOne
  rw [← hnext]
  rfl

/-- Settles O20: GRANT by its byte and the room, and the number and place of each created token. -/
theorem grantAddsNumberedTokens : Obligations.GrantAddsNumberedTokens :=
  ⟨grantCreatesTokens, createdTokenTakesFreeNumber, fun _ _ _ _ => ⟨rfl, rfl⟩⟩

end Sys2Proof.Machine
end

section
/-! The part reset: the values it takes, and a power failure within an event (R24, R47, R78, R97, R137, R173, R175). -/

namespace Sys2Proof.Machine

/-! ## The values of a part reset (R97) -/

/-- What a part reset leaves over the retained items given: every block at its reset values, closure evaluated without a
notice, the first notice sent, and a coil fault present tripping at once. -/
structure State.ResetTo (s t : State) (x : Tables) (f : RetainedFlags) (k : TokenStore) (a : Audit) (n : Notice) : Prop where
  frame : t = { s.blocksReset x f k a with intake := t.intake, links := t.links }
  link : ∀ l : Link, t.link l = { LinkState.fresh with
    tx := some (.notice n), queue := if s.pins.coilFault then [.intake .coilFault none t.intakeView] else [] }
  chute : ∀ c : Chute, t.chute c = ChuteRecord.fresh (chuteStart x.cabinet.chutes[c].enabled s.pins.coin[c])
  closed : t.intake.closed = t.closureHolds
  latch : t.intake.faultLatch = s.pins.coilFault
  activeDuty : t.intake.activeDuty = x.cabinet.system.holdDuty
  pendingDuty : t.intake.pendingDuty = x.cabinet.system.holdDuty
  coils : ∀ c : Chute, t.intake.coils[c] =
    if s.pins.coilFault then .tripped else if t.coilWanted c then .pullIn 0 else .off

section
variable (s : State) (x : Tables) (f : RetainedFlags) (k : TokenStore) (a : Audit) (n : Notice)

theorem State.blocksReset_chute (c : Chute) : (s.blocksReset x f k a).settleClosure.chute c
    = ChuteRecord.fresh (chuteStart x.cabinet.chutes[c].enabled s.pins.coin[c]) := Vector.getElem_ofFn c.isLt

/-- Behind the reset every coil is OFF, and follows its condition. -/
theorem State.blocksReset_coil (c : Chute) : (s.blocksReset x f k a).settleClosure.intake.coils[c]
    = if (s.blocksReset x f k a).settleClosure.coilWanted c then Coil.pullIn 0 else .off := by
  have hoff : (Vector.replicate 4 Coil.off)[c] = Coil.off := Vector.getElem_replicate c.isLt
  have hcoil : (s.blocksReset x f k a).settleClosure.intake.coils[c]
      = (Vector.replicate 4 Coil.off)[c].follow ((s.blocksReset x f k a).settleClosure.coilWanted c) :=
    Vector.getElem_ofFn c.isLt
  rw [hcoil, hoff]
  rfl

theorem State.resetTo : s.ResetTo (((s.blocksReset x f k a).settleClosure.notify n).coilFaultTrip) x f k a n := by
  let u := (s.blocksReset x f k a).settleClosure
  have hfresh (l : Link) : u.link l = LinkState.fresh := by cases l <;> rfl
  have hlatch : (u.notify n).intake.faultLatch = false := rfl
  cases hfault : s.pins.coilFault with
  | false =>
    have htrip : (u.notify n).coilFaultTrip = u.notify n := if_neg (by
      rw [hlatch]
      show ¬(s.pins.coilFault && !false) = true
      simp [hfault])
    rw [htrip]
    refine ⟨rfl, fun l => ?_, s.blocksReset_chute x f k a, rfl, hfault.symm ▸ rfl, rfl, rfl, fun c => ?_⟩
    · rw [State.link_notify, hfresh, hfault]
      rfl
    · rw [hfault]
      exact s.blocksReset_coil x f k a c
  | true =>
    have htrip : (u.notify n).coilFaultTrip = ((u.notify n).setIntake { (u.notify n).intake with
        faultLatch := true, coils := Vector.replicate 4 .tripped }).notifyIntake .coilFault none := if_pos (by
      rw [hlatch]
      show (s.pins.coilFault && !false) = true
      simp [hfault])
    rw [htrip]
    refine ⟨rfl, fun l => ?_, s.blocksReset_chute x f k a, rfl, hfault.symm ▸ rfl, rfl, rfl, fun c => ?_⟩
    · have hlink : ((u.notify n).setIntake { (u.notify n).intake with
          faultLatch := true, coils := Vector.replicate 4 .tripped }).link l = (u.notify n).link l :=
        State.link_congr rfl l
      rw [State.notifyIntake, State.link_notify, hlink, State.link_notify, hfresh, hfault]
      rfl
    · rw [hfault]
      exact Vector.getElem_replicate c.isLt

end

/-- Full gain is no silence: a least common multiple of positive numbers is positive. -/
theorem gainFull_pos : 0 < Config.gainFull := by
  have hfold : ∀ (ks : List Nat) (m : Nat), 0 < m → 0 < ks.foldl (fun m k => Nat.lcm m (k + 1)) m := by
    intro ks
    induction ks with
    | nil => exact fun _ hm => hm
    | cons k ks ih => exact fun m hm => ih _ (Nat.lcm_pos hm (Nat.succ_pos k))
  exact hfold _ 1 one_pos

theorem resetMonitor_eq (x : Tables) : resetMonitor x =
    { source := .menu, lineClass := x.cabinet.system.menuClass, settle := none, cut := none
      ramp := x.cabinet.system.ramp, audio := if x.cabinet.system.ramp = 0 then .full else .rising
      gain := if x.cabinet.system.ramp = 0 then Config.gainFull else 0 } := by
  have hgain : ¬Config.gainFull ≤ 0 := Nat.not_le.2 gainFull_pos
  unfold resetMonitor Crosspoint.rampUp
  simp only [hgain, or_false]
  split <;> rfl

/-- A part reset is the reset over the retained items kept or over the factory defaults (R97). -/
theorem State.partReset_resetTo (s : State) {intact valid : Bool} (h : (intact && s.tables.valid) = valid) :
    s.ResetTo (s.partReset intact) (if valid then s.tables else Tables.factory)
      (if valid then s.flags else RetainedFlags.factory) (if valid then s.store.allToPool else TokenStore.factory)
      (if valid then s.audit else Audit.factory) (.stageRestart valid) := by
  unfold State.partReset State.retainedReset
  rw [h]
  cases valid
  · exact s.resetTo _ _ _ _ _
  · exact s.resetTo _ _ _ _ _

theorem partResetTakesValues : Claims.PartResetTakesValues := by
  intro s intact
  refine ⟨s.partReset intact, by cases intact <;> rfl, ?_⟩
  generalize hvalid : (intact && s.tables.valid) = valid
  obtain ⟨hframe, hlink, hchute, hclosed, hlatch, hactive, hpending, hcoils⟩ := s.partReset_resetTo hvalid
  generalize s.partReset intact = t at *
  have hflags : t.flags = if valid then s.flags else RetainedFlags.factory := by rw [hframe]; rfl
  have htables : t.tables = if valid then s.tables else Tables.factory := by rw [hframe]; rfl
  refine ⟨⟨htables, hflags, ?_, ?_, ?_, hlink⟩, ?_, ?_, ?_, ?_, ?_, ?_, ?_, ?_, fun b => ⟨?_, ?_, ?_, ?_⟩, fun c => ?_,
    hclosed, hlatch, ?_, ?_, hcoils, ?_, ?_, ?_, ?_, ?_⟩
  · rw [hframe]; rfl
  · rw [hframe]; cases valid <;> rfl
  · rw [hframe]; cases valid <;> rfl
  · rw [hframe]; rfl
  · rw [hframe]; rfl
  · rw [hframe]; rfl
  · rw [hframe]; rfl
  · rw [hframe]; rfl
  · rw [hframe]; rfl
  · rw [hframe]; rfl
  · rw [hframe]; rfl
  · rw [hframe]; exact Vector.getElem_replicate b.isLt
  · rw [hframe]; exact Vector.getElem_replicate b.isLt
  · rw [hframe]; exact Vector.getElem_replicate b.isLt
  · rw [State.profile, htables, hflags, hframe]
    exact Vector.getElem_ofFn b.isLt
  · rw [State.chuteConfig, htables]
    exact hchute c
  · rw [htables]; exact hactive
  · rw [htables]; exact hpending
  · rw [htables, hframe]; exact resetMonitor_eq _
  · rw [hframe]; rfl
  · rw [hframe]; rfl
  · rw [hframe]; exact ⟨rfl, rfl⟩
  · rw [hframe]; rfl

/-! ## A power failure within an event (R78, R175) -/

theorem powerFailureMayLosePlay : Claims.PowerFailureMayLosePlay := by
  intro s c i
  obtain ⟨v, hv, -, -⟩ := s.confirming_next c
  have hexec : exec i s = s.confirming c := by cases c <;> rfl
  have htorn : s.tornBy c = s.withoutPlay v := by rw [State.tornBy, hv]
  have hreset : exec (.partReset (.torn c)) s = .next ((s.withoutPlay v).partReset true) := by rw [← htorn]; rfl
  refine ⟨v, hexec.trans hv, fun hnot => ?_, fun b hpaying hfiring hbay => ?_⟩
  · rw [hreset, State.withoutPlay]
    split
    next hpaying hfiring hbay => exact absurd ⟨hpaying, hfiring⟩ hnot
    next => rfl
  · rw [hreset, State.withoutPlay, hpaying, hfiring, hbay]
    rfl

/-- Settles O5: the reset over the items kept or over the defaults, and the records that a failure may tear. -/
theorem partResetKeepsOrDefaults : Obligations.PartResetKeepsOrDefaults :=
  ⟨partResetTakesValues, powerFailureMayLosePlay⟩

end Sys2Proof.Machine
end

section
/-! Time: the counts of a tick, the samples of a strobe slot, the events that fall due and the order they are taken in
(R18, R19, R36, R50, R72, R98 to R100, R106, R117, R119, R146, R147, R182, R187; log entries 3, 8 and 9). -/

namespace Sys2Proof.Machine

/-! ## The counts of a tick -/

section
variable (s : State)

theorem State.tickCounts_chute (c : Chute) : s.tickCounts.chute c = (s.chute c).tick s.pins.coin[c] :=
  Vector.getElem_ofFn c.isLt
theorem State.tickCounts_pulse (u : PulseId) : s.tickCounts.pulse u = (s.pulse u).map Pulse.tick := by cases u <;> rfl
theorem State.tickCounts_filters (b : Bay) : s.tickCounts.filters[b] = s.filters[b].tick := Vector.getElem_map _ b.isLt
theorem State.tickCounts_filter (b : Bay) (m : CoinLine) : s.tickCounts.filter b m = (s.filter b m).tick := by
  cases m
  · exact congrArg BayFilters.one (s.tickCounts_filters b)
  · exact congrArg BayFilters.two (s.tickCounts_filters b)
theorem State.tickCounts_checker (b : Bay) : s.tickCounts.checker b = (s.checker b).tick :=
  Vector.getElem_map _ b.isLt
theorem State.tickCounts_coil (c : Chute) : s.tickCounts.intake.coils[c] = s.intake.coils[c].tick :=
  Vector.getElem_map _ c.isLt
theorem State.tickCounts_link (l : Link) : s.tickCounts.link l = (s.link l).tick := by cases l <;> rfl

end

theorem ChuteRecord.tick_eq (r : ChuteRecord) (active : Bool) : r.tick active =
    if r.state = .inCoin ∧ active = true then { r with width := r.width + 1 }
    else if r.state = .jammed ∧ active = false then { r with jamCount := r.jamCount + 1 }
    else r := by
  unfold ChuteRecord.tick
  cases r.state <;> cases active <;> rfl

theorem Receiver.tick_gap {r : Receiver} (h : r ≠ .hunt) : r.tick.gap = r.gap + 1 := by
  cases r with
  | hunt => exact absurd rfl h
  | length | typ | payload | check => rfl

theorem tickCountsOn : Claims.TickCountsOn := by
  intro s
  refine ⟨fun c => ?_, fun u p hp => ?_, fun b m n hn => ?_, fun b w hw => ?_, fun b w hw => ?_, fun b hb => ?_,
    fun c n hc => ?_, fun w hw => ?_, fun w hw => ?_, fun w hw => ?_, fun w hw => ?_, rfl, fun l hl => ?_, rfl, ?_, rfl,
    rfl, rfl, rfl, rfl, rfl, rfl, fun l => ?_⟩
  · rw [s.tickCounts_chute, ChuteRecord.tick_eq]
  · rw [s.tickCounts_pulse, hp]
    rfl
  · rw [s.tickCounts_filter, hn]
    rfl
  · rw [s.tickCounts_feeder, hw]
    rfl
  · rw [s.tickCounts_bay, hw]
    rfl
  · rw [s.tickCounts_checker, Checker.tick, if_pos hb]
  · rw [s.tickCounts_coil, hc]
    rfl
  · exact congrArg (Option.map Timer.advance) hw
  · exact congrArg (Option.map Timer.advance) hw
  · exact congrArg (Option.map Timer.advance) hw
  · exact congrArg (Option.map Timer.advance) hw
  · rw [s.tickCounts_link]
    exact Receiver.tick_gap hl
  · rfl
  · rw [s.tickCounts_link]
    exact ⟨rfl, rfl⟩

/-! ## A strobe slot (R98 to R100) -/

/-- The contacts of a strobe are its eight bits of the scan. -/
theorem strobeMask_getLsbD (k : Strobe) (w : Switch) :
    (strobeMask k).getLsbD w.val = decide (w.val / 8 = k.val) := by
  have hbits : ∀ i : Fin 64, (0xFF#64).getLsbD i.val = decide (i.val < 8) := by decide
  have hhigh : w.val - 8 * k.val < 64 := by omega
  rw [strobeMask, BitVec.getLsbD_shiftLeft, hbits ⟨_, hhigh⟩]
  have hw := w.isLt
  by_cases hsame : w.val / 8 = k.val
  · simp only [hsame, decide_true, Bool.and_eq_true, decide_eq_true_eq, Bool.not_eq_true', decide_eq_false_iff_not]
    omega
  · simp only [hsame, decide_false, Bool.and_eq_false_iff, decide_eq_false_iff_not, Bool.not_eq_false', decide_eq_true_eq]
    omega

theorem strobeOf_eq_iff (w : Switch) (k : Strobe) : strobeOf w = k ↔ w.val / 8 = k.val := Fin.ext_iff

theorem Panel.scanned_getLsbD (p : Panel) (contacts : BitVec 64) (w : Switch) : (p.scanned contacts).getLsbD w.val =
    (p.scan.getLsbD w.val || (decide (w.val / 8 = p.strobe.val) && contacts.getLsbD w.val)) := by
  rw [Panel.scanned, BitVec.getLsbD_or, BitVec.getLsbD_and, strobeMask_getLsbD, Bool.and_comm]

theorem Panel.debounced_count (p : Panel) (contacts : BitVec 64) (w : Switch) : (p.debounced contacts).counts[w] =
    if w.val / 8 ≠ p.strobe.val then p.counts[w]
    else if contacts.getLsbD w.val = p.pressed.contains w then 0 else p.counts[w] + 1 := by
  have hcount : (p.debounced contacts).counts[w] =
      if strobeOf w = p.strobe then debounceCount p.counts[w] (sampleOf contacts w) (p.pressed.contains w)
      else p.counts[w] := Vector.getElem_ofFn w.isLt
  rw [hcount]
  by_cases hw : w.val / 8 = p.strobe.val
  · rw [if_pos ((strobeOf_eq_iff w _).2 hw), if_neg (not_not.2 hw)]
    rfl
  · rw [if_neg fun h => hw ((strobeOf_eq_iff w _).1 h), if_pos hw]

/-- After the first complete debounce a slot moves the counts of its strobe's switches alone. -/
theorem Panel.slotEnd_debounced {p : Panel} (h : p.settled = true) (contacts : BitVec 64) :
    (p.slotEnd contacts).samples = p.samples ∧ (p.slotEnd contacts).scan = p.scan
      ∧ ∀ w : Switch, (p.slotEnd contacts).counts[w] =
          if w.val / 8 ≠ p.strobe.val then p.counts[w]
          else if contacts.getLsbD w.val = p.pressed.contains w then 0 else p.counts[w] + 1 := by
  rw [Panel.slotEnd_of_settled h]
  refine ⟨?_, ?_, p.debounced_count contacts⟩ <;> dsimp only [Panel.debounced]

/-- Before it a slot keeps its strobe's samples, and strobe 7 ends the scan. -/
theorem Panel.slotEnd_gathered {p : Panel} (h : p.settled = false) (contacts : BitVec 64) :
    (p.slotEnd contacts).counts = p.counts
      ∧ (p.strobe ≠ 7 → (p.slotEnd contacts).scan = p.scanned contacts ∧ (p.slotEnd contacts).samples = p.samples)
      ∧ (p.strobe = 7 → (p.slotEnd contacts).scan = 0
          ∧ (p.slotEnd contacts).samples = p.samples ++ [p.scanned contacts]) := by
  rw [Panel.slotEnd_of_unsettled h]
  unfold Panel.gathered
  by_cases hlast : p.strobe = 7
  · rw [if_pos hlast]
    exact ⟨rfl, fun hn => absurd hlast hn, fun _ => ⟨rfl, rfl⟩⟩
  · rw [if_neg hlast]
    exact ⟨rfl, fun _ => ⟨rfl, rfl⟩, fun hy => absurd hy hlast⟩

/-- Commands due one after another are those of the values they are due for. -/
theorem flatMap_whenDue {α : Type} (l : List α) (due : α → Bool) (i : α → Instr) :
    l.flatMap (fun x => whenDue (due x) (i x)) = (l.filter due).map i := by
  induction l with
  | nil => rfl
  | cons x l ih =>
    rw [List.flatMap_cons, ih, List.filter_cons]
    unfold whenDue
    split <;> rfl

theorem slotSamplesOneStrobe : Claims.SlotSamplesOneStrobe := by
  intro s p q
  refine ⟨rfl, p.slotEnd_pressed _, p.slotEnd_mask _, p.slotEnd_menuHold _, p.slotEnd_settled _, fun k => ?_,
    fun hsettled => ?_, fun hunsettled => ?_, fun hsettled => ?_, s.drain_settled, fun hpending hstrobe => ?_⟩
  · rw [State.strobeDriven, decide_eq_true_iff]
    exact eq_comm
  · exact Panel.slotEnd_debounced hsettled s.pins.panel
  · obtain ⟨hcounts, hmore, hlast⟩ := Panel.slotEnd_gathered hunsettled s.pins.panel
    exact ⟨hcounts, p.scanned s.pins.panel, p.scanned_getLsbD s.pins.panel, hmore, hlast⟩
  · rw [State.duePanel, if_pos hsettled]
    exact flatMap_whenDue _ _ _
  · have hstep : step s = s.slot := by simp [step, hpending]
    rw [hstep]
    exact if_neg hstrobe

/-! ## Events that fall due -/

@[simp] theorem mem_whenDue {i j : Instr} {due : Bool} : i ∈ whenDue due j ↔ due = true ∧ i = j := by
  unfold whenDue
  cases due <;> simp

/-- A timer that has run out. -/
def RunsOut (t : Option Timer) : Prop := ∃ w : Timer, t = some w ∧ w.limit ≤ w.count

theorem timerDue_iff (t : Option Timer) : timerDue t = true ↔ RunsOut t := by
  cases t <;> simp [timerDue, RunsOut, Timer.due]

section
variable (s : State) (i : Instr)

theorem State.mem_dueChute (c : Chute) : i ∈ s.dueChute c ↔
    ((s.chute c).state = .inCoin ∧ s.pins.coin[c] = true ∧ (s.chute c).maxWidth ≤ (s.chute c).width)
        ∧ i = .maxTimerExpiry c
      ∨ ((s.chute c).state = .jammed ∧ s.pins.coin[c] = false ∧ Config.jamReleaseTime ≤ (s.chute c).jamCount)
        ∧ i = .jamReleaseExpiry c := by
  unfold State.dueChute
  dsimp only
  cases hstate : (s.chute c).state <;> simp

theorem State.mem_duePulse (u : PulseId) : i ∈ s.duePulse u ↔ ∃ p, s.pulse u = some p
    ∧ ((p.phase = .lead ∧ p.lead ≤ p.count) ∧ i = .leadEnd u ∨ (p.phase = .active ∧ p.active ≤ p.count) ∧ i = .activeEnd u
      ∨ (p.phase = .trail ∧ p.trail ≤ p.count) ∧ i = .trailEnd u) := by
  unfold State.duePulse
  cases hpulse : s.pulse u with
  | none => simp
  | some p => cases hphase : p.phase <;> simp [hphase]

theorem State.mem_dueEcho (b : Bay) (m : CoinLine) : i ∈ s.dueEcho b m ↔
    ((∃ n, s.filter b m = .counting n ∧ Config.echoWidth ≤ n) ∨ (s.filter b m = .dark ∧ m ∈ s.filters[b].late))
      ∧ i = .echo b m := by
  unfold State.dueEcho
  cases hfilter : s.filter b m <;> simp

theorem State.mem_dueBay (b : Bay) : i ∈ s.dueBay b ↔
    ((s.bay b).state = .starting ∧ RunsOut (s.bay b).timer) ∧ i = .resetHoldExpiry b
      ∨ ((s.bay b).state = .booting ∧ RunsOut (s.bay b).timer) ∧ i = .bootLimitExpiry b
      ∨ ((s.bay b).state = .cooling ∧ RunsOut (s.bay b).timer) ∧ i = .coolingExpiry b := by
  rw [← timerDue_iff]
  unfold State.dueBay
  cases timerDue (s.bay b).timer
  · simp
  · cases hstate : (s.bay b).state <;> simp

theorem State.mem_dueAtBay (b : Bay) : i ∈ (s.dueAtBay b).flatten ↔
    RunsOut (s.feeder b).window ∧ i = .echoWindowExpiry b ∨ (∃ m, i ∈ s.dueEcho b m) ∨ i ∈ s.dueBay b
      ∨ ((s.checker b).state = .locked ∧ Config.fieldGapTime ≤ (s.checker b).gap)
        ∧ i = .fieldGapExpiry b := by
  have hlines : (∃ m, i ∈ s.dueEcho b m) ↔ i ∈ s.dueEcho b .one ∨ i ∈ s.dueEcho b .two :=
    ⟨fun ⟨m, hm⟩ => by cases m; exacts [.inl hm, .inr hm], fun h => h.elim (⟨_, ·⟩) (⟨_, ·⟩)⟩
  simp [State.dueAtBay, timerDue_iff, hlines, or_assoc]

theorem State.mem_duePanel : i ∈ s.duePanel ↔
    (s.panel.settled = true ∧ ∃ w : Switch, Config.debounceSamples ≤ s.panel.counts[w]
        ∧ i = .switchEvent w (if s.panel.pressed.contains w then .release else .press))
      ∨ s.panel.settled = false ∧ ∃ s1 s2 s3 s4, s.panel.samples = [s1, s2, s3, s4]
        ∧ i = .firstCompleteDebounce s1 s2 s3 s4 := by
  have hall : ∀ w : Switch, w ∈ allSwitches := List.mem_finRange
  unfold State.duePanel
  cases hsettled : s.panel.settled with
  | true => simp [hall]
  | false =>
    simp only [Bool.false_eq_true, if_false, false_and, false_or, true_and]
    split
    next s1 s2 s3 s4 hsamples => simp [hsamples]
    next hnone =>
      refine iff_of_false (by simp) fun ⟨s1, s2, s3, s4, hsamples, _⟩ => hnone s1 s2 s3 s4 hsamples

theorem Crosspoint.rampDue_iff (x : Crosspoint) : x.rampDue = true ↔
    (x.audio = .rising ∧ Config.gainFull ≤ x.gain) ∨ (x.audio = .falling ∧ x.gain = 0) := by
  unfold Crosspoint.rampDue
  cases x.audio <;> simp

/-- A list of the two pulse units, or of the two links, is one of either. -/
theorem exists_pulseId {p : PulseId → Prop} : (∃ u, p u) ↔ p .a ∨ p .b :=
  ⟨fun ⟨u, hu⟩ => by cases u; exacts [.inl hu, .inr hu], fun h => h.elim (⟨_, ·⟩) (⟨_, ·⟩)⟩

theorem exists_link {p : Link → Prop} : (∃ l, p l) ↔ p .selector ∨ p .service :=
  ⟨fun ⟨l, hl⟩ => by cases l; exacts [.inl hl, .inr hl], fun h => h.elim (⟨_, ·⟩) (⟨_, ·⟩)⟩

/-- What falls due at the bays. -/
def State.dueAtBays : List Instr := (allBays.flatMap s.dueAtBay).flatten

theorem State.mem_dueAtBays : i ∈ s.dueAtBays ↔ ∃ b,
    RunsOut (s.feeder b).window ∧ i = .echoWindowExpiry b ∨ (∃ m, i ∈ s.dueEcho b m) ∨ i ∈ s.dueBay b
      ∨ ((s.checker b).state = .locked ∧ Config.fieldGapTime ≤ (s.checker b).gap) ∧ i = .fieldGapExpiry b := by
  have hall : ∀ b : Bay, b ∈ allBays := by decide
  simp only [← State.mem_dueAtBay, State.dueAtBays, List.mem_flatten, List.mem_flatMap, hall, true_and]
  exact ⟨fun ⟨g, ⟨b, hg⟩, hi⟩ => ⟨b, g, hg, hi⟩, fun ⟨b, g, hg, hi⟩ => ⟨g, ⟨b, hg⟩, hi⟩⟩

/-- The events due, block by block. -/
theorem State.mem_due : i ∈ s.due ↔
    (∃ c, i ∈ s.dueChute c) ∨ (∃ u, i ∈ s.duePulse u) ∨ i ∈ s.dueAtBays
      ∨ RunsOut s.gate.timer ∧ i = .startWidthExpiry ∨ i ∈ s.duePanel ∨ RunsOut s.panel.menuHold ∧ i = .menuHoldExpiry
      ∨ RunsOut s.routing.quiet ∧ i = .quietExpiry ∨ RunsOut s.monitor.settle ∧ i = .settleExpiry
      ∨ s.monitor.rampDue = true ∧ i = .audioRampEnd
      ∨ (∃ l, Config.byteGapTime < (s.link l).rx.gap ∧ i = .frameGapTimeout l)
      ∨ i = .serviceKeyChange s.pins.key ∧ Config.debounceSamples ≤ s.key.count
      ∨ ∃ p ∈ s.routing.pulses, .routePulseExpiry p.switch p.line = i ∧ p.timer.limit ≤ p.timer.count := by
  have hfilter : ∀ gs : List (List Instr), i ∈ (gs.filter fun g => !g.isEmpty).flatten ↔ i ∈ gs.flatten := fun gs => by
    simp only [List.mem_flatten, List.mem_filter]
    refine exists_congr fun g => and_congr_left fun hi => and_iff_left ?_
    simp [List.ne_nil_of_mem hi]
  have hchutes : i ∈ (allChutes.map s.dueChute).flatten ↔ ∃ c, i ∈ s.dueChute c := by
    have hall : ∀ c : Chute, c ∈ allChutes := by decide
    simp [hall]
  have hroutes : i ∈ (s.routing.pulses.map fun p => whenDue p.timer.due (.routePulseExpiry p.switch p.line)).flatten ↔
      ∃ p ∈ s.routing.pulses, .routePulseExpiry p.switch p.line = i ∧ p.timer.limit ≤ p.timer.count := by
    simp [Timer.due, and_comm, eq_comm]
  unfold State.due State.dueGroups State.dueAtBays
  rw [hfilter, List.flatten_append, List.flatten_append, List.flatten_append, List.flatten_append]
  simp only [List.mem_append, hchutes, hroutes, List.flatten_cons, List.flatten_nil, mem_whenDue, State.dueGap,
    timerDue_iff, decide_eq_true_eq, List.append_nil, exists_pulseId, exists_link, or_assoc,
    and_comm (b := i = .serviceKeyChange s.pins.key)]

end

theorem dueEventsAtLimits : Claims.DueEventsAtLimits := by
  intro s runsOut
  refine ⟨fun c => ⟨?_, ?_⟩, fun u => ⟨?_, ?_, ?_⟩, fun b => ⟨?_, ?_, ?_, ?_, ?_, fun m => ?_⟩, ?_, ?_, ?_, ?_, ?_,
    fun w n => ?_, fun l => ?_, fun x => ?_, fun s1 s2 s3 s4 => ?_, fun w e => ?_⟩
  all_goals
    simp [State.mem_due, State.mem_dueChute, State.mem_duePulse, State.mem_dueAtBays, State.mem_dueEcho,
      State.mem_dueBay, State.mem_duePanel, Crosspoint.rampDue_iff, runsOut, RunsOut, Config.jamReleaseTime,
      Config.echoWidth, Config.fieldGapTime, Config.byteGapTime, Config.debounceSamples, and_assoc]

/-! ## The period boundary of a tick (R18, R19) -/

/-- A coil at a period boundary: one whose PULL_IN has lasted its time holds (R18). -/
def Coil.bounded (k : Coil) : Coil :=
  match k with
  | .pullIn n => if 60 ≤ n then .hold else .pullIn n
  | .off => .off
  | .hold => .hold
  | .tripped => .tripped

/-- The coils' commands of a period boundary, taken one after another. -/
def takeCoils (is : List Instr) (r : Result) : Result :=
  is.foldl (fun r i => match r with
    | .next u => exec i u
    | .fault f => .fault f
    | .refused q => .refused q) r

theorem takeCoils_append (is js : List Instr) (r : Result) : takeCoils (is ++ js) r = takeCoils js (takeCoils is r) :=
  List.foldl_append

/-- One coil's command, when it is due, sets that coil alone. -/
theorem takeCoils_dueCoil {t w : State} {c : Chute} (h : w.intake.coils[c] = t.intake.coils[c]) :
    takeCoils (t.dueCoil c) (.next w)
      = .next (w.setIntake { w.intake with coils := w.intake.coils.set c t.intake.coils[c].bounded }) := by
  have hsame : w.setIntake { w.intake with coils := w.intake.coils.set c t.intake.coils[c] } = w := by
    rw [← h, show w.intake.coils.set c w.intake.coils[c] = w.intake.coils from Vector.set_getElem_self c.isLt]
    rfl
  unfold State.dueCoil
  cases hcoil : t.intake.coils[c] with
  | pullIn n =>
    rw [hcoil] at hsame h
    by_cases hn : 60 ≤ n
    · have hdue : whenDue (decide (Config.pullInTime ≤ n)) (.pullInExpiry c) = [.pullInExpiry c] :=
        if_pos (decide_eq_true hn)
      have hhold : (Coil.pullIn n).bounded = Coil.hold := if_pos hn
      dsimp only
      rw [hdue, hhold]
      show Host.Outcome.next (w.setIntake { w.intake with coils := w.intake.coils.set c w.intake.coils[c].pulledIn }) = _
      rw [h]
      rfl
    · have hdue : whenDue (decide (Config.pullInTime ≤ n)) (.pullInExpiry c) = [] :=
        if_neg (by rw [decide_eq_true_iff]; exact hn)
      have hpull : (Coil.pullIn n).bounded = Coil.pullIn n := if_neg hn
      dsimp only
      rw [hdue, hpull, hsame]
      rfl
  | off | hold | tripped =>
    rw [hcoil] at hsame
    exact congrArg Host.Outcome.next hsame.symm

/-- The coils of chutes one after another. -/
theorem takeCoils_run (t : State) (cs : List Chute) (hcs : cs.Nodup) (w : State)
    (h : ∀ c ∈ cs, w.intake.coils[c] = t.intake.coils[c]) : takeCoils (cs.flatMap t.dueCoil) (.next w)
      = .next (w.setIntake { w.intake with coils := Vector.ofFn fun c =>
          if c ∈ cs then t.intake.coils[c].bounded else w.intake.coils[c] }) := by
  induction cs generalizing w with
  | nil =>
    have hsame : (Vector.ofFn fun c : Chute => w.intake.coils[c]) = w.intake.coils := by
      ext i hi
      exact Vector.getElem_ofFn hi
    simp only [List.not_mem_nil, if_false, hsame]
    rfl
  | cons c cs ih =>
    obtain ⟨hnot, hnodup⟩ := List.nodup_cons.1 hcs
    let w' := w.setIntake { w.intake with coils := w.intake.coils.set c t.intake.coils[c].bounded }
    have hsame : w'.intake.coils[c] = t.intake.coils[c].bounded := Vector.getElem_set_self c.isLt
    have hother : ∀ d : Chute, d ≠ c → w'.intake.coils[d] = w.intake.coils[d] := fun d hd =>
      Vector.getElem_set_ne c.isLt d.isLt fun e => hd (Fin.ext e.symm)
    have hrest : ∀ d ∈ cs, w'.intake.coils[d] = t.intake.coils[d] := fun d hd => by
      have hne : d ≠ c := fun e => hnot (e ▸ hd)
      rw [hother d hne, h d (List.mem_cons_of_mem c hd)]
    rw [List.flatMap_cons, takeCoils_append, takeCoils_dueCoil (h c List.mem_cons_self), ih hnodup w' hrest]
    have hcoils : (Vector.ofFn fun d : Chute => if d ∈ cs then t.intake.coils[d].bounded else w'.intake.coils[d])
        = Vector.ofFn fun d : Chute => if d ∈ c :: cs then t.intake.coils[d].bounded else w.intake.coils[d] := by
      congr 1
      funext d
      by_cases hd : d = c
      · subst hd
        rw [if_neg hnot, if_pos List.mem_cons_self, hsame]
      · rw [hother d hd]
        simp [hd]
    rw [hcoils]
    rfl

/-- A period boundary gives the duty its pending value, and holds the coils whose PULL_IN has lasted its time. -/
theorem State.periodBoundary_eq (v : State) : v.periodBoundary = .next (v.setIntake { v.intake with
    activeDuty := v.intake.pendingDuty, coils := Vector.ofFn fun c => v.intake.coils[c].bounded }) := by
  let t := v.setIntake { v.intake with activeDuty := v.intake.pendingDuty }
  have hall : ∀ c : Chute, c ∈ allChutes := by decide
  have hboundary : v.periodBoundary = takeCoils (allChutes.flatMap t.dueCoil) (.next t) := rfl
  rw [hboundary, takeCoils_run t allChutes (by decide) t fun _ _ => rfl]
  simp only [hall, if_true]
  rfl

/-! ## The events of a tick, in their free order (log entry 8) -/

theorem State.freeOrder_perm (u : State) : (inFreeRank u.choices u.dueGroups).flatten.Perm u.due :=
  (inFreeRank_perm u.choices u.dueGroups).flatten

/-- The switch events of strobe 7 keep their own order (log entry 40). -/
theorem State.duePanel_sublist (u : State) : u.duePanel.Sublist (inFreeRank u.choices u.dueGroups).flatten := by
  by_cases hempty : u.duePanel = []
  · rw [hempty]
    exact List.nil_sublist _
  · have hgroup : u.duePanel ∈ u.dueGroups := by
      unfold State.dueGroups
      rw [List.mem_filter]
      refine ⟨?_, by simpa using hempty⟩
      simp only [List.mem_append, List.mem_cons, true_or, or_true]
    exact List.sublist_flatten_of_mem ((inFreeRank_perm u.choices u.dueGroups).mem_iff.2 hgroup)

theorem tickTakesDueEvents : Claims.TickTakesDueEvents := by
  refine ⟨?_, fun s i rest => ⟨rfl, fun hdue t ht => ?_, fun hnot => ?_⟩⟩
  · intro s hpending hstrobe v u
    have hboundary : v.periodBoundary = .next u := by
      rw [State.periodBoundary_eq]
      rfl
    have hstep : step s = takeAllDue (inFreeRank u.choices u.dueGroups).flatten u.drawn := by
      have hslot : step s = s.slot := by simp [step, hpending]
      have htick : s.slot = State.tick { s.drain with panel := s.drain.panel.slotEnd s.drain.pins.panel } :=
        if_pos hstrobe
      rw [hslot, htick]
      show (match v.periodBoundary with
        | .next t => takeAllDue (inFreeRank t.choices t.dueGroups).flatten t.drawn
        | .fault f => .fault f
        | .refused q => .refused q) = _
      rw [hboundary]
    refine ⟨fun hnone => ?_, _, u.freeOrder_perm, u.duePanel_sublist, hstep⟩
    have horder : (inFreeRank u.choices u.dueGroups).flatten = [] := (hnone ▸ u.freeOrder_perm).eq_nil
    rw [hstep, horder, takeAllDue_nil]
  · exact takeAllDue_cons_of_next ((State.takeDue_of_due hdue).trans ht)
  · exact takeAllDue_cons_of_next (State.takeDue_of_not_due hnot)

/-- Settles O3: the counts of a tick, a slot's samples, each event's limit, and the order the events are taken in. -/
theorem tickAdvancesRunningCounts : Obligations.TickAdvancesRunningCounts :=
  ⟨tickCountsOn, slotSamplesOneStrobe, dueEventsAtLimits, tickTakesDueEvents⟩

end Sys2Proof.Machine
end

section
/-! Filters at the edges of a meter line, and a pulse from its grant to TRAIL (R31, R36, R38, R49, R50). -/

namespace Sys2Proof.Machine

/-! ## Filters and pulse units: what a read returns after a write -/

@[simp] theorem State.filter_setFilter_same (s : State) (b : Bay) (m : CoinLine) (f : EchoFilter) :
    (s.setFilter b m f).filter b m = f := by
  cases m <;> simp [State.setFilter, State.setFilters, State.filter]

theorem State.filter_setFilter_other (s : State) {b d : Bay} {m n : CoinLine} (f : EchoFilter) (h : (d, n) ≠ (b, m)) :
    (s.setFilter b m f).filter d n = s.filter d n := by
  by_cases hd : d = b
  · subst hd
    cases m <;> cases n <;> simp_all [State.setFilter, State.setFilters, State.filter]
  · have hset : ∀ x : BayFilters, (s.setBayFilters b x).filters[d] = s.filters[d] := fun x =>
      Vector.getElem_set_ne b.isLt d.isLt fun e => hd (Fin.ext e.symm)
    cases m <;> cases n
    · exact congrArg BayFilters.one (hset _)
    · exact congrArg BayFilters.two (hset _)
    · exact congrArg BayFilters.one (hset _)
    · exact congrArg BayFilters.two (hset _)

@[simp] theorem State.pulse_setPulse_same (s : State) (u : PulseId) (p : Option Pulse) : (s.setPulse u p).pulse u = p := by
  cases u <;> rfl

theorem State.pulse_setPulse_other (s : State) {u v : PulseId} (p : Option Pulse) (h : v ≠ u) :
    (s.setPulse u p).pulse v = s.pulse v := by
  cases u <;> cases v <;> first | rfl | exact absurd rfl h

/-! ## Meter lines (R49, R50) -/

/-- The level of a meter line that its polarity takes for active, or for inactive. -/
theorem meterLevel_active (p : Polarity) (active : Bool) :
    (match p with
      | .activeLow => !(match p with
        | .activeLow => !active
        | .activeHigh => active)
      | .activeHigh => match p with
        | .activeLow => !active
        | .activeHigh => active) = active := by
  cases p
  · exact Bool.not_not active
  · rfl

/-- A meter pin set to the level that is active, or inactive, reads so. -/
theorem State.meterActive_setMeterPin (s : State) (b : Bay) (m : CoinLine) (active : Bool) :
    (s.setMeterPin b m (s.meterLevel b active)).meterActive b m = active := by
  have hset : ∀ x : MeterPins, (s.pins.meter.set b x)[b] = x := fun x => Vector.getElem_set_self b.isLt
  refine Eq.trans ?_ (meterLevel_active (s.profile b).coin.polarity active)
  cases m <;> simp only [State.meterActive, State.setMeterPin, State.setPins, hset] <;> rfl

/-- An event at a meter line that sets its pin and moves its filter. -/
def State.meterMoved (s : State) (b : Bay) (m : CoinLine) (active : Bool) (f : EchoFilter) : State :=
  (s.setMeterPin b m (s.meterLevel b active)).setFilter b m f

theorem State.meterMoved_spec (s : State) (b : Bay) (m : CoinLine) (active : Bool) (f : EchoFilter) :
    let t := s.meterMoved b m active f
    t.filter b m = f ∧ (∀ d n, (d, n) ≠ (b, m) → t.filter d n = s.filter d n) ∧ t.meterActive b m = active
      ∧ t = { s with pins := t.pins, filters := t.filters } := by
  refine ⟨State.filter_setFilter_same _ b m f, fun d n hd => ?_, ?_, ?_⟩
  · exact State.filter_setFilter_other _ f hd
  · refine Eq.trans ?_ (s.meterActive_setMeterPin b m active)
    cases m <;> rfl
  · cases m <;> rfl

theorem EchoFilter.edge_eq (f : EchoFilter) : f.edge = if f = .ready then .counting 0 else f := by
  cases f <;> rfl

theorem EchoFilter.release_eq (f : EchoFilter) : f.release = if f = .dark then .dark else .ready := by
  cases f <;> rfl

/-- Settles O25: each event sets the pin and moves the filter of its own line. -/
theorem meterEdgesMoveFilter : Obligations.MeterEdgesMoveFilter := fun s b m => by
  rw [← EchoFilter.edge_eq, ← EchoFilter.release_eq]
  exact ⟨⟨_, rfl, s.meterMoved_spec b m true _⟩, ⟨_, rfl, s.meterMoved_spec b m false _⟩⟩

/-! ## Pulses (R31, R36, R38) -/

/-- What the ACTIVE edge makes of a feeder whose slot holds a unit (R38). -/
def State.opened (s : State) (b : Bay) (k : CoinUnit) (f : Feeder) : Feeder :=
  if (s.profile b).coin.echoMode = .meter then
    { f with slot := some { k with status := .echoWait }
             window := some (Timer.start (s.profile b).coin.window) }
  else f

theorem State.setFeeder_self (s : State) (b : Bay) : s.setFeeder b (s.feeder b) = s :=
  congrArg s.setFeeders (Vector.set_getElem_self b.isLt)

theorem State.activeEdge_eq {s : State} {u : PulseId} {p : Pulse} {k : CoinUnit} (hp : s.pulse u = some p)
    (hk : (s.feeder p.bay).slot = some k) : s.activeEdge u =
      (s.setPulse u (some { p with phase := .active, count := 0 })).setFeeder p.bay
        (s.opened p.bay k (s.feeder p.bay)) := by
  let w := s.setPulse u (some { p with phase := .active, count := 0 })
  have hfeeder : w.feeder p.bay = s.feeder p.bay := by cases u <;> rfl
  have hprofile : w.profile p.bay = s.profile p.bay := by cases u <;> rfl
  unfold State.activeEdge
  rw [hp]
  show (match (w.feeder p.bay).slot with
    | none => w
    | some k => if (w.profile p.bay).coin.echoMode = EchoMode.meter then
        w.setFeeder p.bay { w.feeder p.bay with
          slot := some { k with status := .echoWait }
          window := some (Timer.start (w.profile p.bay).coin.window) }
      else w) = _
  rw [hfeeder, hprofile, hk]
  dsimp only
  unfold State.opened
  by_cases hmeter : (s.profile p.bay).coin.echoMode = .meter
  · rw [if_pos hmeter, if_pos hmeter]
  · rw [if_neg hmeter, if_neg hmeter]
    exact (hfeeder ▸ w.setFeeder_self p.bay).symm

/-- A pulse written with one feeder. -/
theorem State.setPulse_setFeeder_spec (s : State) (u : PulseId) (p : Pulse) (b : Bay) (f : Feeder) :
    let t := (s.setPulse u (some p)).setFeeder b f
    t.pulse u = some p ∧ t.feeder b = f ∧ (∀ d : Bay, d ≠ b → t.feeder d = s.feeder d)
      ∧ (∀ v, v ≠ u → t.pulse v = s.pulse v) ∧ t.pulses.pointer = s.pulses.pointer
      ∧ t = { s with feeders := t.feeders, pulses := t.pulses } := by
  refine ⟨State.pulse_setPulse_same s u _, State.feeder_setFeeder_same _ b f, fun d hd => ?_, fun v hv => ?_, ?_, ?_⟩
  · rw [State.feeder_setFeeder_other _ f hd]
    cases u <;> rfl
  · exact State.pulse_setPulse_other s _ hv
  · cases u <;> rfl
  · cases u <;> rfl

theorem State.feeding_frame_trans {s v t : State} (h : v = { s with feeders := v.feeders, pulses := v.pulses })
    (g : t = { v with feeders := t.feeders, pulses := t.pulses }) : t = { s with feeders := t.feeders, pulses := t.pulses } :=
  g.trans (congrArg (fun x : State => { x with feeders := t.feeders, pulses := t.pulses }) h)

theorem State.grantPulse_of_queue {s : State} {u : PulseId} {b : Bay} {k : CoinUnit} {rest : List CoinUnit}
    (h : (s.feeder b).queue = k :: rest) : s.grantPulse u b =
      let p := Pulse.capture b k (s.profile b).coin
      let v := ((s.setFeeder b { s.feeder b with
        queue := rest, slot := some { k with status := .sending }, held := some u }).setPulses
          { s.pulses with pointer := b }).setPulse u (some p)
      if p.lead = 0 then v.activeEdge u else v := by
  unfold State.grantPulse
  dsimp only
  rw [h]
  rfl

theorem grantStartsPulse : Claims.GrantStartsPulse := by
  intro s u b k rest hqueue g opens
  let p := Pulse.capture b k g
  let f := { s.feeder b with queue := rest, slot := some { k with status := .sending }, held := some u }
  let v := ((s.setFeeder b f).setPulses { s.pulses with pointer := b }).setPulse u (some p)
  have hgrant : s.grantPulse u b = if g.lead = 0 then v.activeEdge u else v := State.grantPulse_of_queue hqueue
  have hprofile : v.profile b = s.profile b := by cases u <;> rfl
  have hfeeders : v.feeders = s.feeders.set b f := by cases u <;> rfl
  have hfeeder : v.feeder b = f := (State.feeder_congr (t := s.setFeeder b f) hfeeders b).trans (s.feeder_setFeeder_same b f)
  have hothers : ∀ d : Bay, d ≠ b → v.feeder d = s.feeder d := fun d hd =>
    (State.feeder_congr (t := s.setFeeder b f) hfeeders d).trans (s.feeder_setFeeder_other f hd)
  have hpulses : ∀ w, w ≠ u → v.pulse w = s.pulse w := fun w hw => by
    rw [State.pulse_setPulse_other _ _ hw]
    cases w <;> rfl
  have hpointer : v.pulses.pointer = b := by cases u <;> rfl
  have hframe : v = { s with feeders := v.feeders, pulses := v.pulses } := by cases u <;> rfl
  refine ⟨_, rfl, ?_⟩
  rw [hgrant]
  by_cases hlead : g.lead = 0
  · have hedge : v.activeEdge u = (v.setPulse u (some { p with phase := .active, count := 0 })).setFeeder b
        (v.opened b { k with status := .sending } (v.feeder b)) :=
      State.activeEdge_eq (p := p) (State.pulse_setPulse_same _ u _) (congrArg Feeder.slot hfeeder)
    obtain ⟨tpulse, tfeeder, tothers, tpulses, tpointer, tframe⟩ := v.setPulse_setFeeder_spec u
      { p with phase := .active, count := 0 } b (v.opened b { k with status := .sending } (v.feeder b))
    rw [if_pos hlead, hedge]
    refine ⟨?_, ?_, fun d hd => (tothers d hd).trans (hothers d hd), fun w hw => (tpulses w hw).trans (hpulses w hw),
      tpointer.trans hpointer, ?_⟩
    · rw [tpulse, if_pos hlead]
      rfl
    · rw [tfeeder, hfeeder, State.opened, hprofile]
      by_cases hmeter : g.echoMode = .meter
      · have hopens : opens := ⟨hlead, hmeter⟩
        rw [if_pos hmeter, if_pos hopens, if_pos hopens]
        rfl
      · have hopens : ¬opens := fun ho => hmeter ho.2
        rw [if_neg hmeter, if_neg hopens, if_neg hopens]
    · exact State.feeding_frame_trans hframe tframe
  · rw [if_neg hlead]
    refine ⟨?_, ?_, hothers, hpulses, hpointer, hframe⟩
    · rw [State.pulse_setPulse_same, if_neg hlead]
      rfl
    · rw [hfeeder]
      simp only [opens, hlead, false_and, if_false]
      rfl

theorem pulsePhasesFollow : Claims.PulsePhasesFollow := by
  intro s u p hp
  refine ⟨fun hlead k hk => ?_, fun hactive => ?_⟩
  · have hexec : exec (.leadEnd u) s = .next (s.activeEdge u) := by
      show execLeadEnd u s = _
      rw [execLeadEnd, hp]
      exact congrArg Host.Outcome.next (if_pos hlead)
    obtain ⟨tpulse, tfeeder, tothers, tpulses, tpointer, tframe⟩ := s.setPulse_setFeeder_spec u
      { p with phase := .active, count := 0 } p.bay (s.opened p.bay k (s.feeder p.bay))
    rw [State.activeEdge_eq hp hk] at hexec
    exact ⟨_, hexec, tpulse, tpulses, tpointer, tfeeder, tothers, tframe⟩
  · show execActiveEnd u s = _
    rw [execActiveEnd, hp]
    exact congrArg Host.Outcome.next (if_pos hactive)

/-- Settles O23: a grant, the end of LEAD and the end of ACTIVE. -/
theorem pulseRunsItsPhases : Obligations.PulseRunsItsPhases := ⟨grantStartsPulse, pulsePhasesFollow⟩

end Sys2Proof.Machine
end

section
/-! LATCH and READ_COUNTERS, and the tests of a SELECT (R163, R177, R178). -/

namespace Sys2Proof.Machine

/-! ## LATCH (R177) -/

section
variable {s : State} {l : Link}

theorem State.askLatch_empty (h : s.snapshot = none) :
    s.askLatch l = (s.setSnapshot (some (s.snapshotNow l)), .ack [0x00]) := by
  rw [State.askLatch, h]

theorem State.askLatch_full {k : Snapshot} (h : s.snapshot = some k) :
    s.askLatch l = if k.owner = l then (s, .ack [0x01]) else (s, .nak .snapshotBusy) := by
  rw [State.askLatch, h]

/-! ## READ_COUNTERS (R178) -/

theorem State.askReadCounters_range {x y : Byte} (h : counterRange x y = false) :
    s.askReadCounters l x y = (s, .nak .range) := if_neg (by rw [h]; decide)

theorem State.askReadCounters_within {x y : Byte} (h : counterRange x y = true) :
    s.askReadCounters l x y = (s, .ack (s.counterRecord l x.toNat y.toNat)) := if_pos h

theorem State.counterRecord_own {k : Snapshot} (h : s.ownSnapshot l = some k) (x y : Nat) :
    s.counterRecord l x y = 0x00 :: byteOf k.live :: byteOf k.pool :: counterBytes k.counters x y := by
  rw [State.counterRecord, h]

theorem State.counterRecord_live (h : s.ownSnapshot l = none) (x y : Nat) : s.counterRecord l x y =
    0x01 :: byteOf s.store.live :: byteOf s.store.poolCount :: counterBytes s.audit.counters x y := by
  rw [State.counterRecord, h]

/-- What the end of a counter read's reply brings (R178). -/
theorem State.afterReply_readCounters (x y : Byte) : s.afterReply l (.readCounters x y) =
    if counterRange x y && decide (y.toNat = 49) && (s.ownSnapshot l).isSome then .freeSnapshot else .nothing := rfl

end

theorem counterRange_iff {x y : Byte} :
    counterRange x y = true ↔ x.toNat ≤ y.toNat ∧ y.toNat ≤ 49 ∧ y.toNat - x.toNat ≤ 11 := by
  simp [counterRange, and_assoc]

theorem latchCopiesOnce : Claims.LatchCopiesOnce := by
  intro s l htakes
  refine ⟨fun hempty => ?_, fun k hfull => ⟨fun howner => ?_, fun hother => ?_⟩⟩
  · refine htakes.changes (u := s.setSnapshot (some (s.snapshotNow l))) rfl htakes.settled rfl fun x => ?_
    have hlatch : (s.setLink l x).askLatch l = _ := State.askLatch_empty ((s.setLink_snapshot l x).trans hempty)
    refine hlatch.trans (congrArg (·, _) ?_)
    cases l <;> rfl
  · exact htakes.reads rfl fun x =>
      (State.askLatch_full ((s.setLink_snapshot l x).trans hfull)).trans (if_pos howner)
  · exact htakes.refuses rfl rfl fun x =>
      (State.askLatch_full ((s.setLink_snapshot l x).trans hfull)).trans (if_neg hother)

theorem readCountersFromSnapshotOrLive : Claims.ReadCountersFromSnapshotOrLive := by
  intro s l x y htakes i r
  refine ⟨fun houtside => ?_, fun hfirst hlast hspan => ?_⟩
  · have hrange : counterRange x y = false := by
      rw [Bool.eq_false_iff, Ne, counterRange_iff]
      omega
    have hafter : s.afterReply l r = .nothing := by
      rw [State.afterReply_readCounters, hrange]
      rfl
    exact htakes.refuses rfl hafter fun k => State.askReadCounters_range hrange
  · have hrange : counterRange x y = true := counterRange_iff.2 ⟨hfirst, hlast, hspan⟩
    refine ⟨fun k hfull howner => ?_, fun hother => ?_⟩
    · have hown : s.ownSnapshot l = some k := State.ownSnapshot_eq_some.2 ⟨hfull, howner⟩
      refine ⟨htakes.reads rfl fun z => ?_, ?_⟩
      · refine (State.askReadCounters_within hrange).trans (congrArg (fun d => (_, Answer.ack d)) ?_)
        exact State.counterRecord_own ((s.setLink_ownSnapshot l l z).trans hown) _ _
      · rw [State.afterReply_readCounters, hrange, hown]
        by_cases hlast' : y.toNat = 49 <;> simp [hlast']
    · have hnone : s.ownSnapshot l = none := State.ownSnapshot_eq_none.2 hother
      refine ⟨htakes.reads rfl fun z => ?_, ?_⟩
      · refine (State.askReadCounters_within hrange).trans (congrArg (fun d => (_, Answer.ack d)) ?_)
        rw [State.counterRecord_live ((s.setLink_ownSnapshot l l z).trans hnone), State.setLink_store, State.setLink_audit]
      · rw [State.afterReply_readCounters, hnone]
        simp

/-- Settles O54: LATCH by the snapshot it finds, READ_COUNTERS by its range and its link's own snapshot. -/
theorem snapshotLatchedAndRead : Obligations.SnapshotLatchedAndRead := ⟨latchCopiesOnce, readCountersFromSnapshotOrLive⟩

/-! ## The tests of a SELECT (R163) -/

section
variable {s : State} {l : Link} {x : Byte} {t : Target}

theorem targetArg_outside (h : 8 < x.toNat) : targetArg x = none := by
  have hmenu : x ≠ 0x08 := fun e => by
    rw [e] at h
    exact absurd h (by decide)
  rw [targetArg, if_neg hmenu, bayArg_outside (by omega)]
  rfl

theorem State.askSelectByte_range (h : 8 < x.toNat) : s.askSelectByte l x = (s, .nak .range) := by
  rw [State.askSelectByte, targetArg_outside h]

theorem State.askSelectByte_within (h : targetArg x = some t) : s.askSelectByte l x = s.askSelect l t := by
  rw [State.askSelectByte, h]

theorem State.unselectable_iff : s.unselectable t = true ↔ ∃ b, t = .bay b ∧ s.Barred b := by
  unfold State.Barred State.unselectable
  cases t with
  | menu => simp
  | bay b => cases hstate : (s.bay b).state <;> simp [hstate]

theorem State.askSelect_barred (h : s.unselectable t = true) : s.askSelect l t = (s, .nak .state) := if_pos h

theorem State.askSelect_menu (h : s.unselectable t = false) (hstage : s.stage = .menu) :
    s.askSelect l t = if t = .menu then (s, .nak .already) else (s.begin t (.select l), .ack []) := by
  rw [State.askSelect, h, hstage]
  rfl

theorem State.askSelect_play {b : Bay} (h : s.unselectable t = false) (hstage : s.stage = .play b) :
    s.askSelect l t = if t = .bay b then (s, .nak .already) else (s.begin t (.select l), .ack []) := by
  rw [State.askSelect, h, hstage]
  rfl

theorem State.askSelect_handover {r : HandoverRecord} (h : s.unselectable t = false) (hstage : s.stage = .handover r) :
    s.askSelect l t = if t = r.target then (s, .ack [])
      else if r.phase = .quiet then (s, .nak .busy)
      else if s.deadOrigin r t then (s, .nak .state)
      else (s.retarget r t (.select l), .ack []) := by
  rw [State.askSelect, h, hstage]
  rfl

theorem State.deadOrigin_iff {r : HandoverRecord} : s.deadOrigin r t = true ↔
    ∃ b, t = .bay b ∧ r.origin = .bay b ∧ (s.bay b).state ≠ .running := by
  unfold State.deadOrigin
  cases t <;> simp [State.isRunning]

end

/-- What a SELECT looks at in its tests does not lie in a link's record. -/
theorem State.setLink_selectTests (s : State) (l : Link) (x : LinkState) (r : HandoverRecord) (t : Target) :
    (s.setLink l x).stage = s.stage ∧ (s.setLink l x).unselectable t = s.unselectable t
      ∧ (s.setLink l x).deadOrigin r t = s.deadOrigin r t := by
  cases l <;> exact ⟨rfl, rfl, rfl⟩

/-- Settles O51: the tests of R163 one after another. -/
theorem selectTestsInOrder : Obligations.SelectTestsInOrder := by
  intro s l x i r htakes
  refine ⟨fun hrange => htakes.refuses rfl rfl fun k => State.askSelectByte_range hrange, fun t ht => ?_⟩
  intro barred
  have hbarred : s.unselectable t = true ↔ barred := State.unselectable_iff
  have hperform : ∀ k, (s.setLink l k).perform l r = (s.setLink l k).askSelect l t := fun k =>
    State.askSelectByte_within ht
  refine ⟨fun hb => htakes.refuses rfl rfl fun k => ?_, fun hb => ?_⟩
  · exact (hperform k).trans (State.askSelect_barred ((s.setLink_selectTests l k (.begun t t .failed) t).2.1.trans (hbarred.2 hb)))
  · have hfree : s.unselectable t = false := Bool.eq_false_iff.2 (hb ∘ hbarred.1)
    have hfree' (k : LinkState) : (s.setLink l k).unselectable t = false :=
      (s.setLink_selectTests l k (.begun t t .failed) t).2.1.trans hfree
    have hstage (k : LinkState) : (s.setLink l k).stage = s.stage := s.setLink_stage l k
    refine ⟨fun hmenu hto => ?_, fun b hplay hto => ?_, fun h hhand => ⟨fun hto => ?_, fun hto hquiet => ?_,
      fun hto hnot b hbay horigin hrun => ?_⟩⟩
    · exact htakes.refuses rfl rfl fun k =>
        (hperform k).trans ((State.askSelect_menu (hfree' k) ((hstage k).trans hmenu)).trans (if_pos hto))
    · exact htakes.refuses rfl rfl fun k =>
        (hperform k).trans ((State.askSelect_play (hfree' k) ((hstage k).trans hplay)).trans (if_pos hto))
    · exact htakes.reads rfl fun k =>
        (hperform k).trans ((State.askSelect_handover (hfree' k) ((hstage k).trans hhand)).trans (if_pos hto))
    · exact htakes.refuses rfl rfl fun k => (hperform k).trans
        ((State.askSelect_handover (hfree' k) ((hstage k).trans hhand)).trans ((if_neg hto).trans (if_pos hquiet)))
    · have hdead : s.deadOrigin h t = true := State.deadOrigin_iff.2 ⟨b, hbay, horigin, hrun⟩
      exact htakes.refuses rfl rfl fun k => (hperform k).trans
        ((State.askSelect_handover (hfree' k) ((hstage k).trans hhand)).trans ((if_neg hto).trans ((if_neg hnot).trans
          (if_pos ((s.setLink_selectTests l k h t).2.2.trans hdead)))))

end Sys2Proof.Machine
end

section
/-! The panel: the first complete debounce and the switch events (R99 to R102, R109, R111). -/

namespace Sys2Proof.Machine

/-! ## Sets of switches -/

theorem mem_insertSwitch {w k : Switch} {l : List Switch} : k ∈ insertSwitch w l ↔ k = w ∨ k ∈ l := by
  induction l with
  | nil => exact List.mem_cons
  | cons x rest ih =>
    rw [insertSwitch]
    split
    · exact List.mem_cons
    · split
      next _ hx => simp [hx]
      · rw [List.mem_cons, ih, List.mem_cons]
        tauto

theorem mem_removeSwitch {w k : Switch} {l : List Switch} : k ∈ removeSwitch w l ↔ k ∈ l ∧ k ≠ w := by
  rw [removeSwitch, List.mem_filter, decide_eq_true_iff]

theorem mem_uniteSwitches {k : Switch} {l m : List Switch} : k ∈ uniteSwitches l m ↔ k ∈ l ∨ k ∈ m := by
  induction m generalizing l with
  | nil => simp [uniteSwitches]
  | cons x rest ih =>
    have hstep : uniteSwitches l (x :: rest) = uniteSwitches (insertSwitch x l) rest := rfl
    rw [hstep, ih, mem_insertSwitch, List.mem_cons]
    tauto

/-! ## The first complete debounce (R100) -/

/-- The count four scans leave: the pressed samples since the last open one. -/
theorem countAfter_four (s1 s2 s3 s4 : BitVec 64) (w : Switch) : countAfter [s1, s2, s3, s4] w =
    if s4.getLsbD w = false then 0
    else if s3.getLsbD w = false then 1
    else if s2.getLsbD w = false then 2
    else if s1.getLsbD w = false then 3 else 4 := by
  have hcount : ∀ (n : Nat) (raw : Bool), debounceCount n raw false = if raw = false then 0 else n + 1 := fun _ _ => rfl
  simp only [countAfter, List.foldl_cons, List.foldl_nil, hcount, sampleOf]
  split
  · rfl
  · split
    · rfl
    · split
      · rfl
      · split <;> rfl

theorem countAfter_eq_four {s1 s2 s3 s4 : BitVec 64} {w : Switch} : countAfter [s1, s2, s3, s4] w = 4 ↔
    s1.getLsbD w = true ∧ s2.getLsbD w = true ∧ s3.getLsbD w = true ∧ s4.getLsbD w = true := by
  rw [countAfter_four]
  cases s1.getLsbD w <;> cases s2.getLsbD w <;> cases s3.getLsbD w <;> cases s4.getLsbD w <;> decide

theorem State.mem_firstDebounce_pressed (s : State) (scans : List (BitVec 64)) (w : Switch) :
    w ∈ (s.firstDebounce scans).panel.pressed ↔ countAfter scans w = 4 := by
  have hpressed : (s.firstDebounce scans).panel.pressed =
      allSwitches.filter fun w => decide (countAfter scans w = Config.debounceSamples) := rfl
  rw [hpressed, List.mem_filter, decide_eq_true_iff]
  exact and_iff_right (List.mem_finRange w)

/-- Settles O37: the pressed set and the counts that the four scans leave. -/
theorem firstDebounceMasksHeldSwitches : Obligations.FirstDebounceMasksHeldSwitches := by
  intro s s1 s2 s3 s4 hsettled
  let scans := [s1, s2, s3, s4]
  let u := s.setPins { s.pins with panel := s.debouncedContacts scans s4 }
  have hexec : exec (.firstCompleteDebounce s1 s2 s3 s4) s = .next (u.firstDebounce scans) :=
    congrArg Host.Outcome.next (if_neg (by rw [hsettled]; decide))
  have hpressed (w : Switch) := u.mem_firstDebounce_pressed scans w
  refine ⟨_, hexec, fun w => (hpressed w).trans countAfter_eq_four, rfl, rfl, rfl, fun w => ?_, rfl, rfl⟩
  have hcount : (u.firstDebounce scans).panel.counts[w] = if countAfter scans w = 4 then 0 else countAfter scans w :=
    Vector.getElem_ofFn w.isLt
  rw [hcount]
  simp only [hpressed, scans, countAfter_four]
  cases s1.getLsbD w <;> cases s2.getLsbD w <;> cases s3.getLsbD w <;> cases s4.getLsbD w <;> decide

/-! ## Switch events (R99, R101) -/

section
variable {s : State} {w : Switch} {e : Edge}

/-- A switch event that changes a debounced state is taken by the Route Engine, the contact standing at the new
level. -/
theorem exec_switchEvent (hsettled : s.panel.settled = true) (hw : w ∈ s.panel.pressed ↔ e = .release) :
    exec (.switchEvent w e) s = .next ((s.setContact w (edgePresses e)).takeSwitch w e).drain := by
  have hcontains : s.panel.pressed.contains w = decide (e = .release) := by
    rw [Bool.eq_iff_iff, List.contains_iff_mem, decide_eq_true_iff, hw]
  have hcounts : (s.setContact w (edgePresses e)).eventCounts w e = true := by
    show (s.panel.settled && decide (s.panel.pressed.contains w ≠ edgePresses e)) = true
    rw [hsettled, hcontains]
    cases e <;> rfl
  exact congrArg Host.Outcome.next (if_pos hcounts)

/-- What a switch event notes, but for the menu-hold timer. -/
theorem State.notes_notePress (s : State) (w : Switch) (e : Edge) : s.Notes (s.notePress w e) w e where
  pressed k := by
    cases e with
    | press =>
      refine (mem_insertSwitch (l := s.panel.pressed)).trans ?_
      by_cases hk : k = w <;> simp [hk]
    | release => exact (mem_removeSwitch (l := s.panel.pressed)).trans (by simp)
  mask k := by
    cases e with
    | press => exact (and_iff_left (.inr rfl)).symm
    | release => exact (mem_removeSwitch (l := s.panel.mask)).trans (by simp)
  rest := by cases e <;> rfl

/-- The notes of an event are those of any state with the same panel but for the menu-hold timer. -/
theorem State.Notes.of_panel {a t u : State} (h : s.Notes t w e) (ha : a.panel = s.panel)
    (hu : u.panel = { t.panel with menuHold := u.panel.menuHold }) : a.Notes u w e where
  pressed k := by rw [hu, ha]; exact h.pressed k
  mask k := by rw [hu, ha]; exact h.mask k
  rest := by
    rw [hu, h.rest, ha]

/-- An event that leaves a switch pressed, or comes while no quiet wait is WAITING, ends none. -/
theorem State.quietCheck_stands (h : e = .press ∨ s.routing.quiet = none ∨ ∃ k, k ∈ s.panel.pressed) :
    s.quietCheck e = s := by
  refine if_neg fun ⟨he, hquiet, hpressed⟩ => ?_
  rcases h with he' | hnone | ⟨k, hk⟩
  · exact absurd (he'.symm.trans he) (by decide)
  · rw [hnone] at hquiet
    exact absurd hquiet (by decide)
  · rw [hpressed] at hk
    exact absurd hk List.not_mem_nil

theorem State.takeSwitch_masked (h : w ∈ s.panel.mask) : s.takeSwitch w e = (s.notePress w e).quietCheck e := by
  have hmask : s.panel.mask.contains w = true := List.contains_iff_mem.2 h
  unfold State.takeSwitch
  rw [hmask]
  rfl

theorem State.takeSwitch_unmasked (h : w ∉ s.panel.mask) :
    s.takeSwitch w e = ((s.notePress w e).dealSwitch w e).quietCheck e := by
  have hmask : s.panel.mask.contains w = false := Bool.eq_false_iff.2 (h ∘ List.contains_iff_mem.1)
  unfold State.takeSwitch
  rw [hmask]
  rfl

theorem State.dealSwitch_menu (h : s.stage = .menu) :
    s.dealSwitch w e = s.notifyOn .selector (.panel e w (s.tables.cabinet.panel.role w)) := by
  rw [State.dealSwitch, h]

theorem State.dealSwitch_handover {r : HandoverRecord} (h : s.stage = .handover r) :
    s.dealSwitch w e = if s.tables.cabinet.panel.menu = w then s.menuSwitchEvent e else s := by
  rw [State.dealSwitch, h]

theorem State.dealSwitch_play {b : Bay} (h : s.stage = .play b) : s.dealSwitch w e = s.playEvent b w e := by
  rw [State.dealSwitch, h]

end

/-! ## Switch events in MENU and in HANDOVER, and masked releases (R101, R102, R109) -/

/-- A state after a switch event's contact and notes. -/
def State.noted (s : State) (w : Switch) (e : Edge) : State := (s.setContact w (edgePresses e)).notePress w e

theorem State.notes_noted (s : State) (w : Switch) (e : Edge) : s.Notes (s.noted w e) w e :=
  ((s.setContact w (edgePresses e)).notes_notePress w e).of_panel rfl rfl

theorem State.noted_frame (s : State) (w : Switch) (e : Edge) :
    s.noted w e = { s with pins := (s.noted w e).pins, panel := (s.noted w e).panel } := rfl

theorem State.noted_menuHold (s : State) (w : Switch) (e : Edge) : (s.noted w e).panel.menuHold = s.panel.menuHold := rfl

/-- A switch event that is noted and has no other effect. -/
theorem exec_switchEvent_noted {s : State} {w : Switch} {e : Edge} (hs : s.Settled) (hsettled : s.panel.settled = true)
    (hw : w ∈ s.panel.pressed ↔ e = .release) (hdeal : w ∈ s.panel.mask ∨ (s.noted w e).dealSwitch w e = s.noted w e)
    (hquiet : e = .press ∨ s.routing.quiet = none ∨ ∃ k ∈ s.panel.pressed, k ≠ w) :
    exec (.switchEvent w e) s = .next (s.noted w e) := by
  have hcheck : (s.noted w e).quietCheck e = s.noted w e := State.quietCheck_stands <|
    hquiet.imp_right fun h => h.imp id fun ⟨k, hk, hne⟩ => ⟨k, ((s.notes_noted w e).pressed k).2 (.inl ⟨hk, hne⟩)⟩
  let a := s.setContact w (edgePresses e)
  have htake : a.takeSwitch w e = s.noted w e := by
    by_cases hmask : w ∈ s.panel.mask
    · exact (State.takeSwitch_masked (s := a) (e := e) hmask).trans hcheck
    · refine (State.takeSwitch_unmasked (s := a) (e := e) hmask).trans ?_
      have hsame : (s.noted w e).dealSwitch w e = s.noted w e := hdeal.resolve_left hmask
      exact (congrArg (State.quietCheck · e) hsame).trans hcheck
  rw [exec_switchEvent hsettled hw, htake, State.drain_settled (s.noted w e) hs]

theorem menuEventSendsPanelNotice : Claims.MenuEventSendsPanelNotice := by
  intro s w e hs hmenu hsettled hquiet hw hmask
  let u := s.noted w e
  have hnotes : s.Notes u w e := s.notes_noted w e
  have hdeal : u.dealSwitch w e = u.notifyOn .selector (.panel e w (s.tables.cabinet.panel.role w)) :=
    State.dealSwitch_menu (s := u) hmenu
  have htake : (s.setContact w (edgePresses e)).takeSwitch w e =
      u.notifyOn .selector (.panel e w (s.tables.cabinet.panel.role w)) := by
    refine (State.takeSwitch_unmasked (s := s.setContact w (edgePresses e)) (e := e) hmask).trans ((congrArg (State.quietCheck · e) hdeal).trans ?_)
    exact State.quietCheck_stands (.inr (.inl hquiet))
  have hexec := exec_switchEvent hsettled hw
  rw [htake, State.drain_settled _ (show (u.notifyOn .selector _).Settled from hs)] at hexec
  refine ⟨_, hexec, rfl, rfl, fun k hk => ?_, ?_, fun k => ?_, rfl⟩
  · exact (hnotes.pressed k).trans (by simp [hk])
  · exact (hnotes.pressed w).trans (by simp)
  · refine (hnotes.mask k).trans (and_iff_left_of_imp fun hk => .inl ?_)
    exact fun heq => hmask (heq ▸ hk)

theorem handoverEventOnlyNoted : Claims.HandoverEventOnlyNoted := by
  intro s r w e hs hstage hsettled hw hmask hmenu hquiet
  have hdeal : (s.noted w e).dealSwitch w e = s.noted w e :=
    (State.dealSwitch_handover (s := s.noted w e) hstage).trans (if_neg hmenu)
  exact ⟨_, exec_switchEvent_noted hs hsettled hw (.inr hdeal) hquiet, s.notes_noted w e, rfl, rfl⟩

theorem maskedReleaseOnlyUnmasks : Claims.MaskedReleaseOnlyUnmasks := by
  intro s w hs hsettled hpressed hmask hquiet
  have hnotes := s.notes_noted w .release
  refine ⟨_, exec_switchEvent_noted hs hsettled (by simp [hpressed]) (.inl hmask) (.inr (.inl hquiet)), fun k => ⟨?_, ?_⟩,
    rfl, rfl⟩
  · exact (hnotes.pressed k).trans (by simp)
  · exact (hnotes.mask k).trans (by simp)

/-- Settles O38: events in MENU, in HANDOVER, and of a masked switch. -/
theorem switchEventsByStageAndMask : Obligations.SwitchEventsByStageAndMask :=
  ⟨menuEventSendsPanelNotice, handoverEventOnlyNoted, maskedReleaseOnlyUnmasks⟩

end Sys2Proof.Machine
end

section
/-! The lines of a bay's harness (R37, R70, R101, R104 to R108, R116). -/

namespace Sys2Proof.Machine

/-! ## The gate's hold on a switch (R66) -/

section
variable {s : State} {b : Bay} {w : Switch}

theorem PanelGroup.isStart_iff (g : PanelGroup) (w : Switch) : g.isStart w = true ↔ g.p1 = some w ∨ g.p2 = some w := by
  rw [PanelGroup.isStart, Bool.or_eq_true, decide_eq_true_iff, decide_eq_true_iff]

theorem State.gateTakes_play (h : s.stage = .play b) (w : Switch) : s.gateTakes w =
    if (s.profile b).play.payMode = .onStart ∧ s.tables.cabinet.panel.isStart w = true then some b else none := by
  have hactive : s.activeBay = some b := by rw [State.activeBay, h]
  rw [State.gateTakes, hactive]

theorem State.gateTakes_eq_none (h : s.stage = .play b) : s.gateTakes w = none ↔
    ¬((s.profile b).play.payMode = .onStart
      ∧ (s.tables.cabinet.panel.p1 = some w ∨ s.tables.cabinet.panel.p2 = some w)) := by
  rw [State.gateTakes_play h, ← PanelGroup.isStart_iff]
  split <;> simp_all

/-! ## A switch event in PLAY (R101) -/

theorem State.playEvent_menu {e : Edge} (h : s.tables.cabinet.panel.menu = w) : s.playEvent b w e = s.menuSwitchEvent e :=
  if_pos h

theorem State.playEvent_release (h : s.tables.cabinet.panel.menu ≠ w) : s.playEvent b w .release = s := by
  unfold State.playEvent
  rw [if_neg h]
  cases s.gateTakes w <;> rfl

theorem State.playEvent_press (h : s.tables.cabinet.panel.menu ≠ w) (hgate : s.gateTakes w = none) :
    s.playEvent b w .press = s.startRoutePulses b w := by
  unfold State.playEvent
  rw [if_neg h, hgate]

theorem State.playEvent_start {g : Bay} (h : s.tables.cabinet.panel.menu ≠ w) (hgate : s.gateTakes w = some g) :
    s.playEvent b w .press = s.startPress g w := by
  unfold State.playEvent
  rw [if_neg h, hgate]

theorem State.startPress_busy (h : s.gate.state ≠ .idle) : s.startPress b w = s := by
  unfold State.startPress
  cases hstate : s.gate.state with
  | idle => exact absurd hstate h
  | paying => rfl
  | firing => rfl

end

/-! ## Lines of the active bay (R104 to R106) -/

section
variable {s : State} {b : Bay}

theorem Routing.runs_iff (g : Routing) (r : Route) :
    g.runs r = true ↔ ∃ p ∈ g.pulses, p.switch = r.switch ∧ p.line = r.line := by
  simp [Routing.runs]

theorem State.directDrives_iff (r : Route) : s.directDrives r = true ↔ r.mode = .direct ∧ r.switch ∈ s.panel.pressed
    ∧ r.switch ∉ s.panel.mask ∧ s.tables.cabinet.panel.menu ≠ r.switch ∧ s.gateTakes r.switch = none := by
  simp [State.directDrives, and_assoc]

theorem State.pulseDrives_iff (r : Route) : s.pulseDrives r = true ↔ r.mode = .pulse ∧ s.routing.runs r = true := by
  simp [State.pulseDrives]

theorem State.startDrives_iff (r : Route) : s.startDrives b r = true ↔
    s.gate.state = .firing ∧ s.gate.bay = some b ∧ s.gate.switch = some r.switch := by
  simp [State.startDrives, and_assoc]

theorem State.lineActive_iff (n : GeneralLine) : s.lineActive b n = true ↔ (s.stage = .play b ∧ (s.bay b).state = .running)
    ∧ ∃ r ∈ s.routeMap b, r.line = n
      ∧ (s.directDrives r = true ∨ s.pulseDrives r = true ∨ s.startDrives b r = true) := by
  simp [State.lineActive, State.isActive, State.isRunning, or_assoc]

/-- A line is high when its activity is that of its polarity's level. -/
theorem level_iff (active : Bool) (p : Polarity) :
    (active == p.activeLevel) = true ↔ (active = true ↔ p = .activeHigh) := by
  cases active <;> cases p <;> decide

/-- The timers of the PULSE routes from a switch that are stopped, started (R106). -/
def State.startedPulses (s : State) (b : Bay) (w : Switch) : List RoutePulse :=
  ((s.routeMap b).filter fun r => decide (r.switch = w) && decide (r.mode = .pulse) && !s.routing.runs r).map fun r =>
    { switch := r.switch, line := r.line, timer := Timer.start r.width }

theorem State.mem_startedPulses {w : Switch} {p : RoutePulse} : p ∈ s.startedPulses b w ↔
    ∃ r ∈ s.routeMap b, r.switch = w ∧ r.mode = .pulse ∧ s.routing.runs r = false
      ∧ p = { switch := w, line := r.line, timer := { count := 0, limit := r.width } } := by
  simp only [State.startedPulses, List.mem_map, List.mem_filter, Bool.and_eq_true, decide_eq_true_eq, Bool.not_eq_true',
    and_assoc]
  refine exists_congr fun r => and_congr_right fun _ => and_congr_right fun hw => and_congr_right fun _ =>
    and_congr_right fun _ => ?_
  subst hw
  exact eq_comm

theorem State.startRoutePulses_running {w : Switch} (h : s.isRunning b = true) : s.startRoutePulses b w =
    s.setRouting { s.routing with pulses := s.routing.pulses ++ s.startedPulses b w } := if_pos h

end

theorem pressStartsRoutePulses : Claims.PressStartsRoutePulses := by
  intro s b w hs hplay hrunning hsettled hpressed hmask hmenu hgate
  let u := s.noted w .press
  let t := u.setRouting { s.routing with pulses := s.routing.pulses ++ s.startedPulses b w }
  have hdeal : u.dealSwitch w .press = t :=
    ((State.dealSwitch_play (s := u) hplay).trans (State.playEvent_press hmenu hgate)).trans
      (State.startRoutePulses_running (decide_eq_true hrunning))
  have hexec : exec (.switchEvent w .press) s = .next t := by
    have htake : (s.setContact w (edgePresses .press)).takeSwitch w .press = t :=
      (State.takeSwitch_unmasked (s := s.setContact w (edgePresses .press)) (e := .press) hmask).trans
        ((congrArg (State.quietCheck · .press) hdeal).trans (State.quietCheck_stands (.inl rfl)))
    rw [exec_switchEvent hsettled (by simp [hpressed]), htake, State.drain_settled t hs]
  have hline (r : Route) (hr : r ∈ s.routeMap b)
      (hdrives : t.directDrives r = true ∨ t.pulseDrives r = true ∨ t.startDrives b r = true) :
      t.lineActive b r.line = true :=
    (State.lineActive_iff r.line).2 ⟨⟨hplay, hrunning⟩, r, hr, rfl, hdrives⟩
  have hruns (r : Route) (hr : r ∈ s.routeMap b) (hw : r.switch = w) (hmode : r.mode = .pulse) :
      t.routing.runs r = true := by
    rw [Routing.runs_iff]
    by_cases hold : s.routing.runs r = true
    · obtain ⟨p, hp, hmatch⟩ := (Routing.runs_iff _ r).1 hold
      exact ⟨p, List.mem_append_left _ hp, hmatch⟩
    · exact ⟨_, List.mem_append_right _ (State.mem_startedPulses.2
        ⟨r, hr, hw, hmode, Bool.eq_false_iff.2 hold, rfl⟩), hw.symm, rfl⟩
  refine ⟨t, hexec, fun r hr hw hmode => ⟨hruns r hr hw hmode, hline r hr (.inr (.inl ?_))⟩,
    fun r hr hw hmode => hline r hr (.inl ?_), fun p hp => List.mem_append_left _ hp,
    fun p hp => (List.mem_append.1 hp).imp_right State.mem_startedPulses.1, rfl, rfl, rfl⟩
  · exact (State.pulseDrives_iff r).2 ⟨hmode, hruns r hr hw hmode⟩
  · subst hw
    exact (State.directDrives_iff r).2 ⟨hmode, mem_insertSwitch.2 (.inl rfl), hmask, hmenu, hgate⟩

theorem releaseLeavesRoutePulses : Claims.ReleaseLeavesRoutePulses := by
  intro s b w hs hplay hsettled hpressed hmask hmenu hquiet
  have hdeal : (s.noted w .release).dealSwitch w .release = s.noted w .release :=
    (State.dealSwitch_play (s := s.noted w .release) hplay).trans (State.playEvent_release hmenu)
  exact ⟨_, exec_switchEvent_noted hs hsettled (by simp [hpressed]) (.inr hdeal) (.inr (.inl hquiet)),
    s.notes_noted w .release, rfl, rfl⟩

theorem routePulseExpiryStopsOne : Claims.RoutePulseExpiryStopsOne := by
  intro s w n
  refine ⟨_, rfl, fun p => ?_, rfl⟩
  refine List.mem_filter.trans (and_congr_right fun _ => ?_)
  rw [Bool.not_eq_true', Bool.and_eq_false_iff, decide_eq_false_iff_not, decide_eq_false_iff_not, not_and_or]

theorem lineActiveWhileDriven : Claims.LineActiveWhileDriven := by
  intro s b n hplay hrunning g
  refine ⟨?_, level_iff _ _⟩
  rw [State.lineActive_iff]
  refine (and_iff_right ⟨hplay, hrunning⟩).trans (exists_congr fun r => and_congr_right fun _ => and_congr_right fun hline => ?_)
  rw [State.directDrives_iff, State.pulseDrives_iff, State.startDrives_iff, Routing.runs_iff, hline,
    State.gateTakes_eq_none hplay]

theorem linesNeutralOffTheActiveBay : Claims.LinesNeutralOffTheActiveBay := by
  intro s b n hoff
  have hinactive : s.lineActive b n = false := Bool.eq_false_iff.2 fun h => by
    obtain ⟨⟨hplay, hrunning⟩, _⟩ := (State.lineActive_iff n).1 h
    exact hoff.elim (· hplay) (· hrunning)
  refine ⟨hinactive, ?_⟩
  rw [State.lineHigh, hinactive]
  exact Bool.false_beq _

theorem startPressIgnoredInCharge : Claims.StartPressIgnoredInCharge := by
  intro s b w hs hplay hsettled hpressed hmask hmenu hstart hpay hgate
  have htakes : (s.noted w .press).gateTakes w = some b :=
    (State.gateTakes_play (s := s.noted w .press) hplay w).trans (if_pos ⟨hpay, (PanelGroup.isStart_iff _ w).2 hstart⟩)
  have hdeal : (s.noted w .press).dealSwitch w .press = s.noted w .press :=
    (State.dealSwitch_play (s := s.noted w .press) hplay).trans
      ((State.playEvent_start (s := s.noted w .press) hmenu htakes).trans (State.startPress_busy (s := s.noted w .press) hgate))
  exact ⟨_, exec_switchEvent_noted hs hsettled (by simp [hpressed]) (.inr hdeal) (.inl rfl), s.notes_noted w .press, rfl, rfl⟩

/-- A coin line is driven by either pulse unit. -/
theorem State.coinLineActive_iff (s : State) (b : Bay) (m : CoinLine) : s.coinLineActive b m = true ↔
    ∃ (u : PulseId) (p : Pulse), s.pulse u = some p ∧ p.bay = b ∧ p.line = m ∧ p.phase = .active := by
  have hdrives : ∀ o : Option Pulse, o.any (fun p => p.drives b m) = true ↔
      ∃ p, o = some p ∧ p.bay = b ∧ p.line = m ∧ p.phase = .active := fun o => by
    cases o <;> simp [Pulse.drives, and_assoc]
  rw [State.coinLineActive, Bool.or_eq_true, hdrives, hdrives]
  exact ⟨fun h => h.elim (fun ha => ⟨.a, ha⟩) fun hb => ⟨.b, hb⟩,
    fun ⟨u, hu⟩ => by cases u; exacts [.inl hu, .inr hu]⟩

theorem harnessFollowsState : Claims.HarnessFollowsState := by
  intro s b
  refine ⟨fun m => ⟨s.coinLineActive_iff b m, level_iff _ _⟩, ?_, ?_⟩
  · unfold State.powerSwitchOn
    cases (s.bay b).state <;> simp [PowerState.powered]
  · unfold State.resetLineActive
    cases (s.bay b).state <;> simp

/-- Settles O39: the active bay's lines, the events that move their timers, and the other lines of a harness. -/
theorem routesDriveLines : Obligations.RoutesDriveLines :=
  ⟨pressStartsRoutePulses, releaseLeavesRoutePulses, routePulseExpiryStopsOne, lineActiveWhileDriven,
    linesNeutralOffTheActiveBay, startPressIgnoredInCharge, harnessFollowsState⟩

end Sys2Proof.Machine
end

section
/-! Reports taken at an event's end, and CLASS from its cut request to QUIET (R111, R146, R149, R155, R159 to R161). -/

namespace Sys2Proof.Machine

/-! ## Taking the reports of an event one after another (log entry 7) -/

section
variable {s : State} {r : Report}

theorem State.drain_of_late_none (h : s.late = none) : s.drain = s.drainWith Config.reportFuel := by
  rw [State.drain, State.takeLate_none h]

theorem State.drainWith_nil (h : s.reports = []) (n : Nat) : s.drainWith n = s := by
  cases n with
  | zero => exact congrArg s.setReports h.symm
  | succ n =>
    rw [State.drainWith, h]

theorem State.drainWith_cons {rest : List Report} (h : s.reports = r :: rest) (n : Nat) :
    s.drainWith (n + 1) = ((s.setReports rest).takeOrLeave r).drainWith n := by
  rw [State.drainWith, h]

theorem State.Settled.drainWith (h : s.Settled) (n : Nat) : s.drainWith n = s := State.drainWith_nil h.1 n

/-- One report made on a state with none waiting, when it may not wait. -/
theorem State.report_drainWith (h : s.reports = []) (hwait : s.mayWait r = false) (n : Nat) :
    (s.report r).drainWith (n + 1) = (s.takeReport r).drainWith n := by
  have hone : (s.report r).reports = [r] := congrArg (· ++ [r]) h
  have hback : (s.report r).setReports [] = s := congrArg s.setReports h.symm
  rw [State.drainWith_cons hone, hback, State.takeOrLeave_now hwait]

end

/-! ## Audio and cuts (R146 to R149) -/

section
variable {s : State}

theorem Crosspoint.rampUp_rising {x : Crosspoint} {n : Nat} (hgain : x.gain < Config.gainFull) (hn : 0 < n) :
    x.rampUp n = { x with audio := .rising, ramp := n } :=
  if_neg fun h => h.elim (fun h0 => by omega) fun hfull => absurd hgain (Nat.not_lt.2 hfull)

theorem Crosspoint.rampDown_falling {x : Crosspoint} {n : Nat} (hgain : 0 < x.gain) (hn : 0 < n) :
    x.rampDown n = { x with audio := .falling, ramp := n } :=
  if_neg fun h => h.elim (fun h0 => by omega) fun hnone => by omega

theorem Crosspoint.take_source_shown (x : Crosspoint) {src : Source} (h : src ≠ .blank) (n : Nat) :
    x.take src n = Crosspoint.rampUp { x with source := src, cut := none } n := if_neg h

theorem Crosspoint.take_blank (x : Crosspoint) (n : Nat) : x.take .blank n = { x.blank with cut := none } := rfl

theorem Crosspoint.step_waits {x : Crosspoint} {k : LineClass} {n : Nat} (h : 0 < n) :
    x.step k n = { x.blank with lineClass := k, settle := some (Timer.start n) } := by
  unfold Crosspoint.step
  rw [if_neg (by omega)]

theorem State.cutSource_bay (b : Bay) : s.cutSource (.bay b) = if (s.bay b).state = .running then .bay b else .blank := by
  by_cases h : (s.bay b).state = .running <;> simp [State.cutSource, State.isRunning, h]

theorem State.reportFall_quiet (h : s.monitor.audio ≠ .falling) : s.reportFall = s := if_neg h

theorem State.reportFall_falling (h : s.monitor.audio = .falling) : s.reportFall = s.report .rampDone := if_pos h

theorem State.makeCut_shown {t : Target} (h : s.cutSource t ≠ .blank) :
    s.makeCut t = (s.setMonitor (Crosspoint.rampUp { s.monitor with source := s.cutSource t, cut := none } s.rampLength)).report
      (.cutDone (s.cutSource t)) := by
  have hfall : s.reportFallIfBlank (s.cutSource t) = s := if_neg h
  rw [State.makeCut, hfall, Crosspoint.take_source_shown _ h]

/-- A cut that starts a rising ramp. -/
theorem State.makeCut_rising {t : Target} (h : s.cutSource t ≠ .blank) (hgain : s.monitor.gain < Config.gainFull)
    (hramp : 0 < s.rampLength) : s.makeCut t = (s.setMonitor { s.monitor with
      source := s.cutSource t, cut := none, audio := .rising, ramp := s.rampLength }).report (.cutDone (s.cutSource t)) := by
  rw [State.makeCut_shown h]
  exact congrArg (fun x => (s.setMonitor x).report _)
    (Crosspoint.rampUp_rising (x := { s.monitor with source := s.cutSource t, cut := none }) hgain hramp)

/-- A cut to BLANK, when no ramp falls. -/
theorem State.makeCut_blank {t : Target} (h : s.cutSource t = .blank) (hfall : s.monitor.audio ≠ .falling) :
    s.makeCut t = (s.setMonitor { s.monitor.blank with cut := none }).report (.cutDone .blank) := by
  rw [State.makeCut, h, Crosspoint.take_blank]
  exact congrArg (fun v => (State.setMonitor v _).report _) (State.reportFall_quiet hfall)

theorem State.cutRequest_steps {t : Target} (hclass : s.targetClass t ≠ s.monitor.lineClass)
    (hsettle : 0 < s.tables.cabinet.system.settle) : s.cutRequest t =
      (State.reportFall (s.setMonitor { s.monitor with cut := some t })).setMonitor { s.monitor with
        source := .blank, audio := .muted, gain := 0, cut := some t, lineClass := s.targetClass t
        settle := some (Timer.start s.tables.cabinet.system.settle) } := by
  let v := s.setMonitor { s.monitor with cut := some t }
  have hstep : v.classStep t = v.reportFall.setMonitor (v.monitor.step (s.targetClass t) s.tables.cabinet.system.settle) := by
    cases t <;> exact if_neg hclass
  have hrequest : s.cutRequest t = if (v.classStep t).monitor.settle.isSome then v.classStep t
      else (v.classStep t).makeCut t := rfl
  rw [hrequest, hstep, Crosspoint.step_waits hsettle]
  exact if_pos rfl

theorem State.cutRequest_waits {t : Target} (hclass : s.targetClass t = s.monitor.lineClass)
    (hsettle : s.monitor.settle.isSome = true) : s.cutRequest t = s.setMonitor { s.monitor with cut := some t } := by
  let v := s.setMonitor { s.monitor with cut := some t }
  have hstep : v.classStep t = v := by cases t <;> exact if_pos hclass
  have hrequest : s.cutRequest t = if (v.classStep t).monitor.settle.isSome then v.classStep t
      else (v.classStep t).makeCut t := rfl
  rw [hrequest, hstep]
  exact if_pos hsettle

theorem State.cutRequest_cuts {t : Target} (hclass : s.targetClass t = s.monitor.lineClass)
    (hsettle : s.monitor.settle = none) :
    s.cutRequest t = (s.setMonitor { s.monitor with cut := some t }).makeCut t := by
  let v := s.setMonitor { s.monitor with cut := some t }
  have hstep : v.classStep t = v := by cases t <;> exact if_pos hclass
  have hrequest : s.cutRequest t = if (v.classStep t).monitor.settle.isSome then v.classStep t
      else (v.classStep t).makeCut t := rfl
  have hnone : v.monitor.settle.isSome = false := by
    show s.monitor.settle.isSome = false
    rw [hsettle]
    rfl
  rw [hrequest, hstep, hnone]
  rfl

/-! ## The quiet wait and the cut-over (R111, R160, R161) -/

theorem State.quietRequest_granted (h : s.panel.pressed = []) : s.quietRequest = s.report .quietGrant := if_pos h

theorem State.quietRequest_waits (h : s.panel.pressed ≠ []) (hquiet : 0 < s.tables.cabinet.panel.quiet) :
    s.quietRequest = s.setRouting { s.routing with quiet := some (Timer.start s.tables.cabinet.panel.quiet) } :=
  (if_neg h).trans (if_neg (by omega))

theorem State.cutOverRelease_stays {r : HandoverRecord} (h : r.leaves = none) : s.cutOverRelease r = s := by
  unfold State.cutOverRelease
  unfold HandoverRecord.leaves at h
  cases horigin : r.origin with
  | menu => rfl
  | bay a =>
    rw [horigin] at h
    have htarget : r.target = .bay a := by
      by_contra hne
      exact absurd ((if_neg hne).symm.trans h) (by simp)
    exact if_pos htarget

theorem State.setPhase_handover {r : HandoverRecord} (h : s.stage = .handover r) (p : Phase) :
    s.setPhase p = s.setRecord { r with phase := p } := by
  rw [State.setPhase, h]

theorem State.cutDone_cutOver {r : HandoverRecord} {src : Source} (h : s.stage = .handover r)
    (hphase : r.phase = .classChange) (hsrc : src = r.target.source) :
    s.cutDone src = ((s.cutOverRelease r).setPhase .quiet).quietRequest := by
  rw [State.cutDone, h]
  exact if_pos ⟨hphase, hsrc⟩

theorem State.cutDone_other {r : HandoverRecord} {src : Source} (h : s.stage = .handover r)
    (hother : ¬(r.phase = .classChange ∧ src = r.target.source)) : s.cutDone src = s := by
  rw [State.cutDone, h]
  exact if_neg hother

theorem State.rampDone_handover {r : HandoverRecord} (h : s.stage = .handover r) (hphase : r.phase ≠ .release) :
    s.rampDone = s := by
  rw [State.rampDone, h]
  exact if_neg hphase

theorem State.rampDone_release {r : HandoverRecord} (h : s.stage = .handover r) (hphase : r.phase = .release) :
    s.rampDone = s.afterRelease r := by
  rw [State.rampDone, h]
  exact if_pos hphase

end

/-! ## CLASS begins (R149, R159, R161) -/

/-- What CLASS, begun with the record given, comes to by the end of its event. -/
def State.classBegun (s : State) (r : HandoverRecord) : State :=
  { s with
    stage := .handover { r with phase := if s.cutWaits s.monitor r.target then .classChange else .quiet }
    monitor := s.cutRequested s.monitor r.target
    routing := if s.cutWaits s.monitor r.target then s.routing
      else { s.routing with quiet := some { count := 0, limit := s.tables.cabinet.panel.quiet } } }

theorem Target.cutSource_shown {s : State} {t : Target} (h : s.cutSource t = t.source) : s.cutSource t ≠ .blank := by
  rw [h]
  cases t <;> exact nofun

/-- A falling ramp that a class step ends is reported, and means nothing in CLASS. -/
theorem State.reportFall_drainWith {s v : State} {r : HandoverRecord} {x : Crosspoint} (hs : s.reports = [])
    (hv : v = s.setMonitor x) (hstage : s.stage = .handover r) (hphase : r.phase ≠ .release) (y : Crosspoint) (n : Nat) :
    (v.reportFall.setMonitor y).drainWith (n + 1) = s.setMonitor y := by
  subst hv
  by_cases hfall : x.audio = .falling
  · have hreport : (s.setMonitor x).reportFall.setMonitor y = (s.setMonitor y).report .rampDone :=
      congrArg (State.setMonitor · y) (State.reportFall_falling (s := s.setMonitor x) hfall)
    rw [hreport, State.report_drainWith (s := s.setMonitor y) hs rfl]
    exact (congrArg (State.drainWith · n) (State.rampDone_handover (s := s.setMonitor y) hstage hphase)).trans
      (State.drainWith_nil (s := s.setMonitor y) hs n)
  · rw [State.reportFall_quiet (s := s.setMonitor x) hfall]
    exact State.drainWith_nil (s := s.setMonitor y) hs _

theorem State.cutWaits_iff {s : State} {x : Crosspoint} {k : Target} :
    s.cutWaits x k = true ↔ s.targetClass k ≠ x.lineClass ∨ x.settle.isSome = true := by
  rw [State.cutWaits, Bool.or_eq_true, decide_eq_true_iff]

theorem State.cutRequested_steps {s : State} {x : Crosspoint} {k : Target} (h : s.targetClass k ≠ x.lineClass) :
    s.cutRequested x k = { x with
      source := .blank, audio := .muted, gain := 0, cut := some k, lineClass := s.targetClass k
      settle := some { count := 0, limit := s.tables.cabinet.system.settle } } := if_pos h

theorem State.cutRequested_waits {s : State} {x : Crosspoint} {k : Target} (h : s.targetClass k = x.lineClass)
    (hsettle : x.settle.isSome = true) : s.cutRequested x k = { x with cut := some k } :=
  (if_neg (not_not.2 h)).trans (if_pos hsettle)

theorem State.cutRequested_cuts {s : State} {x : Crosspoint} {k : Target} (h : s.targetClass k = x.lineClass)
    (hsettle : x.settle = none) :
    s.cutRequested x k = { x with cut := none, source := k.source, audio := .rising, ramp := s.rampLength } :=
  (if_neg (not_not.2 h)).trans (if_neg (by rw [hsettle]; exact Bool.false_ne_true))

theorem State.classBegun_waits {s : State} {r : HandoverRecord} (h : s.cutWaits s.monitor r.target = true) :
    s.classBegun r = (s.setRecord { r with phase := .classChange }).setMonitor (s.cutRequested s.monitor r.target) := by
  unfold State.classBegun
  rw [h]
  rfl

theorem State.classBegun_cuts {s : State} {r : HandoverRecord} (h : s.cutWaits s.monitor r.target = false) :
    s.classBegun r = ((s.setRecord { r with phase := .quiet }).setMonitor (s.cutRequested s.monitor r.target)).setRouting
      { s.routing with quiet := some (Timer.start s.tables.cabinet.panel.quiet) } := by
  unfold State.classBegun
  rw [h]
  rfl

/-- A target's class is a setting. -/
theorem State.targetClass_congr {s t : State} (h : t.tables = s.tables) (k : Target) : t.targetClass k = s.targetClass k := by
  cases k <;> simp only [State.targetClass, State.profile, h]

/-- A cut that waits: the class step, or the settle timer that runs. -/
theorem State.startClass_waits {s : State} {r : HandoverRecord} (hs : s.reports = [])
    (hsettle : 0 < s.tables.cabinet.system.settle) (hwaits : s.cutWaits s.monitor r.target = true) (n : Nat) :
    (s.startClass r).drainWith (n + 1) = s.classBegun r := by
  let v := s.setRecord { r with phase := .classChange }
  have hclass : v.targetClass r.target = s.targetClass r.target := State.targetClass_congr rfl _
  have hstart : s.startClass r = v.cutRequest r.target := rfl
  rw [State.classBegun_waits hwaits, hstart]
  by_cases hsame : s.targetClass r.target = s.monitor.lineClass
  · have hruns : s.monitor.settle.isSome = true := (State.cutWaits_iff.1 hwaits).resolve_left (not_not.2 hsame)
    rw [State.cutRequest_waits (s := v) (hclass.trans hsame) hruns, State.cutRequested_waits hsame hruns]
    exact State.drainWith_nil (s := v.setMonitor _) hs _
  · rw [State.cutRequest_steps (s := v) (fun h => hsame (hclass.symm.trans h)) hsettle, State.cutRequested_steps hsame,
      ← hclass]
    exact State.reportFall_drainWith (s := v) hs rfl rfl nofun _ n

/-- CLASS begun with its cut made at once, before the cut is taken up. -/
def State.cutting (s : State) (r : HandoverRecord) : State :=
  (s.setRecord { r with phase := .classChange }).setMonitor (s.cutRequested s.monitor r.target)

theorem State.startClass_cuts {s : State} {r : HandoverRecord} (hgain : s.monitor.gain < Config.gainFull)
    (hramp : 0 < s.rampLength) (hwaits : s.cutWaits s.monitor r.target = false) (hsrc : s.cutSource r.target = r.target.source) :
    s.startClass r = (s.cutting r).report (.cutDone r.target.source) := by
  have hnot := (Bool.eq_false_iff.1 hwaits) ∘ State.cutWaits_iff.2
  have hsame : s.targetClass r.target = s.monitor.lineClass := by_contra fun h => hnot (.inl h)
  have hstopped : s.monitor.settle = none := Option.not_isSome_iff_eq_none.1 fun h => hnot (.inr h)
  let v := s.setRecord { r with phase := .classChange }
  have hclass : v.targetClass r.target = s.targetClass r.target := State.targetClass_congr rfl _
  have hstart : s.startClass r = v.cutRequest r.target := rfl
  let w := v.setMonitor { v.monitor with cut := some r.target }
  have hsource : w.cutSource r.target = r.target.source := by rw [← hsrc]; cases r.target <;> rfl
  rw [hstart, State.cutRequest_cuts (s := v) (hclass.trans hsame) hstopped,
    State.makeCut_rising (s := w) (Target.cutSource_shown hsource) hgain hramp, hsource]
  show _ = (v.setMonitor (s.cutRequested s.monitor r.target)).report _
  rw [State.cutRequested_cuts hsame hstopped]
  rfl

/-- A CLASS as PLAIN as it has to be: a class step has a settle time, and a cut made at once is taken up without more. -/
def State.PlainCut (s : State) (r : HandoverRecord) : Prop :=
  (s.cutWaits s.monitor r.target = true → 0 < s.tables.cabinet.system.settle)
    ∧ (s.cutWaits s.monitor r.target = false → r.leaves = none ∧ s.monitor.gain < Config.gainFull ∧ 0 < s.rampLength
        ∧ s.panel.pressed ≠ [] ∧ 0 < s.tables.cabinet.panel.quiet)

theorem State.PlainClass.plainCut {s : State} {r : HandoverRecord} (h : s.PlainClass s.monitor r) : s.PlainCut r :=
  ⟨fun _ => h.1, h.2⟩

/-- The cut taken up: QUIET begins. -/
theorem State.PlainCut.cutDone {s : State} {r : HandoverRecord} (hplain : s.PlainCut r)
    (hwaits : s.cutWaits s.monitor r.target = false) :
    (s.cutting r).cutDone r.target.source = s.classBegun r := by
  obtain ⟨_, hcuts⟩ := hplain
  obtain ⟨hleaves, _, _, hpressed, hquiet⟩ := hcuts hwaits
  let q := { r with phase := .classChange }
  let u := s.cutting r
  show u.cutDone r.target.source = _
  rw [State.cutDone_cutOver (s := u) (r := q) rfl rfl rfl, State.cutOverRelease_stays (r := q) hleaves,
    State.setPhase_handover (s := u) (r := q) rfl,
    State.quietRequest_waits (s := u.setRecord { q with phase := .quiet }) hpressed hquiet, State.classBegun_cuts hwaits]
  rfl

theorem State.cutting_cutDone {s : State} {r : HandoverRecord} (hplain : s.PlainClass s.monitor r)
    (hwaits : s.cutWaits s.monitor r.target = false) :
    (s.cutting r).cutDone r.target.source = s.classBegun r := hplain.plainCut.cutDone hwaits

/-- CLASS begins, and where nothing is to be waited for the cut-over follows and QUIET begins. -/
theorem State.PlainCut.drains {s : State} {r : HandoverRecord} (hs : s.reports = []) (hplain : s.PlainCut r)
    (hsrc : s.cutSource r.target = r.target.source) (n : Nat) :
    (s.startClass r).drainWith (n + 2) = s.classBegun r := by
  cases hwaits : s.cutWaits s.monitor r.target with
  | true => exact State.startClass_waits hs (hplain.1 hwaits) hwaits (n + 1)
  | false =>
    obtain ⟨_, hgain, hramp, _, _⟩ := hplain.2 hwaits
    rw [State.startClass_cuts hgain hramp hwaits hsrc, State.report_drainWith (s := s.cutting r) hs rfl]
    exact (congrArg (State.drainWith · _) (hplain.cutDone hwaits)).trans
      (State.drainWith_nil (s := s.classBegun r) hs _)

theorem State.startClass_drains {s : State} {r : HandoverRecord} (hs : s.reports = []) (hplain : s.PlainClass s.monitor r)
    (hsrc : s.cutSource r.target = r.target.source) (n : Nat) :
    (s.startClass r).drainWith (n + 2) = s.classBegun r := hplain.plainCut.drains hs hsrc n

end Sys2Proof.Machine
end

section
/-! Sync checkers: the fields they judge, and the lock that starts a bay (R117, R139 to R143). -/

namespace Sys2Proof.Machine

/-! ## CLASS begun behind a change elsewhere -/

section
variable {s u : State} {x : Crosspoint} {r : HandoverRecord}

theorem State.cutWaits_congr (h : u.tables = s.tables) (x : Crosspoint) (k : Target) : u.cutWaits x k = s.cutWaits x k := by
  rw [State.cutWaits, State.targetClass_congr h, State.cutWaits]

theorem State.rampLength_congr (h : u.tables = s.tables) : u.rampLength = s.rampLength := by
  rw [State.rampLength, h, State.rampLength]

theorem State.cutRequested_congr (h : u.tables = s.tables) (x : Crosspoint) (k : Target) :
    u.cutRequested x k = s.cutRequested x k := by
  rw [State.cutRequested, State.targetClass_congr h, State.rampLength_congr h, h, State.cutRequested]

theorem State.PlainClass.congr (h : s.PlainClass x r) (htables : u.tables = s.tables) (hpanel : u.panel = s.panel) :
    u.PlainClass x r := by
  unfold State.PlainClass at h ⊢
  rwa [State.cutWaits_congr htables, State.rampLength_congr htables, htables, hpanel]

/-- CLASS begun by a state with the same settings and routing begins it for the state before. -/
theorem State.classBegun_begins (htables : u.tables = s.tables) (hrouting : u.routing = s.routing)
    (hmonitor : u.monitor = x) : s.ClassBegins (u.classBegun r) x r where
  stage := by rw [← State.cutWaits_congr htables, ← hmonitor]; rfl
  monitor := by rw [← State.cutRequested_congr htables, ← hmonitor]; rfl
  routing := by
    rw [← State.cutWaits_congr htables, ← hmonitor, ← hrouting, ← htables]
    rfl

end

/-! ## Checkers -/

@[simp] theorem State.checker_setChecker_same (s : State) (b : Bay) (c : Checker) : (s.setChecker b c).checker b = c :=
  Vector.getElem_set_self b.isLt

theorem State.checker_setChecker_other (s : State) {b d : Bay} (c : Checker) (h : d ≠ b) :
    (s.setChecker b c).checker d = s.checker d :=
  Vector.getElem_set_ne b.isLt d.isLt fun e => h (Fin.ext e.symm)

theorem fieldGood_iff {k : LineClass} {lines length : Nat} : fieldGood k lines length = true ↔
    fieldClass lines length = .inClass k ∧ 47 * length ≤ 1000000000 ∧ 1000000000 ≤ 63 * length := by
  simp [fieldGood, rateGood]

section
variable {s : State} {b : Bay} {lines length : Nat}

theorem exec_fieldSyncPulse_dark (h : (s.checker b).state = .dark) : exec (.fieldSyncPulse b lines length) s = .next s :=
  congrArg Host.Outcome.next (if_pos h)

theorem exec_fieldSyncPulse_first (hs : s.Settled) (h : (s.checker b).state ≠ .dark) (hbegun : (s.checker b).begun = false) :
    exec (.fieldSyncPulse b lines length) s = .next (s.setChecker b { s.checker b with begun := true, gap := 0 }) := by
  have hfirst : s.fieldSync b lines length = s.setChecker b { s.checker b with begun := true, gap := 0 } :=
    if_neg (by rw [hbegun]; exact Bool.false_ne_true)
  refine congrArg Host.Outcome.next ((if_neg h).trans ?_)
  rw [hfirst]
  exact State.drain_settled _ hs

/-- A field that ends is judged, and a change of state reported. -/
theorem exec_fieldSyncPulse_field (h : (s.checker b).state ≠ .dark) (hbegun : (s.checker b).begun = true) {c : Checker}
    (hc : (s.checker b).field (s.profile b).general.lineClass lines length = c) :
    exec (.fieldSyncPulse b lines length) s = .next ((s.setChecker b c).checkerReport b (s.checker b).state).drain := by
  have hfield : s.fieldSync b lines length = (s.setChecker b c).checkerReport b (s.checker b).state := by
    rw [← hc]
    exact if_pos hbegun
  refine congrArg Host.Outcome.next ((if_neg h).trans ?_)
  rw [hfield]

theorem State.checkerReport_locked {was : CheckerState} (hwas : was = .seeking) (h : (s.checker b).state = .locked) :
    s.checkerReport b was = s.lockedReport b := by
  subst hwas
  unfold State.checkerReport
  rw [h]

theorem State.checkerReport_lost {was : CheckerState} (hwas : was = .locked) (h : (s.checker b).state = .lost) :
    s.checkerReport b was = s.lostReport b := by
  subst hwas
  unfold State.checkerReport
  rw [h]

theorem State.checkerReport_same {was : CheckerState} (h : (s.checker b).state = was) : s.checkerReport b was = s := by
  unfold State.checkerReport
  rw [h]
  cases was <;> rfl

theorem State.lockedReport_other (h : (s.bay b).state ≠ .booting) : s.lockedReport b = s := if_neg h

theorem State.lockedReport_booting (h : (s.bay b).state = .booting) : s.lockedReport b = s.bayRunning b := if_pos h

theorem State.lostReport_other (h : (s.bay b).state ≠ .running) : s.lostReport b = s :=
  if_neg (h ∘ (s.isRunning_iff b).1)

theorem State.lostReport_running (h : (s.bay b).state = .running) : s.lostReport b = s.crash b :=
  if_pos ((s.isRunning_iff b).2 h)

/-- A checker's fields, by its state (R141 to R143). -/
theorem Checker.field_seeking {c : Checker} {k : LineClass} (h : c.state = .seeking) :
    c.field k lines length = (c.measure lines length).seekField (fieldGood k lines length) := by
  rw [Checker.field, h]

theorem Checker.field_locked {c : Checker} {k : LineClass} (h : c.state = .locked) :
    c.field k lines length = (c.measure lines length).holdField (fieldGood k lines length) := by
  rw [Checker.field, h]

theorem Checker.field_lost {c : Checker} {k : LineClass} (h : c.state = .lost) :
    c.field k lines length = c.measure lines length := by
  rw [Checker.field, h]

end

theorem fieldsJudgedByCheckerState : Claims.FieldsJudgedByCheckerState := by
  intro s b lines length hs c k good becomes
  have hgood : good ↔ fieldGood k lines length = true := fieldGood_iff.symm
  have hends {c' : Checker} (hnot : c.state ≠ .dark) (hbegun : c.begun = true) (hc : c.field k lines length = c')
      (hreport : (s.setChecker b c').checkerReport b c.state = s.setChecker b c') : becomes c' := by
    have hexec := exec_fieldSyncPulse_field hnot hbegun hc
    rw [hreport, State.drain_settled (s.setChecker b c') hs] at hexec
    exact hexec
  refine ⟨exec_fieldSyncPulse_dark, exec_fieldSyncPulse_first hs, fun hbegun => ?_⟩
  intro m
  have hsame {c' : Checker} (hnot : c.state ≠ .dark) (hc : c.field k lines length = c') (hstate : c'.state = c.state) :
      becomes c' :=
    hends hnot hbegun hc (State.checkerReport_same ((congrArg Checker.state (s.checker_setChecker_same b c')).trans hstate))
  refine ⟨fun hseek hbad => ?_, fun hseek hfine hfew => ?_, fun hseek hfine hmany hbay => ?_, fun hlock hfine => ?_,
    fun hlock hbad hfew => ?_, fun hlock hbad hmany hbay => ?_, fun hlost => ?_⟩
  · refine hsame (by rw [hseek]; exact nofun) ?_ rfl
    rw [Checker.field_seeking hseek]
    exact if_neg (hbad ∘ hgood.2)
  · refine hsame (by rw [hseek]; exact nofun) ?_ rfl
    rw [Checker.field_seeking hseek]
    exact (if_pos (hgood.1 hfine)).trans (if_neg (Nat.not_le.2 (Nat.succ_lt_succ hfew)))
  · refine hends (by rw [hseek]; exact nofun) hbegun ?_ ?_
    · rw [Checker.field_seeking hseek]
      exact (if_pos (hgood.1 hfine)).trans (if_pos (Nat.succ_le_succ hmany))
    · rw [State.checkerReport_locked hseek (by rw [State.checker_setChecker_same])]
      exact State.lockedReport_other (s := s.setChecker b _) hbay
  · refine hsame (by rw [hlock]; exact nofun) ?_ rfl
    rw [Checker.field_locked hlock]
    exact if_pos (hgood.1 hfine)
  · refine hsame (by rw [hlock]; exact nofun) ?_ rfl
    rw [Checker.field_locked hlock]
    exact (if_neg (hbad ∘ hgood.2)).trans (if_neg (Nat.not_le.2 (Nat.succ_lt_succ hfew)))
  · refine hends (by rw [hlock]; exact nofun) hbegun ?_ ?_
    · rw [Checker.field_locked hlock]
      exact (if_neg (hbad ∘ hgood.2)).trans (if_pos (Nat.succ_le_succ hmany))
    · rw [State.checkerReport_lost hlock (by rw [State.checker_setChecker_same])]
      exact State.lostReport_other (s := s.setChecker b _) hbay
  · refine hsame (by rw [hlost]; exact nofun) ?_ rfl
    rw [Checker.field_lost hlost]
    rfl

theorem lineRateGivesClass : Claims.LineRateGivesClass := by
  intro lines length hlength
  unfold fieldClass
  refine ⟨?_, ?_, ?_⟩ <;> split_ifs <;> simp <;> omega

/-! ## The lock that starts a bay (R117) -/

/-- The checker behind its eighth good field (R141). -/
def Checker.lockedBy (c : Checker) (lines length : Nat) : Checker :=
  { c.measure lines length with state := .locked, good := Config.lockFields, bad := 0, gap := 0 }

/-- A bay that has entered RUNNING, told of, before what its role brings. -/
def State.ran (s : State) (b : Bay) : State :=
  (s.setBay b { s.bay b with state := .running, timer := none }).notifyBay .running b

section
variable {s : State} {b : Bay}

theorem State.startsRunning_ran {u : State} (hpower : u.power = s.power) (hlinks : u.links = s.links) :
    s.StartsRunning (u.ran b) b where
  bays d := by
    have hbay (k : Bay) : u.bay k = s.bay k := State.bay_congr hpower k
    split
    next h =>
      subst h
      exact (State.bay_setBay_same u d _).trans (by rw [hbay])
    next h => exact (State.bay_setBay_other u _ h).trans (hbay d)
  tells l := by
    have hbay : u.bay b = s.bay b := State.bay_congr hpower b
    let v := u.setBay b { u.bay b with state := .running, timer := none }
    have hv : v.bay b = { u.bay b with state := .running, timer := none } := State.bay_setBay_same u b _
    have hwarm : v.warmPosition b = s.warmPosition b := by
      show positionIn b u.power.warm = positionIn b s.power.warm
      rw [hpower]
    have hlink : v.link l = s.link l := State.link_congr hlinks l
    refine (State.link_notify v _ l).trans ?_
    rw [hv, hwarm, hlink, hbay]
    rfl

theorem State.ran_frame (u : State) (b : Bay) :
    u.ran b = { u with power := { u.power with bays := (u.ran b).power.bays }, links := (u.ran b).links } := rfl

/-- The eighth good field has locked the checker of a bay, which has entered RUNNING, but for what its role brings. -/
structure State.LocksRunning (s t : State) (b : Bay) : Prop where
  running : s.StartsRunning t b
  state : (t.checker b).state = .locked
  bad : (t.checker b).bad = 0
  gap : (t.checker b).gap = 0
  others : ∀ d, d ≠ b → t.checker d = s.checker d
  frame : t = { s with power := { s.power with bays := t.power.bays }, checkers := t.checkers, links := t.links }

theorem State.locksRunning (s : State) (b : Bay) (lines length : Nat) :
    s.LocksRunning ((s.setChecker b ((s.checker b).lockedBy lines length)).ran b) b := by
  let c := (s.checker b).lockedBy lines length
  have hchecker : (s.setChecker b c).checker b = c := s.checker_setChecker_same b c
  exact
    { running := State.startsRunning_ran rfl rfl
      state := congrArg Checker.state hchecker
      bad := congrArg Checker.bad hchecker
      gap := congrArg Checker.gap hchecker
      others := fun d hd => s.checker_setChecker_other c hd
      frame := rfl }

section
variable {v : State} (h : s.LocksRunning v b)
include h

theorem State.LocksRunning.stage : v.stage = s.stage := by rw [h.frame]
theorem State.LocksRunning.settled (hs : s.Settled) : v.Settled := by rw [h.frame]; exact hs
theorem State.LocksRunning.tables : v.tables = s.tables := by rw [h.frame]
theorem State.LocksRunning.panel : v.panel = s.panel := by rw [h.frame]
theorem State.LocksRunning.routing : v.routing = s.routing := by rw [h.frame]
theorem State.LocksRunning.monitor : v.monitor = s.monitor := by rw [h.frame]
theorem State.LocksRunning.warm : v.power.warm = s.power.warm := by rw [h.frame]

theorem State.LocksRunning.noRole (hs : s.NoRole b) : v.NoRole b := by
  obtain ⟨hactive, horigin, htarget⟩ := hs
  exact ⟨(State.isActive_congr h.stage b).trans hactive, (State.isOrigin_congr h.stage b).trans horigin,
    (State.isTarget_congr h.stage b).trans htarget⟩

end

/-- The eighth good field of a BOOTING bay. -/
theorem exec_fieldSyncPulse_locks {lines length : Nat} (hboot : (s.bay b).state = .booting)
    (hseek : (s.checker b).state = .seeking) (hbegun : (s.checker b).begun = true) (hseven : (s.checker b).good = 7)
    (hgood : fieldGood (s.profile b).general.lineClass lines length = true) :
    ∃ v, exec (.fieldSyncPulse b lines length) s = .next (v.runningJoins b).drain ∧ s.LocksRunning v b := by
  refine ⟨_, ?_, s.locksRunning b lines length⟩
  have hc : (s.checker b).field (s.profile b).general.lineClass lines length = (s.checker b).lockedBy lines length := by
    rw [Checker.field_seeking hseek, hgood]
    exact (if_pos rfl).trans (if_pos (Nat.succ_le_succ (Nat.le_of_eq hseven.symm)))
  rw [exec_fieldSyncPulse_field (by rw [hseek]; exact nofun) hbegun hc,
    State.checkerReport_locked hseek (by rw [State.checker_setChecker_same]; rfl)]
  exact congrArg (fun v : State => Host.Outcome.next v.drain)
    (State.lockedReport_booting (s := s.setChecker b ((s.checker b).lockedBy lines length)) hboot)

theorem State.runningJoins_target (h : s.isTarget b = true) : s.runningJoins b = s.report (.ready b) := if_pos h

theorem State.runningJoins_role (htarget : s.isTarget b = false) (h : s.isActive b = true ∨ s.isOrigin b = true) :
    s.runningJoins b = s := by
  unfold State.runningJoins
  rw [htarget, if_pos (Bool.or_eq_true_iff.2 h)]
  rfl

theorem State.runningJoins_warm (h : s.NoRole b) : s.runningJoins b = s.setWarm (b :: s.power.warm) := by
  obtain ⟨hactive, horigin, htarget⟩ := h
  unfold State.runningJoins
  rw [htarget, hactive, horigin]
  rfl

theorem State.ready_power {r : HandoverRecord} (hstage : s.stage = .handover r) (h : r.phase = .power)
    (htarget : r.target = .bay b) : s.ready b = s.startClass r := by
  rw [State.ready, hstage]
  exact if_pos ⟨h, htarget⟩

theorem State.ready_other {r : HandoverRecord} (hstage : s.stage = .handover r) (h : r.phase ≠ .power) : s.ready b = s := by
  rw [State.ready, hstage]
  exact if_neg fun hboth => h hboth.1

theorem State.isTarget_handover {r : HandoverRecord} (hstage : s.stage = .handover r) (b : Bay) :
    s.isTarget b = decide (r.target = .bay b) := by
  rw [State.isTarget, State.handover, hstage]

end

theorem lockStartsBay : Claims.LockStartsBay := by
  intro s b lines length hs hrole hboot hseek hbegun hseven hgood
  obtain ⟨v, hexec, hv⟩ := exec_fieldSyncPulse_locks hboot hseek hbegun hseven hgood
  have hset : ((v.setWarm (b :: v.power.warm)).Settled) := hv.settled hs
  rw [State.runningJoins_warm (hv.noRole hrole), State.drain_settled _ hset, hv.warm] at hexec
  refine ⟨_, hexec, (hv.running.bays b).trans (if_pos rfl), fun d hd => (hv.running.bays d).trans (if_neg hd), ?_,
    hv.state, hv.bad, hv.gap, hv.running.tells, ?_⟩
  · rw [hv.frame]
    rfl
  · rw [hv.frame]
    rfl

theorem lockStartsBayInRole : Claims.LockStartsBayInRole := by
  intro s b lines length hs hboot hseek hbegun hseven hgood starts
  obtain ⟨v, hexec, hv⟩ := exec_fieldSyncPulse_locks hboot hseek hbegun hseven hgood
  have hset : v.Settled := hv.settled hs
  have hbay : v.bay b = { s.bay b with state := .running, timer := none } := (hv.running.bays b).trans (if_pos rfl)
  have hready (h : HandoverRecord) (hstage : s.stage = .handover h) (htarget : h.target = .bay b) :
      (v.runningJoins b).drain = (v.ready b).drainWith 63 := by
    have hjoins : v.runningJoins b = v.report (.ready b) := State.runningJoins_target
      ((State.isTarget_handover (hv.stage.trans hstage) b).trans (decide_eq_true htarget))
    rw [hjoins, State.drain_of_late_none (s := v.report _) hset.2]
    exact State.report_drainWith hset.1 rfl 63
  have hstands (hjoins : (v.runningJoins b).drain = v) : ∃ t, starts t
      ∧ t = { s with power := { s.power with bays := t.power.bays }, checkers := t.checkers, links := t.links } :=
    ⟨v, ⟨hexec.trans (congrArg _ hjoins), hv.running, hv.state, hv.bad, hv.gap, hv.others⟩, hv.frame⟩
  refine ⟨fun h hstage htarget => ⟨fun hphase hplain => ?_, fun hphase => ?_⟩, fun hrole htarget => ?_⟩
  · have hshown : v.cutSource h.target = h.target.source := by
      rw [htarget, State.cutSource_bay, hbay]
      rfl
    have hclass : (v.ready b).drainWith 63 = v.classBegun h := by
      rw [State.ready_power (hv.stage.trans hstage) hphase htarget]
      exact State.startClass_drains hset.1 (hv.monitor ▸ hplain.congr hv.tables hv.panel) hshown 61
    rw [hready h hstage htarget, hclass] at hexec
    refine ⟨v.classBegun h, ⟨hexec, ⟨hv.running.bays, hv.running.tells⟩, hv.state, hv.bad, hv.gap, hv.others⟩,
      State.classBegun_begins hv.tables hv.routing hv.monitor, ?_⟩
    exact congrArg (fun u : State => { u with
      stage := (v.classBegun h).stage, monitor := (v.classBegun h).monitor, routing := (v.classBegun h).routing }) hv.frame
  · have hnot : h.phase ≠ .power := by rcases hphase with h' | h' <;> rw [h'] <;> exact nofun
    exact hstands (by rw [hready h hstage htarget, State.ready_other (hv.stage.trans hstage) hnot, hset.drainWith])
  · refine hstands ?_
    rw [State.runningJoins_role ((State.isTarget_congr hv.stage b).trans htarget), State.drain_settled v hset]
    rwa [State.isActive_congr hv.stage, State.isOrigin_congr hv.stage]

theorem exec_fieldGapExpiry_locked {s : State} {b : Bay} (h : (s.checker b).state = .locked) :
    exec (.fieldGapExpiry b) s = .next ((s.setChecker b { s.checker b with state := .lost }).lostReport b).drain :=
  congrArg Host.Outcome.next (if_pos h)

theorem fieldGapLosesLock : Claims.FieldGapLosesLock := by
  intro s b hs hlock hbay
  let u := s.setChecker b { s.checker b with state := .lost }
  rw [exec_fieldGapExpiry_locked hlock, State.lostReport_other (s := u) hbay, State.drain_settled u hs]
  rfl

/-- Settles O49: the fields a checker judges, the class of a line rate, and what lock and its loss do. -/
theorem syncDecidesLock : Obligations.SyncDecidesLock :=
  ⟨fieldsJudgedByCheckerState, lineRateGivesClass, lockStartsBay, lockStartsBayInRole, fieldGapLosesLock⟩

end Sys2Proof.Machine
end

section
/-! The crosspoint: cut requests, the settle timer, ramps, and the completion of a handover (R132, R145 to R149, R162). -/

namespace Sys2Proof.Machine

/-! ## Cut requests (R146, R149) -/

theorem cutRequestStepsClass : Claims.CutRequestStepsClass := by
  intro s t
  refine ⟨fun hclass hsettle => ?_, fun hclass hsettle => ?_, fun hclass hsettle hsource => ?_, rfl, fun b => s.cutSource_bay b⟩
  · rw [State.cutRequest_steps hclass hsettle]
    rfl
  · rw [State.cutRequest_waits hclass hsettle]
    rfl
  · let w := s.setMonitor { s.monitor with cut := some t }
    let x := { w.monitor with source := s.cutSource t, cut := none }
    have hw : w.cutSource t = s.cutSource t := by cases t <;> rfl
    have hcut : s.cutRequest t = (w.setMonitor (x.rampUp w.rampLength)).report (.cutDone (s.cutSource t)) := by
      rw [State.cutRequest_cuts hclass hsettle, State.makeCut_shown (s := w) (hw.symm ▸ hsource), hw]
    have hkept : (x.rampUp w.rampLength).cut = none ∧ (x.rampUp w.rampLength).lineClass = s.monitor.lineClass := by
      unfold Crosspoint.rampUp
      split <;> exact ⟨rfl, rfl⟩
    rw [hcut]
    exact ⟨Crosspoint.rampUp_source x _, hkept.1, hkept.2, rfl⟩

/-! ## The settle timer's end (R146, R149) -/

section
variable {s : State}

theorem exec_settleExpiry_stopped (h : s.monitor.settle = none) : exec .settleExpiry s = .next s :=
  congrArg Host.Outcome.next (if_neg (by rw [h]; exact Bool.false_ne_true))

theorem exec_settleExpiry_running (h : s.monitor.settle.isSome = true) : exec .settleExpiry s = .next s.settleStops.drain :=
  congrArg Host.Outcome.next (if_pos h)

theorem State.settleStops_none (h : s.monitor.cut = none) : s.settleStops = s.setMonitor { s.monitor with settle := none } := by
  unfold State.settleStops
  dsimp only [State.setMonitor]
  rw [h]

theorem State.settleStops_cut {t : Target} (h : s.monitor.cut = some t) :
    s.settleStops = (s.setMonitor { s.monitor with settle := none }).makeCut t := by
  unfold State.settleStops
  dsimp only [State.setMonitor]
  rw [h]

/-- A cut to BLANK is the cut-over of no handover. -/
theorem State.cutDone_blank : s.cutDone .blank = s := by
  unfold State.cutDone
  cases s.stage with
  | menu => rfl
  | play b => rfl
  | handover r =>
    refine if_neg fun h => ?_
    obtain ⟨_, hsrc⟩ := h
    revert hsrc
    cases r.target <;> exact nofun

end

theorem settleExpiryStopsTimer : Claims.SettleExpiryStopsTimer := by
  intro s hs
  refine ⟨exec_settleExpiry_stopped, fun hruns hcut => ?_, fun b hruns hcut hbay hfall => ?_⟩
  · rw [exec_settleExpiry_running hruns, State.settleStops_none hcut,
      State.drain_settled (s.setMonitor { s.monitor with settle := none }) hs]
    rfl
  · let v := s.setMonitor { s.monitor with settle := none }
    have hsource : v.cutSource (.bay b) = .blank := (State.cutSource_bay (s := v) b).trans (if_neg hbay)
    let u := v.setMonitor { v.monitor.blank with cut := none }
    have hstops : s.settleStops = u.report (.cutDone .blank) := by
      rw [State.settleStops_cut hcut, State.makeCut_blank (s := v) hsource hfall]
    rw [exec_settleExpiry_running hruns, hstops, State.drain_of_late_none (s := u.report _) hs.2]
    have htaken : (u.report (.cutDone .blank)).drainWith Config.reportFuel = u :=
      (State.report_drainWith (s := u) hs.1 rfl 63).trans ((congrArg (State.drainWith · 63) (State.cutDone_blank (s := u))).trans
        (State.drainWith_nil (s := u) hs.1 63))
    rw [htaken]
    rfl

/-! ## The release of an origin (R132) -/

section
variable {s : State} {a : Bay}

theorem State.releaseOrigin_running (h : (s.bay a).state = .running) : s.releaseOrigin a =
    if (s.profile a).general.keepWarm then s.setWarm (s.power.warm ++ [a])
    else if (s.feeder a).state = .idle then s.cutPower a .cooling
    else (s.setWarm (s.power.warm ++ [a])).setBay a { s.bay a with releasePending := true } := by
  unfold State.releaseOrigin
  rw [h]

theorem State.releaseOrigin_starting (h : (s.bay a).state = .starting ∨ (s.bay a).state = .booting) :
    s.releaseOrigin a = if (s.profile a).general.keepWarm then s else s.cutPower a .cooling := by
  unfold State.releaseOrigin
  rcases h with h | h <;> rw [h]

theorem State.releaseOrigin_cooling (h : (s.bay a).state = .cooling) :
    s.releaseOrigin a = if (s.profile a).general.keepWarm then s else s.dropDeferred a := by
  unfold State.releaseOrigin
  rw [h]

theorem State.releaseOrigin_other (h : (s.bay a).state = .off ∨ (s.bay a).state = .tripped ∨ (s.bay a).state = .faulted
    ∨ (s.bay a).state = .disabled) : s.releaseOrigin a = s := by
  unfold State.releaseOrigin
  rcases h with h | h | h | h <;> rw [h]

end

theorem originReleasedByKeepWarm : Claims.OriginReleasedByKeepWarm := fun _ _ =>
  ⟨fun h hk => (State.releaseOrigin_running h).trans (if_pos hk),
    fun h hk hf => (State.releaseOrigin_running h).trans ((if_neg hk).trans (if_neg hf)),
    fun h hk hf => (State.releaseOrigin_running h).trans ((if_neg hk).trans (if_pos hf)),
    fun h hk => (State.releaseOrigin_starting h).trans (if_neg hk),
    fun h hk => (State.releaseOrigin_starting h).trans (if_pos hk),
    fun h hk => (State.releaseOrigin_cooling h).trans (if_pos hk),
    fun h hk => (State.releaseOrigin_cooling h).trans (if_neg hk), State.releaseOrigin_other⟩

/-! ## What leaves for the monitor (R145, R146) -/

theorem monitorGivenSource : Claims.MonitorGivenSource := by
  intro s
  refine ⟨rfl, fun hblank => ?_, fun hshown => ?_⟩
  · unfold State.audioGain State.blankFieldRate State.blankSync
    rw [hblank]
    refine ⟨rfl, rfl, ?_⟩
    cases s.monitor.lineClass <;> rfl
  · unfold State.audioGain State.blankFieldRate State.blankSync
    cases hsource : s.monitor.source with
    | blank => exact absurd hsource hshown
    | menu => exact ⟨rfl, rfl, rfl⟩
    | bay b => exact ⟨rfl, rfl, rfl⟩

/-! ## The completion of a handover (R162) -/

/-- A handover completed, but for its follow-on. -/
def State.completed (s : State) (t : Target) (c : Cause) : State :=
  ((s.enterStage t).setProtected []).notify (.stageEntered t c)

/-- What the completion of a handover to a target leaves. -/
structure State.Completes (s u : State) (t : Target) (c : Cause) : Prop where
  stage : u.stage = t.stage
  bays : u.BaysAre (s.entered t)
  power : u.power = { s.power with bays := u.power.bays, protectedSet := [] }
  routing : u.routing = { s.routing with pulses := if t = .menu then s.routing.pulses else [] }
  panel : u.panel = { s.panel with menuHold := if t = .menu then none else s.panel.menuHold }
  tells : s.Tells u [.stageEntered t c]
  frame : u = { s with
    stage := u.stage, panel := u.panel, routing := u.routing, power := u.power, links := u.links }

/-- A bay that becomes active, among the bays. -/
theorem State.enterActive_eq (s : State) (b : Bay) : ∃ bays : Vector BayPower 8, (∀ d : Bay, bays[d] = s.entered (.bay b) d)
    ∧ s.enterActive b = s.setPower { s.power with bays := bays } := by
  by_cases h : (s.bay b).deferred = some .handover
  · refine ⟨s.power.bays.set b { s.bay b with deferred := some .recovery }, fun d => ?_, if_pos h⟩
    by_cases hd : d = b
    · subst hd
      exact (State.bay_setBay_same s d _).trans (if_pos ⟨rfl, h⟩).symm
    · have hne : ¬(Target.bay b = Target.bay d ∧ (s.bay d).deferred = some .handover) := fun hboth =>
        hd (Target.bay.inj hboth.1).symm
      exact (State.bay_setBay_other s _ hd).trans (if_neg hne).symm
  · refine ⟨s.power.bays, fun d => ?_, if_neg h⟩
    refine (if_neg fun hboth => ?_).symm
    obtain ⟨hbay, hdeferred⟩ := hboth
    exact h (Target.bay.inj hbay ▸ hdeferred)

theorem State.completes (s : State) (t : Target) (c : Cause) : s.Completes (s.completed t c) t c := by
  cases t with
  | menu =>
    exact
      { stage := rfl
        bays := fun d => (if_neg fun h => Target.noConfusion h.1).symm
        power := rfl
        routing := rfl
        panel := rfl
        tells := fun l => State.link_notify ((s.enterStage .menu).setProtected []) _ l
        frame := rfl }
  | bay b =>
    obtain ⟨bays, hbays, hactive⟩ := (s.setStage (.play b)).enterActive_eq b
    let w : State := { s with
      stage := .play b, routing := { s.routing with pulses := [] }
      power := { s.power with bays := bays, protectedSet := [] } }
    have hw : s.completed (.bay b) c = w.notify (.stageEntered (.bay b) c) :=
      congrArg (fun x : State => (x.stopRoutePulses.setProtected []).notify (.stageEntered (.bay b) c)) hactive
    rw [hw]
    exact
      { stage := rfl
        bays := hbays
        power := rfl
        routing := rfl
        panel := rfl
        tells := fun l => State.link_notify w _ l
        frame := rfl }

theorem State.quietGrant_handover {s : State} {r : HandoverRecord} (hstage : s.stage = .handover r)
    (hquiet : r.phase = .quiet) : s.quietGrant = (s.completed r.target r.cause).followOn r := by
  rw [State.quietGrant, hstage]
  exact if_pos hquiet

theorem State.followOn_none {s : State} {r : HandoverRecord} (h : r.followOn = none ∨ r.target = .menu) :
    s.followOn r = s := by
  unfold State.followOn
  rcases h with h | h
  · rw [h]
    cases r.target <;> rfl
  · rw [h]

end Sys2Proof.Machine
end

section
/-! What a power cut leaves at each block, and evictions (R49, R107, R118, R121, R122, R140, R151). -/

namespace Sys2Proof.Machine

/-! ## A cut handed on (R118) -/

section
variable {s : State} {b : Bay} {into : PowerState}

theorem State.cutPower_powered (h : (s.bay b).state.powered = true) :
    s.cutPower b into = (s.enterCut b into).handOnCut b := if_pos h

theorem State.cutPower_unpowered (h : (s.bay b).state.powered = false) : s.cutPower b into = s.enterCut b into :=
  if_neg (by rw [h]; exact Bool.false_ne_true)

/-- The route engine behind the power loss of a bay (R107). -/
def State.unrouted (s : State) (b : Bay) : Routing :=
  if s.isActive b then { s.routing with pulses := [] } else s.routing

/-- What the Crosspoint reports of a power loss: a falling ramp that ends by it (R151). -/
def State.fallReports (s : State) (b : Bay) : List Report :=
  if s.monitor.source = .bay b ∧ s.monitor.audio = .falling then [.rampDone] else []

theorem State.crosspointLoss_eq (s : State) (b : Bay) :
    s.crosspointLoss b = { s with monitor := s.blanked b, reports := s.reports ++ s.fallReports b } := by
  unfold State.crosspointLoss State.blanked State.fallReports
  by_cases hsource : s.monitor.source = .bay b
  · rw [if_pos hsource, if_pos hsource]
    by_cases hfall : s.monitor.audio = .falling
    · rw [if_pos ⟨hsource, hfall⟩]
      exact congrArg (State.setMonitor · s.monitor.blank) (State.reportFall_falling hfall)
    · rw [if_neg fun h => hfall h.2, List.append_nil]
      exact congrArg (State.setMonitor · s.monitor.blank) (State.reportFall_quiet hfall)
  · rw [if_neg hsource, if_neg hsource, if_neg fun h => hsource h.1, List.append_nil]

theorem State.routingLoss_eq (s : State) (b : Bay) : s.routingLoss b = s.setRouting (s.unrouted b) := by
  unfold State.routingLoss State.unrouted
  split <;> rfl

/-- The cut handed on: the credit blocks act, the filters and the checker go DARK, the route pulses of the active bay
stop, and its picture goes. -/
theorem State.handOnCut_eq (s : State) (b : Bay) : s.handOnCut b = { s.creditLoss b with
    filters := s.filters.set b s.filters[b].cut, routing := s.unrouted b
    checkers := s.checkers.set b (s.checker b).cut, monitor := s.blanked b
    reports := (s.creditLoss b).reports ++ s.fallReports b } := by
  let c := s.creditLoss b
  have hframe := ((State.Credits.refl s).creditLoss (b := b)).frame
  have hrouting : c.routing = s.routing := by rw [show c = _ from hframe]
  have hfilters : c.filters = s.filters := by rw [show c = _ from hframe]
  have hcheckers : c.checkers = s.checkers := by rw [show c = _ from hframe]
  have hmonitor : c.monitor = s.monitor := by rw [show c = _ from hframe]
  have hstage : c.stage = s.stage := by rw [show c = _ from hframe]
  let f := c.setBayFilters b s.filters[b].cut
  have hunrouted : f.unrouted b = s.unrouted b := by
    unfold State.unrouted
    rw [State.isActive_congr (s := s) (t := f) hstage, show f.routing = s.routing from hrouting]
  have hon : s.handOnCut b = ((f.routingLoss b).setChecker b ((f.routingLoss b).checker b).cut).crosspointLoss b := rfl
  rw [hon, State.routingLoss_eq, State.crosspointLoss_eq, hunrouted]
  have hblanked : ∀ x : State, x.monitor = s.monitor → x.blanked b = s.blanked b ∧ x.fallReports b = s.fallReports b := by
    intro x hx
    unfold State.blanked State.fallReports
    rw [hx]
    exact ⟨rfl, rfl⟩
  obtain ⟨hblank, hfall⟩ := hblanked ((f.setRouting (s.unrouted b)).setChecker b
    ((f.setRouting (s.unrouted b)).checker b).cut) hmonitor
  rw [hblank, hfall]
  have hcheck : ((f.setRouting (s.unrouted b)).setChecker b ((f.setRouting (s.unrouted b)).checker b).cut).checkers
      = s.checkers.set b (s.checker b).cut := by
    show c.checkers.set b (c.checkers[b]).cut = s.checkers.set b (s.checkers[b]).cut
    rw [hcheckers]
  have hfilter : ((f.setRouting (s.unrouted b)).setChecker b ((f.setRouting (s.unrouted b)).checker b).cut).filters
      = s.filters.set b s.filters[b].cut := by
    show c.filters.set b s.filters[b].cut = _
    rw [hfilters]
  rw [State.mk.injEq]
  exact ⟨rfl, rfl, rfl, rfl, rfl, hfilter, rfl, rfl, rfl, rfl, rfl, rfl, hcheck, rfl, rfl, rfl, rfl, rfl, rfl, rfl, rfl, rfl, rfl⟩

/-- A bay that the credit blocks do not know is cut without them. -/
theorem State.creditLoss_uninvolved (hfeeder : (s.feeder b).state = .idle) (hgate : s.gate.bay ≠ some b) :
    s.creditLoss b = s := by
  have hleaves : s.gateLeaves b .powerLoss = s := if_neg hgate
  unfold State.creditLoss
  rw [if_neg fun h => hgate h.2, hleaves]
  exact if_pos hfeeder

/-- The bays' power after a cut from a powered state, with the bay's filters and checker DARK. -/
theorem State.losesPower_cutPower (h : (s.bay b).state.powered = true) :
    s.LosesPower (s.cutPower b into) b
      { s.bay b with state := into, deferred := none, releasePending := false, timer := cutTimer into } := by
  have hfilters : (s.cutPower b into).filters = s.filters.set b s.filters[b].cut := by
    rw [State.cutPower_powered h, State.handOnCut_eq]
    rfl
  have hdark : (s.cutPower b into).filters[b] = s.filters[b].cut := by
    rw [hfilters]
    exact Vector.getElem_set_self b.isLt
  have hcheckers : (s.cutPower b into).checkers = s.checkers.set b (s.checker b).cut := by
    rw [State.cutPower_powered h, State.handOnCut_eq]
    rfl
  exact
    { bays := fun d => by
        split
        next hd => rw [hd, State.cutPower_bay_same]
        next hd => exact State.cutPower_bay_other s b into hd
      power := by rw [State.cutPower_power]; rfl
      filters := ⟨congrArg BayFilters.one hdark, congrArg BayFilters.two hdark⟩
      checker := by
        unfold State.checker
        rw [hcheckers]
        exact congrArg Checker.state (Vector.getElem_set_self b.isLt) }

/-- The cut of a bay that no unit, no charge and no picture is of. -/
theorem State.cutPower_uninvolved (h : (s.bay b).state.powered = true) (hfree : s.Uninvolved b) (into : PowerState) :
    s.cutPower b into = { s.enterCut b into with
      filters := s.filters.set b s.filters[b].cut, routing := s.unrouted b
      checkers := s.checkers.set b (s.checker b).cut } := by
  obtain ⟨hfeeder, hgate, hsource⟩ := hfree
  let u := s.enterCut b into
  have hcredit : u.creditLoss b = u := State.creditLoss_uninvolved (s := u) hfeeder hgate
  have hblanked : u.blanked b = s.monitor := if_neg hsource
  have hfall : u.fallReports b = [] := if_neg fun hboth => hsource hboth.1
  rw [State.cutPower_powered h, State.handOnCut_eq, hcredit, hblanked, hfall, List.append_nil]
  rfl

end

/-! ## Positions in the warm list (R131) -/

theorem positionIn_eq_none {b : Bay} {l : List Bay} : positionIn b l = none ↔ b ∉ l := by
  induction l with
  | nil => simp [positionIn]
  | cons k rest ih =>
    rw [positionIn]
    by_cases hk : k = b
    · rw [if_pos hk]
      simp [hk]
    · rw [if_neg hk, Option.map_eq_none_iff, ih, List.mem_cons, not_or]
      exact (and_iff_right (Ne.symm hk)).symm

/-! ## Notices about bays -/

theorem State.notifyBay_tells {s u : State} {e : BayEvent} {b : Bay} {p : BayPower} {w : Option Nat}
    (hlinks : u.links = s.links) (hbay : u.bay b = p) (hwarm : u.warmPosition b = w) :
    s.Tells (u.notifyBay e b) [.bay e b p.state p.attempts w] := fun l => by
  refine (State.link_notify u _ l).trans ?_
  rw [hbay, hwarm, State.link_congr hlinks]
  rfl

theorem State.Tells.trans {s t u : State} {ns ms : List Notice} (h : s.Tells t ns) (g : t.Tells u ms) :
    s.Tells u (ns ++ ms) := fun l => by
  rw [g l, h l]
  exact List.foldl_append.symm

theorem State.tells_nil {s t : State} (h : t.links = s.links) : s.Tells t [] := fun l => State.link_congr h l

/-! ## Evictions (R121, R122) -/

/-- Bays evicted for a target one after another. -/
structure State.Evicts (s t : State) (b : Bay) (ks : List Bay) : Prop where
  bays : ∀ d : Bay, t.bay d = if d ∈ ks then (s.bay d).cooled else s.bay d
  power : t.power = { s.power with bays := t.power.bays, warm := s.power.warm.filter fun k => decide (k ∉ ks) }
  dark : ∀ k ∈ ks, (t.checker k).state = .dark
  checkers : ∀ d, d ∉ ks → t.checker d = s.checker d
  tells : s.Tells t (ks.map fun k => .bay (.evicted b) k .cooling (s.bay k).attempts none)
  frame : t = { s with power := t.power, filters := t.filters, checkers := t.checkers, links := t.links }

theorem State.evicts_nil (s : State) (b : Bay) : s.Evicts s b [] where
  bays d := (if_neg List.not_mem_nil).symm
  power := by simp
  dark k hk := absurd hk List.not_mem_nil
  checkers d hd := rfl
  tells l := rfl
  frame := rfl

/-- A bay that an eviction touches no unit, charge or picture of, and no stage names active. -/
structure State.Evictable (s : State) (k : Bay) : Prop where
  powered : (s.bay k).state.powered = true
  free : s.Uninvolved k
  inactive : s.isActive k = false

theorem State.evict_evicts {s : State} {k : Bay} (h : s.Evictable k) (b : Bay) : s.Evicts (s.evict b k) b [k] := by
  have hcut := State.cutPower_uninvolved h.powered h.free .cooling
  have hroutes : s.unrouted k = s.routing := if_neg (by rw [h.inactive]; exact Bool.false_ne_true)
  have hloses := State.losesPower_cutPower (into := .cooling) h.powered
  let u := s.cutPower k .cooling
  have hframe : u = { s with power := u.power, filters := u.filters, checkers := u.checkers } := by
    show u = _
    rw [show u = _ from hcut, hroutes]
    rfl
  have hbay : u.bay k = (s.bay k).cooled := (hloses.bays k).trans (if_pos rfl)
  have hwarm : u.warmPosition k = none := by
    unfold State.warmPosition
    rw [positionIn_eq_none, hloses.power, List.mem_filter]
    simp
  have hcheckers : u.checkers = s.checkers.set k (s.checker k).cut := by rw [show u = _ from hcut]
  exact
    { bays := fun d => by
        refine (hloses.bays d).trans ?_
        by_cases hd : d = k
        · rw [if_pos hd, if_pos (List.mem_singleton.2 hd), hd]
          rfl
        · rw [if_neg hd, if_neg fun hmem => hd (List.mem_singleton.1 hmem)]
      power := by
        refine hloses.power.trans ?_
        simp only [List.mem_singleton]
        rfl
      dark := fun d hd => by rw [List.mem_singleton.1 hd]; exact hloses.checker
      checkers := fun d hd => by
        show u.checkers[d] = s.checkers[d]
        rw [hcheckers]
        exact s.checker_setChecker_other _ fun e => hd (List.mem_singleton.2 e)
      tells := State.notifyBay_tells (p := (s.bay k).cooled) (u := u) ((congrArg State.links hframe).trans rfl) hbay hwarm
      frame := congrArg (fun x : State => x.setLinks (s.evict b k).links) hframe }

theorem State.Evictable.stays {s t : State} {b k d : Bay} (h : s.Evictable d) (g : s.Evicts t b [k]) (hd : d ≠ k) :
    t.Evictable d := by
  have hbay : t.bay d = s.bay d := (g.bays d).trans (if_neg fun hmem => hd (List.mem_singleton.1 hmem))
  have hstage : t.stage = s.stage := by rw [g.frame]
  obtain ⟨hfeeder, hgate, hsource⟩ := h.free
  refine ⟨by rw [hbay]; exact h.powered, ?_, (State.isActive_congr hstage d).trans h.inactive⟩
  rw [g.frame]
  exact ⟨hfeeder, hgate, hsource⟩

/-- Evictions one behind another, of bays that are not the first again. -/
theorem State.Evicts.cons {s t u : State} {b k : Bay} {ks : List Bay} (h : s.Evicts t b [k]) (g : t.Evicts u b ks)
    (hk : k ∉ ks) : s.Evicts u b (k :: ks) := by
  have hbay (d : Bay) (hd : d ≠ k) : t.bay d = s.bay d :=
    (h.bays d).trans (if_neg fun hmem => hd (List.mem_singleton.1 hmem))
  have hbayk : t.bay k = (s.bay k).cooled := (h.bays k).trans (if_pos (List.mem_singleton.2 rfl))
  exact
    { bays := fun d => by
        rw [g.bays d]
        by_cases hd : d = k
        · rw [hd, if_neg hk, if_pos List.mem_cons_self, hbayk]
        · rw [hbay d hd]
          simp only [List.mem_cons, hd, false_or]
      power := by
        rw [g.power, h.power]
        simp only [List.filter_filter, List.mem_cons, not_or, List.not_mem_nil, or_false]
        congr 1
        refine List.filter_congr fun x _ => ?_
        rw [Bool.eq_iff_iff, Bool.and_eq_true]
        simp only [decide_eq_true_iff]
        exact and_comm
      dark := fun d hd => by
        by_cases hmem : d ∈ ks
        · exact g.dark d hmem
        · rw [g.checkers d hmem]
          exact h.dark d ((List.mem_cons.1 hd).resolve_right hmem ▸ List.mem_singleton.2 rfl)
      checkers := fun d hd => by
        obtain ⟨hne, hmem⟩ := List.ne_and_not_mem_of_not_mem_cons hd
        rw [g.checkers d hmem, h.checkers d fun hd' => hne (List.mem_singleton.1 hd')]
      tells := by
        have hrest : (ks.map fun d => Notice.bay (.evicted b) d .cooling (t.bay d).attempts none)
            = ks.map fun d => Notice.bay (.evicted b) d .cooling (s.bay d).attempts none :=
          List.map_congr_left fun d hd => by rw [hbay d fun e => hk (e ▸ hd)]
        have hboth := h.tells.trans g.tells
        rw [hrest] at hboth
        exact hboth
      frame := g.frame.trans (congrArg (fun x : State => { x with
        power := u.power, filters := u.filters, checkers := u.checkers, links := u.links }) h.frame) }

/-- How many of the bays an eviction for an excess takes (R121). -/
def evictedCount (load : Bay → Nat) : List Bay → Nat → Nat
  | [], _ => 0
  | _ :: _, 0 => 0
  | k :: rest, excess + 1 => evictedCount load rest (excess + 1 - load k) + 1

theorem evictedCount_least (load : Bay → Nat) (ks : List Bay) (excess m : Nat) (h : m < evictedCount load ks excess) :
    ((ks.take m).map load).sum < excess := by
  induction ks generalizing excess m with
  | nil => exact absurd h (Nat.not_lt_zero m)
  | cons k rest ih =>
    cases excess with
    | zero => exact absurd h (Nat.not_lt_zero m)
    | succ excess =>
      cases m with
      | zero => exact Nat.succ_pos excess
      | succ m =>
        have hrest := ih (excess + 1 - load k) m (Nat.lt_of_succ_lt_succ h)
        rw [List.take_succ_cons, List.map_cons, List.sum_cons]
        omega

theorem evictedCount_enough (load : Bay → Nat) (ks : List Bay) (excess : Nat) (h : excess ≤ (ks.map load).sum) :
    excess ≤ ((ks.take (evictedCount load ks excess)).map load).sum := by
  induction ks generalizing excess with
  | nil => exact h
  | cons k rest ih =>
    cases excess with
    | zero => exact Nat.zero_le _
    | succ excess =>
      rw [List.map_cons, List.sum_cons] at h
      have hrest := ih (excess + 1 - load k) (by omega)
      rw [evictedCount, List.take_succ_cons, List.map_cons, List.sum_cons]
      omega

theorem State.evictFor_evicts (b : Bay) (ks : List Bay) (hks : ks.Nodup) (s : State) (h : ∀ k ∈ ks, s.Evictable k)
    (excess : Nat) : s.Evicts (s.evictFor b ks excess) b (ks.take (evictedCount s.load ks excess)) := by
  induction ks generalizing s excess with
  | nil => exact s.evicts_nil b
  | cons k rest ih =>
    cases excess with
    | zero => exact s.evicts_nil b
    | succ excess =>
      obtain ⟨hk, hrest⟩ := List.nodup_cons.1 hks
      have hfirst := State.evict_evicts (h k List.mem_cons_self) b
      have hload : (s.evict b k).load = s.load := funext fun d => State.load_congr (by rw [hfirst.frame]) d
      have hnext := ih hrest (s.evict b k) (fun d hd =>
        (h d (List.mem_cons_of_mem k hd)).stays hfirst fun e => hk (e ▸ hd)) (excess + 1 - s.load k)
      rw [hload] at hnext
      exact hfirst.cons hnext fun hmem => hk (List.mem_of_mem_take hmem)

end Sys2Proof.Machine
end

section
/-! The settle timer's cut-over and the end of a falling ramp (R121, R147 to R149, R157 to R162, R167). -/

namespace Sys2Proof.Machine

/-! ## The cut-over (R159 to R161) -/

theorem State.cutSource_of_shown {s : State} {t : Target} (h : s.cutSource t ≠ .blank) : s.cutSource t = t.source := by
  cases t with
  | menu => rfl
  | bay b =>
    rw [State.cutSource_bay] at h ⊢
    split at h
    next hrun => exact if_pos hrun
    next => exact absurd rfl h

theorem HandoverRecord.leaves_eq_some {r : HandoverRecord} {a : Bay} (h : r.leaves = some a) :
    r.origin = .bay a ∧ r.target ≠ .bay a := by
  unfold HandoverRecord.leaves at h
  cases horigin : r.origin with
  | menu =>
    rw [horigin] at h
    exact absurd h nofun
  | bay o =>
    rw [horigin] at h
    by_cases htarget : r.target = .bay o
    · exact absurd ((if_pos htarget).symm.trans h) nofun
    · have ho : o = a := Option.some.inj ((if_neg htarget).symm.trans h)
      exact ⟨congrArg _ ho, ho ▸ htarget⟩

theorem State.cutOverRelease_leaves {s : State} {r : HandoverRecord} {a : Bay} (h : r.leaves = some a) :
    s.cutOverRelease r = (s.setRecord { r with released := true }).releaseOrigin a := by
  obtain ⟨horigin, htarget⟩ := HandoverRecord.leaves_eq_some h
  unfold State.cutOverRelease
  rw [horigin]
  exact if_neg htarget

/-- The cut-over with an origin that stays warm, or none to release. -/
theorem State.cutOver_warm {s : State} {r : HandoverRecord} (hstage : s.stage = .handover r)
    (h : ∀ a : Bay, r.leaves = some a → (s.bay a).state = .running ∧ (s.profile a).general.keepWarm = true) :
    (s.cutOverRelease r).setPhase .quiet =
      (s.setRecord r.cutOver).setWarm (s.power.warm ++ r.leaves.toList) := by
  unfold HandoverRecord.cutOver
  cases hleaves : r.leaves with
  | none =>
    rw [State.cutOverRelease_stays hleaves, State.setPhase_handover hstage]
    simp only [Option.isSome_none, Bool.or_false, Option.toList_none, List.append_nil]
    rfl
  | some a =>
    obtain ⟨hrun, hwarm⟩ := h a hleaves
    let v := s.setRecord { r with released := true }
    have hrelease : v.releaseOrigin a = v.setWarm (s.power.warm ++ [a]) :=
      (State.releaseOrigin_running (s := v) hrun).trans (if_pos hwarm)
    rw [State.cutOverRelease_leaves hleaves, hrelease, State.setPhase_handover (s := v.setWarm _) rfl]
    simp only [Option.isSome_some, Bool.or_true, Option.toList_some]
    rfl

theorem settleExpiryMakesCut : Claims.SettleExpiryMakesCut := by
  intro s r hs hruns hstage hphase hcut hsource hgain hramp hfollow hleaves m warm
  let v := s.setMonitor { s.monitor with settle := none }
  let u := s.setMonitor m
  let x := (u.setRecord r.cutOver).setWarm warm
  have hcutSource : v.cutSource r.target = s.cutSource r.target := by cases r.target <;> rfl
  have hstops : s.settleStops = u.report (.cutDone (s.cutSource r.target)) := by
    rw [State.settleStops_cut hcut,
      State.makeCut_rising (s := v) (hcutSource.symm ▸ hsource) hgain hramp, hcutSource]
    rfl
  have hover : u.cutDone (s.cutSource r.target) = x.quietRequest := by
    rw [State.cutDone_cutOver (s := u) hstage hphase (State.cutSource_of_shown hsource),
      State.cutOver_warm (s := u) hstage hleaves]
    rfl
  have hexec : exec .settleExpiry s = .next (x.quietRequest.drainWith 63) := by
    rw [exec_settleExpiry_running hruns, hstops, State.drain_of_late_none (s := u.report _) hs.2]
    refine congrArg _ ((State.report_drainWith (s := u) hs.1 rfl 63).trans ?_)
    exact congrArg (State.drainWith · 63) hover
  refine ⟨fun hpressed hquiet => ?_, fun hpressed => ?_⟩
  · rw [hexec, State.quietRequest_waits (s := x) hpressed hquiet, State.drainWith_nil (s := x.setRouting _) hs.1]
    rfl
  · have hgranted : x.quietRequest.drainWith 63 = x.completed r.target r.cause := by
      have hgrant : x.quietGrant = x.completed r.target r.cause := by
        rw [State.quietGrant_handover (s := x) (r := r.cutOver) rfl rfl]
        exact State.followOn_none (.inl hfollow)
      have hreports : (x.completed r.target r.cause).reports = [] := by
        rw [(x.completes r.target r.cause).frame]
        exact hs.1
      rw [State.quietRequest_granted (s := x) hpressed, State.report_drainWith (s := x) hs.1 rfl 62]
      exact (congrArg (State.drainWith · 62) hgrant).trans (State.drainWith_nil hreports 62)
    rw [hgranted] at hexec
    obtain ⟨tstage, tbays, tpower, trouting, tpanel, ttells, tframe⟩ := x.completes r.target r.cause
    refine ⟨_, hexec, tstage, ?_, tbays, tpower, trouting, tpanel, ttells, tframe.trans ?_⟩
    · rw [tframe]
      rfl
    · have hmonitor : (x.completed r.target r.cause).monitor = m := by
        rw [tframe]
        rfl
      rw [hmonitor]
      rfl

/-! ## The end of a ramp (R147, R148) -/

section
variable {s : State} {b : Bay} {r : HandoverRecord}

theorem exec_audioRampEnd_still (h : s.monitor.audio = .muted ∨ s.monitor.audio = .full) :
    exec .audioRampEnd s = .next s := by
  show execAudioRampEnd s = _
  unfold execAudioRampEnd
  rcases h with h | h <;> rw [h]

theorem exec_audioRampEnd_rising (h : s.monitor.audio = .rising) :
    exec .audioRampEnd s = .next (s.setMonitor s.monitor.rampFull) := by
  show execAudioRampEnd s = _
  unfold execAudioRampEnd
  rw [h]

/-- A falling ramp's end mutes, and RAMP_DONE is taken. -/
theorem exec_audioRampEnd_falling (hs : s.Settled) (h : s.monitor.audio = .falling) :
    exec .audioRampEnd s = .next ((s.setMonitor s.monitor.mute).rampDone.drainWith 63) := by
  show execAudioRampEnd s = _
  unfold execAudioRampEnd
  rw [h]
  show Host.Outcome.next ((s.setMonitor s.monitor.mute).report .rampDone).drain = _
  rw [State.drain_of_late_none (s := (s.setMonitor s.monitor.mute).report .rampDone) hs.2]
  exact congrArg _ (State.report_drainWith (s := s.setMonitor s.monitor.mute) hs.1 rfl 63)

theorem State.rampDone_other (h : ∀ r, s.handover = some r → r.phase ≠ .release) : s.rampDone = s := by
  unfold State.rampDone
  unfold State.handover at h
  cases hstage : s.stage with
  | menu => rfl
  | play b => rfl
  | handover r =>
    rw [hstage] at h
    exact if_neg (h r rfl)

/-! ## Power requests (R121) -/

theorem State.powerRequest_running (h : (s.bay b).state = .running) : s.powerRequest b = s.report (.ready b) := by
  unfold State.powerRequest
  rw [h]

theorem State.powerRequest_underway (h : (s.bay b).state = .starting ∨ (s.bay b).state = .booting) :
    s.powerRequest b = s := by
  unfold State.powerRequest
  rcases h with h | h <;> rw [h]

theorem State.powerRequest_cooling (h : (s.bay b).state = .cooling) :
    s.powerRequest b = s.setBay b { s.bay b with deferred := some .handover } := by
  unfold State.powerRequest
  rw [h]

theorem State.powerRequest_off (h : (s.bay b).state = .off) : s.powerRequest b = s.judgeHandover b := by
  unfold State.powerRequest
  rw [h]

theorem State.judgeHandover_fits (h : s.committedLoad + s.load b ≤ s.budget) : s.judgeHandover b = s.enterStarting b :=
  if_pos (Nat.sub_eq_zero_of_le h)

/-- An OFF bay powered behind evictions, or without any. -/
theorem State.judgeHandover_room (h : s.excess b ≤ s.loads s.candidates) :
    s.judgeHandover b = (s.evictFor b s.candidates (s.excess b)).enterStarting b := by
  have hjudge : s.judgeHandover b = if s.excess b = 0 then s.enterStarting b
      else if s.excess b ≤ s.loads s.candidates then (s.evictFor b s.candidates (s.excess b)).enterStarting b
      else s.report (.failed b .budget) := rfl
  by_cases hzero : s.excess b = 0
  · rw [hjudge, if_pos hzero, hzero]
    cases s.candidates <;> rfl
  · rw [hjudge, if_neg hzero, if_pos h]

theorem State.judgeHandover_refused (h : s.loads s.candidates < s.excess b) :
    s.judgeHandover b = s.report (.failed b .budget) :=
  (if_neg (show s.excess b ≠ 0 by omega)).trans (if_neg (Nat.not_le.2 h))

theorem State.enterStarting_clear (h : s.pins.overcurrent[b] = false) : s.enterStarting b =
    (s.setBay b { s.bay b with
      state := .starting, timer := some (Timer.start (s.profile b).general.resetHold) }).setChecker b Checker.seek :=
  if_neg (by show ¬s.pins.overcurrent[b] = true; rw [h]; exact Bool.false_ne_true)

end

/-- The state in which a target that is a bay is powered behind a falling ramp. -/
def State.powering (s : State) (r : HandoverRecord) : State :=
  (s.setMonitor s.monitor.mute).setRecord { r with phase := .power }

/-- The end of a falling ramp in RELEASE, with a bay for target, makes a power request. -/
theorem exec_audioRampEnd_powers {s : State} {r : HandoverRecord} {b : Bay} (hs : s.Settled)
    (h : s.monitor.audio = .falling) (hstage : s.stage = .handover r) (hphase : r.phase = .release)
    (htarget : r.target = .bay b) : exec .audioRampEnd s = .next (((s.powering r).powerRequest b).drainWith 63) := by
  have hafter : (s.setMonitor s.monitor.mute).afterRelease r = (s.powering r).powerRequest b := by
    unfold State.afterRelease
    rw [htarget]
    rfl
  rw [exec_audioRampEnd_falling hs h, State.rampDone_release (s := s.setMonitor s.monitor.mute) hstage hphase, hafter]

theorem rampEndGoesOn : Claims.RampEndGoesOn := by
  intro s hs
  refine ⟨exec_audioRampEnd_still, exec_audioRampEnd_rising, fun hfall hother => ?_,
    fun r b hfall hstage hphase htarget hoff hroom hclear => ?_⟩
  · rw [exec_audioRampEnd_falling hs hfall, State.rampDone_other (s := s.setMonitor s.monitor.mute) hother,
      State.drainWith_nil (s := s.setMonitor s.monitor.mute) hs.1]
    rfl
  · let w := s.powering r
    let t := (w.setBay b { s.bay b with
        state := .starting, timer := some (Timer.start (s.profile b).general.resetHold) }).setChecker b Checker.seek
    have hpower : w.powerRequest b = t :=
      (State.powerRequest_off (s := w) hoff).trans
        ((State.judgeHandover_fits (s := w) hroom).trans (State.enterStarting_clear (s := w) hclear))
    have hexec := exec_audioRampEnd_powers hs hfall hstage hphase htarget
    rw [hpower, State.drainWith_nil (s := t) hs.1] at hexec
    refine ⟨t, hexec, rfl, rfl, State.bay_setBay_same w b _, fun d hd => State.bay_setBay_other w _ hd,
      State.checker_setChecker_same _ b _, rfl⟩

/-! ## The target judged at the end of a falling ramp (R121, R135, R157 to R159, R167) -/

section
variable {s : State} {b : Bay} {r : HandoverRecord}

theorem HandoverRecord.leaves_phase (r : HandoverRecord) (p : Phase) : { r with phase := p }.leaves = r.leaves := rfl

/-- CLASS begun from any phase, told in the words of the record before. -/
theorem State.classBegun_phase (s : State) (r : HandoverRecord) (p : Phase) :
    s.classBegun { r with phase := p } = s.classBegun r := rfl

/-- A report that names the target of a handover not in CLASS may not wait. -/
theorem State.mayWait_failed (hstage : s.stage = .handover r) (hphase : r.phase ≠ .classChange) (why : FailReason) :
    s.mayWait (.failed b why) = false := by
  show s.isCutTarget b = false
  unfold State.isCutTarget
  rw [hstage]
  simp [hphase]

theorem State.turnToMenu_power (hphase : r.phase = .power) (why : FailReason) : s.turnToMenu r b why =
    ((s.setRecord (r.failed b why)).notify (.handoverFailed b why r.origin)).startClass (r.failed b why) := by
  have hphase' : (r.failed b why).phase = .power := hphase
  show State.redirect _ (r.failed b why) = _
  unfold State.redirect
  rw [hphase']
  rfl

/-- The failure of the target in POWER: the handover turns to MENU and CLASS begins. -/
theorem State.targetFailed_power (hs : s.reports = []) (hstage : s.stage = .handover r) (hphase : r.phase = .power)
    (htarget : r.target = .bay b) (why : FailReason) (hplain : s.PlainClass s.monitor (r.failed b why)) (n : Nat) :
    (s.targetFailed b why).drainWith (n + 2) =
      ((s.setRecord (r.failed b why)).notify (.handoverFailed b why r.origin)).classBegun (r.failed b why) := by
  have hturn : s.targetFailed b why = s.turnToMenu r b why := by
    unfold State.targetFailed
    rw [hstage]
    exact (if_pos htarget).trans (if_neg (by rw [hphase]; exact nofun))
  rw [hturn, State.turnToMenu_power hphase]
  exact State.startClass_drains (s := (s.setRecord (r.failed b why)).notify (.handoverFailed b why r.origin)) hs
    (hplain.congr rfl rfl) rfl n

end

/-- A state in which CLASS has begun differs in the stage, the monitor and the routing. -/
theorem State.classBegun_frame (s : State) (r : HandoverRecord) : s.classBegun r = { s with
    stage := (s.classBegun r).stage, monitor := (s.classBegun r).monitor, routing := (s.classBegun r).routing } := rfl

theorem State.WarmOk.evictable {s : State} {k : Bay} (h : s.PlainCandidates) (hk : k ∈ s.candidates) : s.Evictable k := by
  obtain ⟨⟨_, hwarm⟩, hplain⟩ := h
  obtain ⟨hlist, hidle⟩ := List.mem_filter.1 hk
  obtain ⟨hrun, hactive, _, _⟩ := hwarm k hlist
  obtain ⟨hfeeder, _⟩ := Bool.and_eq_true_iff.1 hidle
  exact
    { powered := by rw [(s.isRunning_iff k).1 hrun]; rfl
      free := ⟨of_decide_eq_true hfeeder, hplain k hk⟩
      inactive := hactive }

theorem State.PlainCandidates.nodup {s : State} (h : s.PlainCandidates) : s.candidates.Nodup := by
  obtain ⟨⟨hnodup, _⟩, _⟩ := h
  exact hnodup.filter _

/-- A bay powered behind evictions (R119, R121, R122). -/
theorem State.judgeHandover_startsBehind {s : State} {b : Bay} (hoff : (s.bay b).state = .off)
    (hdeferred : (s.bay b).deferred = none) (hroom : s.excess b ≤ s.loads s.candidates)
    (hclear : s.pins.overcurrent[b] = false) (hplain : s.PlainCandidates) :
    ∃ n, s.StartsBehind (s.judgeHandover b) b n ∧ s.judgeHandover b = { s with
      power := (s.judgeHandover b).power, filters := (s.judgeHandover b).filters
      checkers := (s.judgeHandover b).checkers, links := (s.judgeHandover b).links } := by
  let n := evictedCount s.load s.candidates (s.excess b)
  let v := s.evictFor b s.candidates (s.excess b)
  have hv : s.Evicts v b (s.candidates.take n) := State.evictFor_evicts b s.candidates hplain.nodup s
    (fun k hk => State.WarmOk.evictable hplain hk) (s.excess b)
  have hnot : b ∉ s.candidates.take n := fun hmem => by
    have hpowered := (State.WarmOk.evictable hplain (List.mem_of_mem_take hmem)).powered
    rw [hoff] at hpowered
    exact absurd hpowered (by decide)
  have hbay : v.bay b = s.bay b := (hv.bays b).trans (if_neg hnot)
  have hprofile : v.profile b = s.profile b := by rw [hv.frame]; rfl
  let t := (v.setBay b { s.bay b with
    state := .starting, timer := some (Timer.start (s.profile b).general.resetHold) }).setChecker b Checker.seek
  have hstart : v.enterStarting b = t := by
    rw [State.enterStarting_clear (by rw [hv.frame]; exact hclear), hbay, hprofile]
  have hstarted : s.started b = { s.bay b with
      state := .starting, timer := some (Timer.start (s.profile b).general.resetHold) } := by
    unfold State.started
    rw [← hdeferred]
    rfl
  have hchecker : t.checker b = Checker.seek := State.checker_setChecker_same _ b _
  rw [State.judgeHandover_room hroom, hstart]
  refine ⟨n, ?_, ?_⟩
  · exact
      { enough := evictedCount_enough s.load s.candidates (s.excess b) hroom
        least := fun m hm => evictedCount_least s.load s.candidates (s.excess b) m hm
        bays := fun d => by
          by_cases hd : d = b
          · rw [if_pos hd, hd, hstarted]
            exact State.bay_setBay_same v b _
          · rw [if_neg hd, ← hv.bays d]
            exact State.bay_setBay_other v _ hd
        power := congrArg (fun x : Power => { x with bays := t.power.bays }) hv.power
        checker := by
          rw [hchecker]
          exact ⟨rfl, rfl, rfl⟩
        dark := fun k hk => by
          have hne : k ≠ b := fun e => hnot (e ▸ hk)
          exact (congrArg Checker.state (State.checker_setChecker_other _ Checker.seek hne)).trans (hv.dark k hk)
        tells := hv.tells }
  · exact congrArg (fun x : State => { x with
      power := t.power, filters := t.filters, checkers := t.checkers, links := t.links }) hv.frame

/-- A handover's phase is no part of the roles it gives. -/
theorem State.PlainCandidates.setRecord {s u : State} {r : HandoverRecord} (h : s.PlainCandidates)
    (hstage : s.stage = .handover r) (p : Phase) (hu : u = { s with monitor := u.monitor, stage := .handover { r with phase := p } })
    (hsource : u.monitor.source = s.monitor.source) : u.PlainCandidates := by
  obtain ⟨⟨hnodup, hwarm⟩, hplain⟩ := h
  have hpower : u.power = s.power := by rw [hu]
  have hgate : u.gate = s.gate := by rw [hu]
  have hcands : u.candidates = s.candidates := by rw [hu]; rfl
  have hrecord : u.handover = some { r with phase := p } := by rw [hu]; rfl
  have hold : s.handover = some r := by rw [State.handover, hstage]
  refine ⟨⟨by rw [hpower]; exact hnodup, fun k hk => ?_⟩, by rw [hcands, hgate, hsource]; exact hplain⟩
  obtain ⟨hrun, _, horigin, htarget⟩ := hwarm k (by rwa [hpower] at hk)
  refine ⟨(State.isRunning_congr hpower k).trans hrun, ?_, ?_, ?_⟩
  · rw [hu]
    exact decide_eq_false nofun
  · rw [← horigin, State.isOrigin, State.isOrigin, hrecord, hold]
  · rw [← htarget, State.isTarget, State.isTarget, hrecord, hold]

theorem rampEndJudgesTarget : Claims.RampEndJudgesTarget := by
  intro s r hs hfall hstage hphase m power goes
  have hclass {u : State} {q : HandoverRecord} (hu : u.tables = s.tables) (hm : u.monitor = m) (hr : u.routing = s.routing) :
      s.ClassBegins (u.classBegun q) m q := State.classBegun_begins hu hr hm
  refine ⟨fun htarget hplain => ?_, fun b htarget => ?_⟩
  · let u := s.setMonitor m
    have hafter : u.rampDone = u.startClass r := by
      rw [State.rampDone_release (s := u) hstage hphase, State.afterRelease, htarget]
    have hexec : exec .audioRampEnd s = .next (u.classBegun r) := by
      rw [exec_audioRampEnd_falling hs hfall]
      refine congrArg _ ((congrArg (State.drainWith · 63) hafter).trans ?_)
      exact State.startClass_drains (s := u) hs.1 (hplain.congr rfl rfl) (by rw [htarget]; rfl) 61
    exact ⟨_, ⟨hexec, rfl⟩, hclass rfl rfl rfl, fun l => rfl⟩
  · let q := { r with phase := Phase.power }
    have hexec : exec .audioRampEnd s = .next ((power.powerRequest b).drainWith 63) :=
      exec_audioRampEnd_powers hs hfall hstage hphase htarget
    refine ⟨fun hrun hplain => ?_, fun hunder => ?_, fun hcool => ?_, fun hoff hdeferred hroom hclear hcand => ?_,
      fun why hwhy hplain => ?_⟩
    · have hdrain : (power.powerRequest b).drainWith 63 = power.classBegun r := by
        rw [State.powerRequest_running (s := power) hrun, State.report_drainWith (s := power) hs.1 rfl 62]
        refine (congrArg (State.drainWith · 62) (State.ready_power (s := power) (r := q) rfl rfl htarget)).trans ?_
        refine State.startClass_drains (s := power) (r := q) hs.1 (hplain.congr rfl rfl) ?_ 60
        rw [show q.target = .bay b from htarget, State.cutSource_bay]
        exact if_pos hrun
      rw [hdrain] at hexec
      exact ⟨_, ⟨hexec, rfl⟩, hclass rfl rfl rfl, fun l => rfl⟩
    · rw [hexec, State.powerRequest_underway (s := power) hunder, State.drainWith_nil (s := power) hs.1]
    · rw [hexec, State.powerRequest_cooling (s := power) hcool,
        State.drainWith_nil (s := power.setBay b { power.bay b with deferred := some .handover }) hs.1]
      rfl
    · obtain ⟨n, hstarts, hframe⟩ := State.judgeHandover_startsBehind (s := power) hoff hdeferred hroom hclear
        (hcand.setRecord hstage .power rfl rfl)
      rw [State.powerRequest_off (s := power) hoff,
        State.drainWith_nil (s := power.judgeHandover b) (by rw [hframe]; exact hs.1)] at hexec
      exact ⟨_, n, hexec, ⟨hstarts.enough, hstarts.least, hstarts.bays, hstarts.power, hstarts.checker, hstarts.dark,
        hstarts.tells⟩, hframe⟩
    · have hrequest : power.powerRequest b = power.report (.failed b why) := by
        rcases hwhy with ⟨h, rfl⟩ | ⟨h, rfl⟩ | ⟨h, rfl⟩ | ⟨h, hfew, rfl⟩
        · unfold State.powerRequest
          rw [show (power.bay b).state = .tripped from h]
        · unfold State.powerRequest
          rw [show (power.bay b).state = .faulted from h]
        · unfold State.powerRequest
          rw [show (power.bay b).state = .disabled from h]
        · exact (State.powerRequest_off (s := power) h).trans (State.judgeHandover_refused (s := power) hfew)
      let u := (power.setRecord (q.failed b why)).notify (.handoverFailed b why r.origin)
      have hdrain : (power.powerRequest b).drainWith 63 = u.classBegun (q.failed b why) := by
        rw [hrequest, State.report_drainWith (s := power) hs.1 (State.mayWait_failed (s := power) (r := q) rfl nofun why) 62]
        exact State.targetFailed_power (s := power) (r := q) hs.1 rfl rfl htarget why (hplain.congr rfl rfl) 60
      rw [hdrain] at hexec
      have hbegins : s.ClassBegins (u.classBegun (q.failed b why)) m (q.failed b why) := hclass rfl rfl rfl
      exact ⟨_, ⟨hexec, rfl⟩, ⟨hbegins.stage, hbegins.monitor, hbegins.routing⟩, fun l => State.link_notify _ _ l⟩

/-- Settles O50: cut requests, the settle timer, the release of an origin, ramps, and what leaves for the monitor. -/
theorem crosspointTimersGoOn : Obligations.CrosspointTimersGoOn :=
  ⟨cutRequestStepsClass, settleExpiryStopsTimer, settleExpiryMakesCut, originReleasedByKeepWarm, rampEndGoesOn,
    rampEndJudgesTarget, monitorGivenSource⟩

end Sys2Proof.Machine
end

section
/-! Settlement: what the arbiter does behind a feeder, and a slot unit retired or returned (R12, R33, R39, R40, R52, R71). -/

namespace Sys2Proof.Machine

/-! ## The arbiter looks at the feeders, the pulse units and the settings alone (R40, R41) -/

/-- Two states whose feeders, pulse units and settings are the same. -/
structure State.FeedsAs (x v : State) : Prop where
  feeders : x.feeders = v.feeders
  pulses : x.pulses = v.pulses
  tables : x.tables = v.tables

namespace State.FeedsAs

variable {x v : State} (h : x.FeedsAs v)
include h

theorem feeder (b : Bay) : x.feeder b = v.feeder b := State.feeder_congr h.feeders b

theorem pulse (u : PulseId) : x.pulse u = v.pulse u := by
  cases u <;> simp only [State.pulse, h.pulses]

theorem profile (b : Bay) : x.profile b = v.profile b := by simp only [State.profile, h.tables]

theorem setFeeder (b : Bay) (f : Feeder) : (x.setFeeder b f).FeedsAs (v.setFeeder b f) :=
  ⟨congrArg (fun fs : Vector Feeder 8 => fs.set b f) h.feeders, h.pulses, h.tables⟩

theorem setPulses {y z : PulseBank} (hy : y = z) : (x.setPulses y).FeedsAs (v.setPulses z) := ⟨h.feeders, hy, h.tables⟩

theorem setPulse (u : PulseId) (p : Option Pulse) : (x.setPulse u p).FeedsAs (v.setPulse u p) := by
  cases u
  · exact ⟨h.feeders, congrArg (fun y : PulseBank => { y with a := p }) h.pulses, h.tables⟩
  · exact ⟨h.feeders, congrArg (fun y : PulseBank => { y with b := p }) h.pulses, h.tables⟩

theorem activeEdge (u : PulseId) : (x.activeEdge u).FeedsAs (v.activeEdge u) := by
  unfold State.activeEdge
  rw [h.pulse u]
  cases v.pulse u with
  | none => exact h
  | some p =>
    have hpulse := h.setPulse u (some { p with phase := .active, count := 0 })
    dsimp only
    rw [hpulse.feeder p.bay, hpulse.profile p.bay]
    split
    next => exact hpulse
    next =>
      split
      · exact hpulse.setFeeder _ _
      · exact hpulse

theorem grantPulse (u : PulseId) (b : Bay) : (x.grantPulse u b).FeedsAs (v.grantPulse u b) := by
  unfold State.grantPulse
  dsimp only
  rw [h.feeder b, h.profile b]
  have hpointer : ({ x.pulses with pointer := b } : PulseBank) = { v.pulses with pointer := b } :=
    congrArg (fun y : PulseBank => { y with pointer := b }) h.pulses
  split
  next => exact h
  next =>
    split
    · exact (((h.setFeeder _ _).setPulses hpointer).setPulse _ _).activeEdge _
    · exact ((h.setFeeder _ _).setPulses hpointer).setPulse _ _

theorem freePulse : x.freePulse = v.freePulse := by simp only [State.freePulse, h.pulses]

theorem chosenBay : x.chosenBay = v.chosenBay := by
  have horder : x.searchOrder = v.searchOrder := by simp only [State.searchOrder, h.pulses, h.tables]
  unfold State.chosenBay
  rw [horder]
  exact congrArg (fun p => List.find? p v.searchOrder) (funext fun b => by rw [h.feeder b])

theorem grantOne : x.grantOne.FeedsAs v.grantOne := by
  unfold State.grantOne
  rw [h.freePulse, h.chosenBay]
  split
  · exact h.grantPulse _ _
  · exact h

theorem arbitrate : x.arbitrate.FeedsAs v.arbitrate := h.grantOne.grantOne

/-- The arbiter's grants, told in the words of a state with the same feeders and pulse units. -/
theorem arbitrate_eq : x.arbitrate = { x with feeders := v.arbitrate.feeders, pulses := v.arbitrate.pulses } := by
  rw [← h.arbitrate.feeders, ← h.arbitrate.pulses]
  exact x.grants_arbitrate.frame

end State.FeedsAs

section
variable {s v t : State} {u : PulseId} {b : Bay}

theorem State.chosenBay_eq_none (h : s.NoRequests) : s.chosenBay = none :=
  List.find?_eq_none.2 fun b _ => by rw [h b]; exact Bool.false_ne_true

/-- Without a request nothing is granted. -/
theorem State.arbitrate_noRequests (h : s.NoRequests) : s.arbitrate = s := by
  have hone : s.grantOne = s := by
    unfold State.grantOne
    rw [State.chosenBay_eq_none h]
    cases s.freePulse <;> rfl
  rw [State.arbitrate, hone, hone]

theorem State.grantPulse_pulse (h : (s.feeder b).queue ≠ []) (u : PulseId) :
    ((s.grantPulse u b).pulse u).map Pulse.bay = some b ∧ ∀ w, w ≠ u → (s.grantPulse u b).pulse w = s.pulse w := by
  obtain ⟨k, rest, hqueue⟩ := List.exists_cons_of_ne_nil h
  obtain ⟨t, ht, hpulse, _, _, hothers, _, _⟩ := grantStartsPulse s u b k rest hqueue
  rw [ht, hpulse]
  exact ⟨rfl, hothers⟩

/-- One free pulse unit is granted to the feeder the arbiter chooses, and no other is. -/
theorem State.arbitrate_lastPulse (hfree : s.pulse u = none) (hothers : ∀ w, w ≠ u → (s.pulse w).isSome = true)
    (hchosen : s.chosenBay = some b) : (s.arbitrate.pulse u).map Pulse.bay = some b := by
  obtain ⟨_, hqueue⟩ := State.waits_of_chosenBay hchosen
  obtain ⟨hgranted, hkept⟩ := State.grantPulse_pulse hqueue u
  have hfreeUnit : s.freePulse = some u := by
    unfold State.freePulse
    cases u with
    | a =>
      rw [show s.pulses.a = none from hfree]
      rfl
    | b =>
      have ha : s.pulses.a.isSome = true := hothers .a nofun
      rw [show s.pulses.b = none from hfree, Option.isNone_eq_false_iff.2 ha]
      rfl
  have hone : s.grantOne = s.grantPulse u b := State.grantOne_of_chosenBay hfreeUnit hchosen
  let w := s.grantPulse u b
  have hbusy : w.freePulse = none := by
    have hu : (w.pulse u).isSome = true := by
      cases hp : w.pulse u with
      | none => exact absurd (hgranted.symm.trans (congrArg (Option.map Pulse.bay) hp)) nofun
      | some p => rfl
    have hall (x : PulseId) : (w.pulse x).isSome = true := by
      by_cases hx : x = u
      · exact hx ▸ hu
      · rw [hkept x hx]
        exact hothers x hx
    have ha : w.pulses.a.isNone = false := Option.isNone_eq_false_iff.2 (hall .a)
    have hb : w.pulses.b.isNone = false := Option.isNone_eq_false_iff.2 (hall .b)
    unfold State.freePulse
    rw [ha, hb]
    rfl
  have hnone : w.grantOne = w := by
    unfold State.grantOne
    rw [hbusy]
  rw [State.arbitrate, hone, hnone]
  exact hgranted

/-- What the arbiter makes of a pulse unit that is let go (R39, R40). -/
theorem State.arbiterTakesUp (hv : v.pulses = (s.setPulse u none).pulses) (hpulses : t.pulses = v.arbitrate.pulses)
    (hfeeders : t.feeders = v.arbitrate.feeders) : s.ArbiterTakesUp v t u := by
  have hvpulse (x : PulseId) : v.pulse x = (s.setPulse u none).pulse x := by
    cases x <;> simp only [State.pulse, hv]
  have htpulse (x : PulseId) : t.pulse x = v.arbitrate.pulse x := by
    cases x <;> simp only [State.pulse, hpulses]
  have hfree : v.pulse u = none := (hvpulse u).trans (s.pulse_setPulse_same u none)
  have hother (x : PulseId) (hx : x ≠ u) : v.pulse x = s.pulse x := (hvpulse x).trans (s.pulse_setPulse_other none hx)
  refine ⟨hpulses, hfeeders, fun hnone => ?_, fun b hchosen hbusy => ?_⟩
  · have hstill := State.arbitrate_noRequests hnone
    refine ⟨?_, fun x hx => ?_, ?_, ?_⟩
    · rw [htpulse, hstill, hfree]
    · rw [htpulse, hstill, hother x hx]
    · rw [hpulses, hstill, hv, State.setPulse_pointer]
    · rw [hfeeders, hstill]
  · rw [htpulse]
    exact State.arbitrate_lastPulse hfree (fun x hx => by rw [hother x hx]; exact hbusy x hx) hchosen

end

/-! ## Closure and notices in states with the same store and intake (R15, R17, R18) -/

/-- Two states that report the same store and intake. -/
structure State.ShowsAs (u t : State) : Prop where
  intake : u.intake = t.intake
  store : u.store = t.store
  flags : u.flags = t.flags
  tables : u.tables = t.tables

section
variable {s t u : State} (h : u.ShowsAs t)
include h

theorem State.ShowsAs.closureHolds : u.closureHolds = t.closureHolds := by
  obtain ⟨hintake, hstore, hflags, htables⟩ := h
  simp only [State.closureHolds, State.closedByFlag, State.closedByReserve, State.reserve, State.largestWeight,
    State.chuteConfig, hstore, hflags, htables] <;> rfl

theorem State.ShowsAs.intakeView : u.intakeView = t.intakeView := by
  obtain ⟨hintake, hstore, hflags, htables⟩ := h
  simp only [State.intakeView, State.closedByFlag, State.closedByReserve, State.reserve, State.largestWeight,
    State.chuteConfig, hintake, hstore, hflags, htables] <;> rfl

theorem State.ClosureFollows.congr (g : s.ClosureFollows t) : s.ClosureFollows u where
  closed := by rw [h.intake, g.closed, h.closureHolds]
  coils c := by
    have hwanted : u.coilWanted c = t.coilWanted c := by
      simp only [State.coilWanted, State.chuteConfig, State.chute, h.intake, h.tables] <;> rfl
    rw [h.intake, g.coils c, hwanted]
  rest := by
    rw [h.intake]
    exact g.rest

theorem State.storeNotices_congr (c : PoolCause) (n : Nat) (b : Option Bay) :
    s.storeNotices u c n b = s.storeNotices t c n b := by
  rw [State.storeNotices, State.closureNotices, h.intakeView, h.intake, h.store, State.storeNotices, State.closureNotices]

end

/-! ## Reports of an IDLE feeder (R28, R133) -/

section
variable {s : State} {b : Bay}

theorem State.feederIdle_stays (h : (s.bay b).releasePending = false ∨ (s.feeder b).state ≠ .idle) : s.feederIdle b = s := by
  refine if_neg fun hall => ?_
  obtain ⟨hfirst, hidle⟩ := Bool.and_eq_true_iff.1 hall
  obtain ⟨hpending, _⟩ := Bool.and_eq_true_iff.1 hfirst
  rcases h with h | h
  · exact absurd (h.symm.trans hpending) Bool.false_ne_true
  · exact h (of_decide_eq_true hidle)

theorem State.feederIdle_cuts (hpending : (s.bay b).releasePending = true) (hrun : (s.bay b).state = .running)
    (hidle : (s.feeder b).state = .idle) : s.feederIdle b = s.cutPower b .cooling :=
  if_pos (by rw [hpending, (s.isRunning_iff b).2 hrun, hidle]; rfl)

/-- A report of an IDLE feeder whose bay is not release-pending changes nothing. -/
theorem State.drain_idle (hlate : s.late = none) (hreports : s.reports = [] ∨ s.reports = [.feederIdle b])
    (h : (s.bay b).releasePending = false ∨ (s.feeder b).state ≠ .idle) : s.drain = s.setReports [] := by
  rw [State.drain_of_late_none hlate]
  rcases hreports with hnone | hone
  · rw [State.drainWith_nil hnone]
    exact congrArg s.setReports hnone
  · have htake : (s.setReports []).feederIdle b = s.setReports [] := State.feederIdle_stays (s := s.setReports []) h
    rw [show Config.reportFuel = 63 + 1 from rfl, State.drainWith_cons hone, State.takeOrLeave_now rfl]
    exact (congrArg (State.drainWith · 63) htake).trans (State.drainWith_nil (s := s.setReports []) rfl 63)

/-- A report of an IDLE feeder of a release-pending bay, which no picture is of, cuts the bay's power. -/
theorem State.drain_released (hlate : s.late = none) (hreports : s.reports = [.feederIdle b])
    (hpending : (s.bay b).releasePending = true) (hrun : (s.bay b).state = .running) (hfree : s.Uninvolved b) :
    s.drain = (s.setReports []).cutPower b .cooling := by
  obtain ⟨hidle, hgate, hsource⟩ := hfree
  let v := s.setReports []
  have htake : v.feederIdle b = v.cutPower b .cooling := State.feederIdle_cuts (s := v) hpending hrun hidle
  have hnone : (v.cutPower b .cooling).reports = [] := by
    rw [State.cutPower_uninvolved (s := v) (by rw [show (v.bay b).state = .running from hrun]; rfl) ⟨hidle, hgate, hsource⟩]
    rfl
  rw [State.drain_of_late_none hlate, show Config.reportFuel = 63 + 1 from rfl, State.drainWith_cons hreports,
    State.takeOrLeave_now rfl]
  exact (congrArg (State.drainWith · 63) htake).trans (State.drainWith_nil hnone 63)

end

end Sys2Proof.Machine
end

section
/-! The slot unit settled: retired, its outcome handed to the gate, the feeder going on (R12, R32, R33, R52, R71, R133). -/

namespace Sys2Proof.Machine

/-! ## A store change told (R13 to R15) -/

/-- A store change told: closure follows, and each link has its notices. -/
structure State.Booked (s u y : State) (kind : PoolCause) (moved : Nat) (b : Bay) : Prop where
  closure : s.ClosureFollows y
  tells : s.Tells y (s.storeNotices y kind moved (some b))
  frame : y = { u with intake := y.intake, links := y.links }

theorem State.booked {s u : State} (hintake : u.intake = s.intake) (hlinks : u.links = s.links) (kind : PoolCause)
    (moved : Nat) (b : Bay) : s.Booked u (u.storeChanged kind moved (some b)) kind moved b where
  closure := State.evalClosure_follows (u := u.notify _) hintake
  tells l := by
    rw [State.link_storeChanged (s := s) (u := u) hintake]
    exact congrArg (LinkState.toldAll · _) (State.link_congr hlinks l)
  frame := u.storeChanged_frame kind moved (some b)

/-! ## The outcome CONFIRMED at the gate (R64, R71, R72) -/

/-- What an outcome makes of the gate, with the notices it sends. -/
structure State.GateTakes (w x : State) (g : Gate) (plays : Audit → Audit) (ns : List Notice) : Prop where
  frame : x = { w with gate := g, audit := plays w.audit, links := x.links }
  tells : w.Tells x ns

theorem State.gateTakes_nothing (w : State) : w.GateTakes w w.gate id [] := ⟨rfl, fun _ => rfl⟩

theorem Gate.owns_iff {g : Gate} {b : Bay} {n : UnitNo} :
    g.owns b n = true ↔ g.state = .paying ∧ g.bay = some b ∧ n ∈ g.units := by
  simp [Gate.owns, and_assoc]

section
variable {w : State} {b : Bay} {k : CoinUnit}

/-- An outcome that is not the gate's own is ignored. -/
theorem State.handOutcome_ignored (h : k.cause = .transfer ∨ w.gate.owns b k.number = false) (o : GateOutcome) :
    w.handOutcome b k o = w := by
  unfold State.handOutcome
  rcases h with h | h
  · exact if_neg (by rw [h]; exact nofun)
  · split
    · exact if_neg (by rw [h]; exact Bool.false_ne_true)
    · rfl

/-- The gate with one more unit confirmed. -/
def Gate.counted (g : Gate) (n : UnitNo) : Gate :=
  { g with units := g.units.filter fun x => decide (x ≠ n), confirmed := g.confirmed + 1 }

theorem State.handOutcome_confirmed (hcause : k.cause = .gate) (hown : w.gate.owns b k.number = true) :
    w.handOutcome b k .confirmed =
      if w.gate.confirmed + 1 = w.gate.owed then (w.setGate (w.gate.counted k.number)).complete b
      else w.setGate (w.gate.counted k.number) :=
  (if_pos hcause).trans (if_pos hown)

theorem State.gateTakes_counts (hcause : k.cause = .gate) (hown : w.gate.owns b k.number = true)
    (hmore : w.gate.confirmed + 1 ≠ w.gate.owed) :
    w.GateTakes (w.handOutcome b k .confirmed) (w.gate.counted k.number) id [] := by
  rw [State.handOutcome_confirmed hcause hown, if_neg hmore]
  exact ⟨rfl, fun _ => rfl⟩

theorem State.complete_fires (hrun : w.isRunning b = true) (hactive : w.isActive b = true) : w.complete b = w.fire b := by
  unfold State.complete
  rw [hrun, hactive]
  rfl

theorem State.gateTakes_fires (hcause : k.cause = .gate) (hown : w.gate.owns b k.number = true)
    (hlast : w.gate.confirmed + 1 = w.gate.owed) (hrun : w.isRunning b = true) (hactive : w.isActive b = true) :
    w.GateTakes (w.handOutcome b k .confirmed)
      { w.gate.counted k.number with
        state := .firing, carry := 0, timer := some (Timer.start (w.profile b).play.startWidth) }
      (fun a => a.advance (playsIx b) 1)
      [.gateFired b (w.gate.switch.getD 0) w.gate.owed (w.profile b).play.startWidth] := by
  rw [State.handOutcome_confirmed hcause hown, if_pos hlast,
    State.complete_fires (w := w.setGate (w.gate.counted k.number)) hrun hactive]
  exact ⟨rfl, fun l => State.link_notify _ _ l⟩

end

/-! ## The slot emptied (R28, R33) -/

/-- A feeder whose slot is empty, without a pulse unit or an echo window. -/
def Feeder.vacated (f : Feeder) : Feeder := { f with slot := none, held := none, window := none }

theorem Feeder.vacated_idle (f : Feeder) : f.vacated.state = .idle ↔ f.queue = [] :=
  (Feeder.idle_iff _).trans (and_iff_right rfl)

theorem Feeder.not_idle_of_slot {f : Feeder} {k : CoinUnit} (h : f.slot = some k) : f.state ≠ .idle := fun hidle => by
  obtain ⟨hnone, _⟩ := (Feeder.idle_iff f).1 hidle
  exact absurd (h.symm.trans hnone) nofun

/-- What the feeder that becomes IDLE reports. -/
def Feeder.idleReports (f : Feeder) (b : Bay) : List Report := if f.queue = [] then [.feederIdle b] else []

theorem State.emptySlot_eq {a : State} {b : Bay} {k : CoinUnit} (h : (a.feeder b).slot = some k) :
    a.emptySlot b = (a.setFeeder b (a.feeder b).vacated).setReports (a.reports ++ (a.feeder b).idleReports b) := by
  have hput : a.emptySlot b = a.putFeeder b (a.feeder b).vacated := rfl
  rw [hput, State.putFeeder, Feeder.idleReports]
  by_cases hqueue : (a.feeder b).queue = []
  · rw [if_pos ⟨(Feeder.vacated_idle _).2 hqueue, Feeder.not_idle_of_slot h⟩, if_pos hqueue]
    rfl
  · rw [if_neg fun hboth => hqueue ((Feeder.vacated_idle _).1 hboth.1), if_neg hqueue, List.append_nil]
    rfl

/-- A state in which a bay's slot unit has been dealt with, before the arbiter goes on and the reports are taken. -/
def State.Vacates (s w : State) (b : Bay) : Prop := w = { s with
  pulses := w.pulses, filters := w.filters, gate := w.gate, store := w.store, audit := w.audit, intake := w.intake
  links := w.links, feeders := s.feeders.set b (s.feeder b).vacated, reports := (s.feeder b).idleReports b }

/-- What is left of it once the arbiter has gone on and no report waits. -/
def State.vacatedBy (s w : State) : State :=
  { w with feeders := w.arbitrate.feeders, pulses := w.arbitrate.pulses, reports := s.reports }

section
variable {s w : State} {b : Bay} {k : CoinUnit}

theorem State.Vacates.feeder (h : s.Vacates w b) (d : Bay) :
    w.feeder d = if d = b then (s.feeder b).vacated else s.feeder d := by
  have hfeeders : w.feeders = (s.setFeeder b (s.feeder b).vacated).feeders := by rw [h]; rfl
  rw [State.feeder_congr hfeeders]
  split
  next hd => rw [hd, State.feeder_setFeeder_same]
  next hd => exact State.feeder_setFeeder_other s _ hd

theorem State.Vacates.arbitrate_feeder_idle (h : s.Vacates w b) :
    (w.arbitrate.feeder b).state = .idle ↔ (s.feeder b).queue = [] := by
  have hunits := w.grants_arbitrate.units b
  rw [h.feeder b, if_pos rfl] at hunits
  have hmapped : ((w.arbitrate.feeder b).slot.toList ++ (w.arbitrate.feeder b).queue).length = (s.feeder b).queue.length := by
    have hlength := congrArg List.length hunits
    simpa [Feeder.units, Feeder.vacated] using hlength
  rw [Feeder.idle_iff]
  constructor
  · rintro ⟨hslot, hqueue⟩
    rw [hslot, hqueue] at hmapped
    exact List.length_eq_zero_iff.1 hmapped.symm
  · intro hqueue
    rw [hqueue, List.length_nil, List.length_eq_zero_iff, List.append_eq_nil_iff] at hmapped
    exact ⟨Option.toList_eq_nil_iff.1 hmapped.1, hmapped.2⟩

/-- The arbiter goes on and the feeder's report is taken, with the bay staying as it is. -/
theorem State.Vacates.drains (h : s.Vacates w b) (hs : s.Settled)
    (hstay : (s.bay b).releasePending = false ∨ (s.feeder b).queue ≠ []) : w.arbitrate.drain = s.vacatedBy w := by
  have hframe := w.grants_arbitrate.frame
  have hreports : w.arbitrate.reports = (s.feeder b).idleReports b := by rw [hframe, h]
  have hpower : w.arbitrate.power = s.power := by rw [hframe, h]
  have hlate : w.arbitrate.late = none := by
    rw [hframe, h]
    exact hs.2
  have hstay' : (w.arbitrate.bay b).releasePending = false ∨ (w.arbitrate.feeder b).state ≠ .idle := by
    rw [State.bay_congr hpower]
    exact hstay.imp_right fun hqueue hidle => hqueue (h.arbitrate_feeder_idle.1 hidle)
  rw [State.drain_idle (b := b) hlate ?_ hstay', ← hs.1]
  · exact congrArg (State.setReports · s.reports) hframe
  · rw [hreports, Feeder.idleReports]
    split
    · exact .inr rfl
    · exact .inl rfl

/-- The arbiter goes on and the feeder's report is taken, with a release-pending bay cut. -/
theorem State.Vacates.cuts (h : s.Vacates w b) (hs : s.Settled) (hqueue : (s.feeder b).queue = [])
    (hpending : (s.bay b).releasePending = true) (hrun : (s.bay b).state = .running) (hgate : w.gate.bay ≠ some b)
    (hsource : s.monitor.source ≠ .bay b) :
    w.arbitrate.drain = (s.vacatedBy w).cutPower b .cooling ∧ (s.vacatedBy w).Uninvolved b
      ∧ ((s.vacatedBy w).bay b).state.powered = true := by
  have hframe := w.grants_arbitrate.frame
  have hreports : w.arbitrate.reports = [.feederIdle b] := by
    rw [hframe, h]
    exact if_pos hqueue
  have hpower : w.arbitrate.power = s.power := by rw [hframe, h]
  have hlate : w.arbitrate.late = none := by
    rw [hframe, h]
    exact hs.2
  have hmonitor : w.arbitrate.monitor = s.monitor := by rw [hframe, h]
  have hgate' : w.arbitrate.gate = w.gate := by rw [hframe]
  have hbay : w.arbitrate.bay b = s.bay b := State.bay_congr hpower b
  have hfree : w.arbitrate.Uninvolved b :=
    ⟨h.arbitrate_feeder_idle.2 hqueue, by rwa [hgate'], by rwa [hmonitor]⟩
  have hend : w.arbitrate.setReports [] = s.vacatedBy w := by
    rw [← hs.1]
    exact congrArg (State.setReports · s.reports) hframe
  have hvbay : (s.vacatedBy w).bay b = s.bay b := State.bay_congr (s := s.vacatedBy w) (by rw [← hpower, hframe]; rfl) b
  refine ⟨?_, ?_, by rw [hvbay, hrun]; rfl⟩
  · rw [State.drain_released hlate hreports (by rw [hbay]; exact hpending) (by rw [hbay]; exact hrun) hfree, hend]
  · rw [← hend]
    exact hfree

end

/-! ## FEEDER (RESUMED) (R48, R58) -/

/-- The notice of a doubt that has ended, if the unit was in doubt. -/
def State.resumed (w : State) (b : Bay) (k : CoinUnit) : State :=
  if k.status = .doubt then w.notifyFeeder .resumed b k else w

theorem State.resumed_frame (w : State) (b : Bay) (k : CoinUnit) :
    w.resumed b k = { w with links := (w.resumed b k).links } := by
  unfold State.resumed
  split <;> rfl

theorem State.resumed_tells {s w : State} {b : Bay} {k : CoinUnit} (h : w.feeder b = (s.feeder b).vacated) :
    w.Tells (w.resumed b k) (s.resumedNotices b k) := fun l => by
  unfold State.resumed State.resumedNotices
  split
  · rw [State.notifyFeeder, State.link_notify, h]
    have hstate : (s.feeder b).vacated.state = if (s.feeder b).queue.isEmpty then .idle else .waiting := by
      show (if (s.feeder b).queue.isEmpty then FeederState.idle else .waiting) = _
      rfl
    rw [hstate]
    rfl
  · rfl

/-! ## A slot unit dealt with, from its slot to the arbiter (R11, R12, R33, R39, R52, R59, R60) -/

/-- What becomes of a slot unit: the store, the audit counters and the gate behind it, and the notices after the POOL
notice. -/
structure Deal where
  store : TokenStore
  audit : Audit
  gate : Gate
  kind : PoolCause
  moved : Nat
  ends : List Notice

/-- The retirement of a slot unit with a counter of its bay. -/
def State.retirement (s : State) (kind : PoolCause) (b : Bay) (k : CoinUnit) (i : CounterIx) : Deal where
  store := s.store.retire b k.number
  audit := (s.audit.advance (retireIx kind) (s.store.live - (s.store.retire b k.number).live)).advance i 1
  gate := s.gate
  kind := kind
  moved := s.store.live - (s.store.retire b k.number).live
  ends := s.resumedNotices b k

/-- A state before the arbiter goes on, with a slot unit dealt with. -/
structure State.Deals (s a w : State) (b : Bay) (d : Deal) : Prop where
  vacates : s.Vacates w b
  store : w.store = d.store
  audit : w.audit = d.audit
  gate : w.gate = d.gate
  pulses : w.pulses = a.pulses
  filters : w.filters = a.filters
  closure : s.ClosureFollows w
  tells : s.Tells w (s.storeNotices w d.kind d.moved (some b) ++ d.ends)

/-- A state that differs from another in its pulse units and echo filters at most. -/
def State.Beside (s a : State) : Prop := a = { s with pulses := a.pulses, filters := a.filters }

section
variable {s a u z : State} {b : Bay} {k : CoinUnit} {g : Gate} {plays : Audit → Audit} {ns : List Notice}
  {kind : PoolCause} {moved : Nat}

theorem State.Beside.emptySlot (h : s.Beside a) (hs : s.Settled) (hslot : (s.feeder b).slot = some k) :
    a.emptySlot b = { s with pulses := a.pulses, filters := a.filters, feeders := s.feeders.set b (s.feeder b).vacated
                             reports := (s.feeder b).idleReports b } := by
  have hfeeders : a.feeders = s.feeders := by rw [show a = _ from h]
  have hreports : a.reports = [] := by
    rw [show a = _ from h]
    exact hs.1
  have hfeeder : a.feeder b = s.feeder b := State.feeder_congr hfeeders b
  rw [State.emptySlot_eq (a := a) (k := k) (by rw [hfeeder]; exact hslot), hfeeder, hreports, List.nil_append]
  exact congrArg (fun x : State => { x with
    feeders := x.feeders.set b (s.feeder b).vacated, reports := (s.feeder b).idleReports b }) h

/-- The slot emptied, a store change told, an outcome handed, and the end of a doubt told. -/
theorem State.deals (hs : s.Settled) (ha : s.Beside a) (hslot : (s.feeder b).slot = some k)
    (hu : u = { a.emptySlot b with store := u.store, audit := u.audit })
    (hz : (u.storeChanged kind moved (some b)).GateTakes z g plays ns) :
    s.Deals a (z.resumed b k) b
      { store := u.store, audit := plays u.audit, gate := g, kind := kind, moved := moved
        ends := ns ++ s.resumedNotices b k } := by
  have hempty := ha.emptySlot hs hslot
  have hu' := hu.trans (congrArg (fun x : State => { x with store := u.store, audit := u.audit }) hempty)
  obtain ⟨y, hy⟩ : ∃ y, y = u.storeChanged kind moved (some b) := ⟨_, rfl⟩
  have hbook := State.booked (s := s) (u := u) (by rw [hu']) (by rw [hu']) kind moved b
  rw [← hy] at hz hbook
  have hwz := z.resumed_frame b k
  obtain ⟨w, hw⟩ : ∃ w, w = z.resumed b k := ⟨_, rfl⟩
  rw [← hw] at hwz ⊢
  have hy' := hbook.frame.trans (congrArg (fun x : State => { x with intake := y.intake, links := y.links }) hu')
  have hyaudit : y.audit = u.audit := by rw [hbook.frame]
  have hz' := hz.frame.trans
    (congrArg (fun x : State => { x with gate := g, audit := plays y.audit, links := z.links }) hy')
  have hw' := hwz.trans (congrArg (fun x : State => { x with links := w.links }) hz')
  have hfeeder : z.feeder b = (s.feeder b).vacated := by
    have hfeeders : z.feeders = (s.setFeeder b (s.feeder b).vacated).feeders := by rw [hz']; rfl
    rw [State.feeder_congr hfeeders, State.feeder_setFeeder_same]
  have hresumed := State.resumed_tells (s := s) (k := k) hfeeder
  rw [← hw] at hresumed
  have hshows : w.ShowsAs y := ⟨by rw [hw'], by rw [hw', hy'], by rw [hw', hy'], by rw [hw', hy']⟩
  exact
    { vacates := by unfold State.Vacates; rw [hw']
      store := by rw [hw']
      audit := (congrArg State.audit hw').trans (congrArg plays hyaudit)
      gate := by rw [hw']
      pulses := by rw [hw']
      filters := by rw [hw']
      closure := hbook.closure.congr hshows
      tells := by
        rw [State.storeNotices_congr (s := s) hshows]
        exact hbook.tells.trans (hz.tells.trans hresumed) }

end

end Sys2Proof.Machine
end

section
/-! What a slot unit's settlement leaves: the outcomes of a confirmation, and a bay that goes on or is cut (R28, R33, R52, R71, R72, R133). -/

namespace Sys2Proof.Machine

/-! ## A confirmation by its outcome at the gate (R52, R64, R71, R72) -/

/-- A confirmation of a bay's slot unit before the arbiter goes on. -/
def State.confirmation (a : State) (b : Bay) (k : CoinUnit) : State := ((a.emptySlot b).confirmUnit b k).resumed b k

/-- A retirement whose outcome the gate counts. -/
def State.countedAtGate (s : State) (b : Bay) (k : CoinUnit) : Deal :=
  { s.retirement .spent b k (confirmedIx b) with gate := s.gate.counted k.number }

/-- A retirement whose outcome completes the gate's charge. -/
def State.firedAtGate (s : State) (b : Bay) (k : CoinUnit) : Deal :=
  { s.retirement .spent b k (confirmedIx b) with
    gate := { s.gate.counted k.number with
      state := .firing, carry := 0, timer := some (Timer.start (s.profile b).play.startWidth) }
    audit := (s.retirement .spent b k (confirmedIx b)).audit.advance (playsIx b) 1
    ends := .gateFired b (s.gate.switch.getD 0) s.gate.owed (s.profile b).play.startWidth :: s.resumedNotices b k }

section
variable {s a : State} {b : Bay} {k : CoinUnit}

/-- The slot unit's tokens and counters moved, before the store change is told. -/
def State.retired (a : State) (kind : PoolCause) (b : Bay) (k : CoinUnit) (i : CounterIx) : State :=
  ((a.emptySlot b).retireTokens kind b k.number).bump i 1

theorem State.retired_spec (hs : s.Settled) (ha : s.Beside a) (hslot : (s.feeder b).slot = some k) (kind : PoolCause)
    (i : CounterIx) : (a.retired kind b k i).store = (s.retirement kind b k i).store
      ∧ (a.retired kind b k i).audit = (s.retirement kind b k i).audit
      ∧ (a.emptySlot b).store = s.store := by
  have hempty := ha.emptySlot hs hslot
  have hstore : (a.emptySlot b).store = s.store := (congrArg State.store hempty).trans rfl
  have haudit : (a.emptySlot b).audit = s.audit := (congrArg State.audit hempty).trans rfl
  refine ⟨?_, ?_, hstore⟩
  · show (a.emptySlot b).store.retire b k.number = _
    rw [hstore]
    rfl
  · show ((a.emptySlot b).audit.advance (retireIx kind) ((a.emptySlot b).store.live
      - ((a.emptySlot b).store.retire b k.number).live)).advance i 1 = _
    rw [hstore, haudit]
    rfl

/-- The state that hands the outcome on. -/
def State.retiredTold (a : State) (s : State) (kind : PoolCause) (b : Bay) (k : CoinUnit) (i : CounterIx) : State :=
  (a.retired kind b k i).storeChanged kind (s.retirement kind b k i).moved (some b)

theorem State.retiredTold_frame (hs : s.Settled) (ha : s.Beside a) (hslot : (s.feeder b).slot = some k)
    (kind : PoolCause) (i : CounterIx) : (a.retiredTold s kind b k i).gate = s.gate
      ∧ (a.retiredTold s kind b k i).power = s.power ∧ (a.retiredTold s kind b k i).stage = s.stage
      ∧ (a.retiredTold s kind b k i).tables = s.tables := by
  have hempty := ha.emptySlot hs hslot
  have hframe : a.retiredTold s kind b k i = _ := (a.retired kind b k i).storeChanged_frame kind _ (some b)
  obtain ⟨u, hu⟩ : ∃ u, u = a.retired kind b k i := ⟨_, rfl⟩
  have hgate : u.gate = s.gate := by rw [hu]; exact (congrArg State.gate hempty :)
  have hpower : u.power = s.power := by rw [hu]; exact (congrArg State.power hempty :)
  have hstage : u.stage = s.stage := by rw [hu]; exact (congrArg State.stage hempty :)
  have htables : u.tables = s.tables := by rw [hu]; exact (congrArg State.tables hempty :)
  rw [← hu] at hframe
  rw [hframe]
  exact ⟨hgate, hpower, hstage, htables⟩

theorem State.confirmUnit_told (hs : s.Settled) (ha : s.Beside a) (hslot : (s.feeder b).slot = some k) :
    (a.emptySlot b).confirmUnit b k = (a.retiredTold s .spent b k (confirmedIx b)).handOutcome b k .confirmed := by
  obtain ⟨_, _, hstore⟩ := State.retired_spec hs ha hslot .spent (confirmedIx b)
  unfold State.confirmUnit State.retiredTold State.retired State.retirement
  rw [hstore]

/-- A retirement and what the gate makes of its outcome. -/
theorem State.deals_retirement {g : Gate} {plays : Audit → Audit} {ns : List Notice} {z : State} (hs : s.Settled)
    (ha : s.Beside a) (hslot : (s.feeder b).slot = some k) (kind : PoolCause) (i : CounterIx)
    (hz : (a.retiredTold s kind b k i).GateTakes z g plays ns) :
    s.Deals a (z.resumed b k) b
      { s.retirement kind b k i with
        audit := plays (s.retirement kind b k i).audit, gate := g, ends := ns ++ s.resumedNotices b k } := by
  obtain ⟨hstore, haudit, _⟩ := State.retired_spec hs ha hslot kind i
  have hdeals := State.deals hs ha hslot (u := a.retired kind b k i) rfl hz
  rw [hstore, haudit] at hdeals
  exact hdeals

theorem State.confirmation_ignored (hs : s.Settled) (ha : s.Beside a) (hslot : (s.feeder b).slot = some k)
    (h : k.cause = .transfer ∨ s.gate.owns b k.number = false) :
    s.Deals a (a.confirmation b k) b (s.retirement .spent b k (confirmedIx b)) := by
  obtain ⟨hgate, _⟩ := State.retiredTold_frame hs ha hslot .spent (confirmedIx b)
  have hignored := State.handOutcome_ignored (w := a.retiredTold s .spent b k (confirmedIx b))
    (h.imp_right fun hown => by rw [hgate]; exact hown) .confirmed
  have hdeals := State.deals_retirement hs ha hslot .spent (confirmedIx b)
    (a.retiredTold s .spent b k (confirmedIx b)).gateTakes_nothing
  rw [hgate] at hdeals
  rw [State.confirmation, State.confirmUnit_told hs ha hslot, hignored]
  exact hdeals

theorem State.confirmation_counts (hs : s.Settled) (ha : s.Beside a) (hslot : (s.feeder b).slot = some k)
    (hcause : k.cause = .gate) (hown : s.gate.owns b k.number = true) (hmore : s.gate.confirmed + 1 ≠ s.gate.owed) :
    s.Deals a (a.confirmation b k) b (s.countedAtGate b k) := by
  obtain ⟨hgate, _⟩ := State.retiredTold_frame hs ha hslot .spent (confirmedIx b)
  have htakes := State.gateTakes_counts (w := a.retiredTold s .spent b k (confirmedIx b)) hcause
    (by rw [hgate]; exact hown) (by rw [hgate]; exact hmore)
  have hdeals := State.deals_retirement hs ha hslot .spent (confirmedIx b) htakes
  rw [hgate] at hdeals
  rw [State.confirmation, State.confirmUnit_told hs ha hslot]
  exact hdeals

theorem State.confirmation_fires (hs : s.Settled) (ha : s.Beside a) (hslot : (s.feeder b).slot = some k)
    (hcause : k.cause = .gate) (hown : s.gate.owns b k.number = true) (hlast : s.gate.confirmed + 1 = s.gate.owed)
    (hactive : s.isActive b = true) (hrun : s.isRunning b = true) :
    s.Deals a (a.confirmation b k) b (s.firedAtGate b k) := by
  obtain ⟨hgate, hpower, hstage, htables⟩ := State.retiredTold_frame hs ha hslot .spent (confirmedIx b)
  have htakes := State.gateTakes_fires (w := a.retiredTold s .spent b k (confirmedIx b)) hcause
    (by rw [hgate]; exact hown) (by rw [hgate]; exact hlast)
    (by rw [State.isRunning_congr hpower]; exact hrun) (by rw [State.isActive_congr hstage]; exact hactive)
  have hdeals := State.deals_retirement hs ha hslot .spent (confirmedIx b) htakes
  have hprofile : (a.retiredTold s .spent b k (confirmedIx b)).profile b = s.profile b := by
    simp only [State.profile, htables]
  rw [hgate, hprofile] at hdeals
  rw [State.confirmation, State.confirmUnit_told hs ha hslot]
  exact hdeals

end

/-! ## What is left once the event has ended -/

/-- A slot unit dealt with and its feeder gone on, once no report waits. -/
structure State.Dealt (s t : State) (b : Bay) (d : Deal) : Prop where
  store : t.store = d.store
  audit : t.audit = d.audit
  gate : t.gate = d.gate
  units : (t.feeder b).units = (s.feeder b).queue.map (fun x => { x with status := .queued })
  others : s.KeepsUnits t b
  closure : s.ClosureFollows t
  tells : s.Tells t (s.storeNotices t d.kind d.moved (some b) ++ d.ends)

section
variable {s a w t : State} {b : Bay} {k : CoinUnit} {d : Deal}

theorem State.Dealt.settles (h : s.Dealt t b d) (hd : d.store = s.store.retire b k.number) : s.Settles t b k where
  arrival := (congrArg TokenStore.arrival (h.store.trans hd)).trans rfl
  allocator := (congrArg TokenStore.allocator (h.store.trans hd)).trans rfl
  units := h.units
  others := h.others
  closure := h.closure

theorem State.Deals.dealt_vacatedBy (h : s.Deals a w b d) : s.Dealt (s.vacatedBy w) b d := by
  have hunits (c : Bay) : ((s.vacatedBy w).feeder c).units = (w.feeder c).units := w.grants_arbitrate.units c
  have hshows : (s.vacatedBy w).ShowsAs w := ⟨rfl, rfl, rfl, rfl⟩
  exact
    { store := h.store
      audit := h.audit
      gate := h.gate
      units := by rw [hunits, h.vacates.feeder, if_pos rfl]; rfl
      others := fun c hc => by rw [hunits, h.vacates.feeder, if_neg hc]
      closure := State.ClosureFollows.congr (t := w) hshows h.closure
      tells := fun l => by
        rw [State.storeNotices_congr (t := w) hshows]
        exact h.tells l }

theorem State.Deals.frame_vacatedBy (h : s.Deals a w b d) : s.vacatedBy w = { s with
    filters := a.filters, gate := d.gate, store := (s.vacatedBy w).store, audit := (s.vacatedBy w).audit
    feeders := (s.vacatedBy w).feeders, pulses := (s.vacatedBy w).pulses, intake := (s.vacatedBy w).intake
    links := (s.vacatedBy w).links } := by
  rw [← h.filters, ← h.gate]
  exact congrArg (fun x : State => { x with
    feeders := w.arbitrate.feeders, pulses := w.arbitrate.pulses, reports := s.reports }) h.vacates

/-- The feeder goes on, and the bay stays as it is. -/
theorem State.Deals.goesOn (h : s.Deals a w b d) (hs : s.Settled)
    (hstay : (s.bay b).releasePending = false ∨ (s.feeder b).queue ≠ []) :
    ∃ t, w.arbitrate.drain = t ∧ s.Dealt t b d ∧ t.feeders = w.arbitrate.feeders ∧ t.pulses = w.arbitrate.pulses
      ∧ t = { s with
          filters := a.filters, gate := d.gate, store := t.store, audit := t.audit, feeders := t.feeders
          pulses := t.pulses, intake := t.intake, links := t.links } :=
  ⟨s.vacatedBy w, h.vacates.drains hs hstay, h.dealt_vacatedBy, rfl, rfl, h.frame_vacatedBy⟩

/-- The feeder goes IDLE, and its release-pending bay is cut. -/
theorem State.Deals.releases (h : s.Deals a w b d) (hs : s.Settled) (hgate : d.gate = s.gate)
    (hqueue : (s.feeder b).queue = []) (hpending : (s.bay b).releasePending = true)
    (hrun : (s.bay b).state = .running) (hrole : s.NoRole b) (hbay : s.gate.bay ≠ some b)
    (hsource : s.monitor.source ≠ .bay b) :
    ∃ t, w.arbitrate.drain = t ∧ s.Dealt t b d ∧ s.ReleasedAfter t b ∧ (t.feeder b).state = .idle
      ∧ t = { s with
          power := t.power, store := t.store, audit := t.audit, feeders := t.feeders, pulses := t.pulses
          filters := t.filters, checkers := t.checkers, intake := t.intake, links := t.links } := by
  obtain ⟨hactive, _, _⟩ := hrole
  obtain ⟨hdrain, hfree, hpowered⟩ :=
    h.vacates.cuts hs hqueue hpending hrun (by rw [h.gate, hgate]; exact hbay) hsource
  obtain ⟨v, hv⟩ : ∃ v, v = s.vacatedBy w := ⟨_, rfl⟩
  have hdealt := h.dealt_vacatedBy
  have hframe := h.frame_vacatedBy
  rw [← hv] at hdrain hfree hpowered hdealt hframe
  rw [hgate] at hframe
  have hpower : v.power = s.power := by rw [hframe]
  have hstage : v.stage = s.stage := by rw [hframe]
  have hunrouted : v.unrouted b = s.routing := by
    unfold State.unrouted
    rw [State.isActive_congr hstage, hactive, hframe]
    rfl
  have hcut := State.cutPower_uninvolved hpowered hfree .cooling
  rw [hunrouted] at hcut
  have hlost := State.losesPower_cutPower (into := .cooling) hpowered
  obtain ⟨t, ht⟩ : ∃ t, t = v.cutPower b .cooling := ⟨_, rfl⟩
  rw [← ht] at hcut hlost hdrain
  have hcut' : t = { v with
      power := t.power, filters := t.filters, checkers := t.checkers } := by
    refine hcut.trans ?_
    rw [hcut, hframe]
    rfl
  have hshows : t.ShowsAs v := ⟨by rw [hcut'], by rw [hcut'], by rw [hcut'], by rw [hcut']⟩
  have hfeeders : t.feeders = v.feeders := by rw [hcut']
  have hfeeder (c : Bay) : t.feeder c = v.feeder c := State.feeder_congr hfeeders c
  refine ⟨t, hdrain, ?_, ?_, ?_, ?_⟩
  · exact
      { store := hshows.store.trans hdealt.store
        audit := (congrArg State.audit hcut').trans hdealt.audit
        gate := (congrArg State.gate hcut').trans hdealt.gate
        units := by rw [hfeeder, hdealt.units]
        others := fun c hc => by rw [hfeeder, hdealt.others c hc]
        closure := State.ClosureFollows.congr hshows hdealt.closure
        tells := fun l => by
          rw [State.storeNotices_congr hshows, State.link_congr (congrArg State.links hcut')]
          exact hdealt.tells l }
  · exact
      { bays := fun c => by
          rw [hlost.bays c, State.bay_congr hpower, State.bay_congr hpower]
          split
          next hc => rw [hc]; rfl
          next => rfl
        power := by rw [← hpower]; exact hlost.power
        filters := hlost.filters
        checker := hlost.checker }
  · rw [hfeeder]
    exact hfree.1
  · exact hcut'.trans (congrArg (fun x : State => { x with
      power := t.power, filters := t.filters, checkers := t.checkers }) hframe |>.trans (by rw [hcut']))

/-- The pulse unit that a deal releases is taken up by the arbiter. -/
theorem State.Deals.arbiterTakesUp {u : PulseId} (h : s.Deals (s.setPulse u none) w b d)
    (hfeeders : t.feeders = w.arbitrate.feeders) (hpulses : t.pulses = w.arbitrate.pulses) :
    s.ArbiterTakesUp ((s.setPulse u none).setFeeder b (s.feeder b).vacated) t u := by
  have hpair : w.FeedsAs ((s.setPulse u none).setFeeder b (s.feeder b).vacated) :=
    { feeders := by
        rw [show w = _ from h.vacates]
        cases u <;> rfl
      pulses := h.pulses
      tables := by
        rw [show w = _ from h.vacates]
        cases u <;> rfl }
  have harb := hpair.arbitrate
  exact State.arbiterTakesUp rfl (hpulses.trans harb.pulses) (hfeeders.trans harb.feeders)

theorem State.beside_setPulse (s : State) (u : PulseId) (p : Option Pulse) : s.Beside (s.setPulse u p) := by
  unfold State.Beside
  cases u <;> rfl

theorem State.beside_setFilter (s : State) (b : Bay) (m : CoinLine) (x : EchoFilter) : s.Beside (s.setFilter b m x) := by
  unfold State.Beside
  cases m <;> rfl

end

end Sys2Proof.Machine
end

section
/-! TRAIL end, echoes after a pulse, and completed charges (R32, R33, R39, R46, R51 to R55, R58, R62, R71 to R73, R133). -/

namespace Sys2Proof.Machine

/-! ## A feeder that asks for nothing keeps its unit (R40) -/

section
variable {s : State} {b : Bay}

theorem State.grantOne_feeder (h : (s.feeder b).requests = false) : s.grantOne.feeder b = s.feeder b := by
  unfold State.grantOne
  split
  next u c _ hc =>
    obtain ⟨hslot, hqueue⟩ := State.waits_of_chosenBay hc
    obtain ⟨k, rest, hcons⟩ := List.exists_cons_of_ne_nil hqueue
    obtain ⟨t, ht, _, _, hothers, _, _, _⟩ := grantStartsPulse s u c k rest hcons
    have hne : b ≠ c := by
      rintro rfl
      have hrequests : (s.feeder b).requests = true := by
        have hfound := List.find?_some (p := fun d : Bay => (s.feeder d).requests) hc
        exact hfound
      exact absurd (h.symm.trans hrequests) Bool.false_ne_true
    rw [ht, hothers b hne]
  next => rfl

theorem State.arbitrate_feeder (h : (s.feeder b).requests = false) : s.arbitrate.feeder b = s.feeder b := by
  have hone := State.grantOne_feeder h
  exact (State.grantOne_feeder (s := s.grantOne) (by rw [hone]; exact h)).trans hone

theorem Feeder.requests_of_slot {f : Feeder} {k : CoinUnit} (h : f.slot = some k) : f.requests = false := by
  rw [Feeder.requests, Feeder.state, h]
  dsimp only
  split
  · rfl
  · split <;> rfl

end

/-! ## TRAIL end (R32, R39) -/

section
variable {s : State} {u : PulseId} {p : Pulse} {k : CoinUnit}

theorem State.exec_trailEnd (hpulse : s.pulse u = some p) (hphase : p.phase = .trail) :
    exec (.trailEnd u) s = .next (s.trailEnd u p).drain := by
  show execTrailEnd u s = _
  unfold execTrailEnd
  rw [hpulse]
  exact congrArg Host.Outcome.next (if_pos hphase)

theorem State.feeder_setPulse (s : State) (u : PulseId) (x : Option Pulse) (b : Bay) :
    (s.setPulse u x).feeder b = s.feeder b := by
  cases u <;> rfl

theorem State.trailEnd_confirms (hslot : (s.feeder p.bay).slot = some k)
    (hstatus : k.status = .confirmedInTrail ∨ k.status = .sending) :
    s.trailEnd u p = ((s.setPulse u none).confirmation p.bay k).arbitrate := by
  have hslot' : ((s.setPulse u none).feeder p.bay).slot = some k := by rw [State.feeder_setPulse]; exact hslot
  have hquiet (w : State) : w.resumed p.bay k = w := if_neg fun hdoubt => by
    rcases hstatus with h | h <;> exact absurd (h.symm.trans hdoubt) nofun
  unfold State.trailEnd State.confirmation
  rw [hquiet]
  dsimp only
  rw [hslot']
  dsimp only
  rcases hstatus with h | h <;> rw [h]

/-- A feeder whose pulse unit is released and whose unit stays in the slot. -/
def State.unheld (s : State) (u : PulseId) (b : Bay) : State :=
  (s.setPulse u none).setFeeder b { s.feeder b with held := none }

theorem State.unheld_frame (s : State) (u : PulseId) (b : Bay) :
    s.unheld u b = { s with
      feeders := s.feeders.set b { s.feeder b with held := none }, pulses := (s.setPulse u none).pulses } := by
  cases u <;> rfl

theorem State.trailEnd_waits (hslot : (s.feeder p.bay).slot = some k) (hstatus : k.status = .echoWait) :
    s.trailEnd u p = (s.unheld u p.bay).arbitrate := by
  unfold State.trailEnd State.unheld
  dsimp only
  rw [State.feeder_setPulse, hslot]
  dsimp only
  rw [hstatus]

theorem State.trailEnd_holds (hslot : (s.feeder p.bay).slot = some k) (hstatus : k.status = .doubt) :
    s.trailEnd u p = ((s.unheld u p.bay).notifyFeeder .held p.bay k).arbitrate := by
  unfold State.trailEnd State.unheld
  dsimp only
  rw [State.feeder_setPulse, hslot]
  dsimp only
  rw [hstatus]

/-- The arbiter behind a feeder that keeps its unit and lets its pulse unit go. -/
theorem State.unheld_arbitrate {w t : State} (hslot : (s.feeder p.bay).slot = some k)
    (hw : w = { s.unheld u p.bay with links := w.links }) (ht : t = w.arbitrate) :
    t.feeder p.bay = { s.feeder p.bay with held := none } ∧ s.KeepsUnits t p.bay
      ∧ s.ArbiterTakesUp (s.unheld u p.bay) t u ∧ t.links = w.links
      ∧ t = { s with feeders := t.feeders, pulses := t.pulses, links := t.links } := by
  have hgrants := w.grants_arbitrate
  rw [← ht] at hgrants
  have hfeeds : w.FeedsAs (s.unheld u p.bay) := ⟨by rw [hw], by rw [hw], by rw [hw]⟩
  have harb := hfeeds.arbitrate
  rw [← ht] at harb
  have hkept : (s.unheld u p.bay).feeder p.bay = { s.feeder p.bay with held := none } :=
    State.feeder_setFeeder_same _ _ _
  have hframe := hw.trans (congrArg (fun x : State => { x with links := w.links }) (s.unheld_frame u p.bay))
  refine ⟨?_, fun d hd => ?_, State.arbiterTakesUp rfl harb.pulses harb.feeders, (congrArg State.links hgrants.frame).trans rfl, ?_⟩
  · rw [harb.feeder, State.arbitrate_feeder (by rw [hkept]; exact Feeder.requests_of_slot (k := k) hslot), hkept]
  · rw [hgrants.units, hfeeds.feeder]
    unfold State.unheld
    rw [State.feeder_setFeeder_other _ _ hd, State.feeder_setPulse]
  · have hlinks : t.links = w.links := (congrArg State.links hgrants.frame).trans rfl
    rw [hlinks]
    exact hgrants.frame.trans (congrArg (fun x : State => { x with feeders := t.feeders, pulses := t.pulses }) hframe)

end

theorem trailEndKeepsUnsettledUnit : Claims.TrailEndKeepsUnsettledUnit := by
  intro s u p k hs hpulse hphase hslot hstatus v
  rcases hstatus with hwait | hdoubt
  · obtain ⟨hfeeder, hkeeps, htakes, hlinks, hframe⟩ :=
      State.unheld_arbitrate (u := u) (w := s.unheld u p.bay) hslot rfl rfl
    have hsame : (s.unheld u p.bay).links = s.links := by rw [s.unheld_frame u p.bay]
    have hsettled : (s.unheld u p.bay).arbitrate.Settled := by
      rw [hframe]
      exact hs
    refine ⟨_, ?_, hfeeder, hkeeps, htakes, fun _ => hlinks.trans hsame, fun h => absurd (hwait.symm.trans h) nofun, hframe⟩
    rw [State.exec_trailEnd hpulse hphase, State.trailEnd_waits hslot hwait, State.drain_settled _ hsettled]
  · obtain ⟨w, hw⟩ : ∃ w, w = (s.unheld u p.bay).notifyFeeder .held p.bay k := ⟨_, rfl⟩
    have hwframe : w = { s.unheld u p.bay with links := w.links } := by rw [hw]; rfl
    obtain ⟨hfeeder, hkeeps, htakes, hlinks, hframe⟩ := State.unheld_arbitrate hslot hwframe rfl
    have hsettled : w.arbitrate.Settled := by
      rw [hframe]
      exact hs
    refine ⟨_, ?_, hfeeder, hkeeps, htakes, fun h => absurd (hdoubt.symm.trans h) nofun, fun _ l => ?_, hframe⟩
    · rw [State.exec_trailEnd hpulse hphase, State.trailEnd_holds hslot hdoubt, ← hw, State.drain_settled _ hsettled]
    · have hkept : (s.unheld u p.bay).feeder p.bay = { s.feeder p.bay with held := none } :=
        State.feeder_setFeeder_same _ _ _
      have hheld : Feeder.state { s.feeder p.bay with held := none } = .held := by
        unfold Feeder.state
        dsimp only
        rw [hslot]
        exact if_pos hdoubt
      rw [State.link_congr hlinks, hw, State.notifyFeeder, State.link_notify, hkept, hheld,
        State.link_congr (t := s.unheld u p.bay) (s := s) (by rw [s.unheld_frame u p.bay])]
      rfl

/-! ## Confirmations at TRAIL end -/

section
variable {s : State} {u : PulseId} {p : Pulse} {k : CoinUnit}

theorem State.resumedNotices_inTrail {b : Bay} (h : k.status = .confirmedInTrail ∨ k.status = .sending) :
    s.resumedNotices b k = [] := if_neg fun hdoubt => by
  rcases h with h | h <;> exact absurd (h.symm.trans hdoubt) nofun

theorem State.exec_trailEnd_confirms (hpulse : s.pulse u = some p) (hphase : p.phase = .trail)
    (hslot : (s.feeder p.bay).slot = some k) (hstatus : k.status = .confirmedInTrail ∨ k.status = .sending) :
    exec (.trailEnd u) s = .next ((s.setPulse u none).confirmation p.bay k).arbitrate.drain := by
  rw [State.exec_trailEnd hpulse hphase, State.trailEnd_confirms hslot hstatus]

theorem Gate.owns_eq_false {g : Gate} {b : Bay} {n : UnitNo}
    (h : ¬(g.state = .paying ∧ g.bay = some b ∧ n ∈ g.units)) : g.owns b n = false :=
  Bool.eq_false_iff.2 fun howns => h (Gate.owns_iff.1 howns)

/-- The counters of a dealt retirement in the words of the store it leaves. -/
theorem State.Dealt.audit_retirement {t : State} {b : Bay} {d : Deal} {kind : PoolCause} {i : CounterIx}
    (h : s.Dealt t b d) (hstore : d.store = s.store.retire b k.number)
    (haudit : d.audit = (s.retirement kind b k i).audit) :
    t.audit = (s.audit.advance (retireIx kind) (s.store.live - t.store.live)).advance i 1 := by
  rw [h.audit, h.store, haudit, hstore]
  rfl

/-- The POOL notice of a dealt retirement in the words of the store it leaves. -/
theorem State.Dealt.tells_retirement {t : State} {b : Bay} {d : Deal} (h : s.Dealt t b d)
    (hstore : d.store = s.store.retire b k.number)
    (hmoved : d.moved = s.store.live - (s.store.retire b k.number).live) :
    s.Tells t (s.storeNotices t d.kind (s.store.live - t.store.live) (some b) ++ d.ends) := by
  have htells := h.tells
  rw [hmoved] at htells
  rw [h.store, hstore]
  exact htells

end

theorem trailEndConfirmsUnit : Claims.TrailEndConfirmsUnit := by
  intro s u p k hs hpulse hphase hslot hstatus hcause hstay v
  have hdeals := State.confirmation_ignored hs (s.beside_setPulse u none) hslot (.inl hcause)
  obtain ⟨t, hdrain, hdealt, hfeeders, hpulses, hframe⟩ := hdeals.goesOn hs hstay
  have hnone : (s.retirement .spent p.bay k (confirmedIx p.bay)).ends = [] := State.resumedNotices_inTrail hstatus
  have htells := hdealt.tells_retirement rfl rfl
  rw [hnone, List.append_nil] at htells
  refine ⟨t, by rw [State.exec_trailEnd_confirms hpulse hphase hslot hstatus, hdrain],
    hdealt.audit_retirement rfl rfl, hdealt.settles rfl, hdeals.arbiterTakesUp hfeeders hpulses, htells, ?_⟩
  have hfilters : (s.setPulse u none).filters = s.filters := by cases u <;> rfl
  rw [hfilters] at hframe
  exact hframe

theorem gateCountsOwnConfirmation : Claims.GateCountsOwnConfirmation := by
  intro s u p k hs hpulse hphase hslot hstatus hcause hstay own hmore
  have hfilters : (s.setPulse u none).filters = s.filters := by cases u <;> rfl
  have hnone : s.resumedNotices p.bay k = [] := State.resumedNotices_inTrail hstatus
  by_cases hown : own
  · have hdeals := State.confirmation_counts hs (s.beside_setPulse u none) hslot hcause (Gate.owns_iff.2 hown) (hmore hown)
    obtain ⟨t, hdrain, hdealt, _, _, hframe⟩ := hdeals.goesOn hs hstay
    have htells := hdealt.tells_retirement rfl rfl
    rw [show (s.countedAtGate p.bay k).ends = [] from hnone, List.append_nil] at htells
    refine ⟨t, by rw [State.exec_trailEnd_confirms hpulse hphase hslot hstatus, hdrain], fun _ => hdealt.gate,
      fun hnot => absurd hown hnot, hdealt.audit_retirement rfl rfl, hdealt.settles rfl, htells, ?_⟩
    rw [hfilters, ← hdealt.gate] at hframe
    exact hframe
  · have hdeals := State.confirmation_ignored hs (s.beside_setPulse u none) hslot (.inr (Gate.owns_eq_false hown))
    obtain ⟨t, hdrain, hdealt, _, _, hframe⟩ := hdeals.goesOn hs hstay
    have htells := hdealt.tells_retirement rfl rfl
    rw [show (s.retirement .spent p.bay k (confirmedIx p.bay)).ends = [] from hnone, List.append_nil] at htells
    refine ⟨t, by rw [State.exec_trailEnd_confirms hpulse hphase hslot hstatus, hdrain], fun hnot => absurd hnot hown,
      fun _ => hdealt.gate, hdealt.audit_retirement rfl rfl, hdealt.settles rfl, htells, ?_⟩
    rw [hfilters, ← hdealt.gate] at hframe
    exact hframe

theorem lastUnitEndsReleasePending : Claims.LastUnitEndsReleasePending := by
  intro s u p k hs hpulse hphase hslot hstatus hqueue hpending hrun hrole hgate hsource
  have hnotOwn : s.gate.owns p.bay k.number = false := Gate.owns_eq_false fun h => hgate h.2.1
  have hdeals := State.confirmation_ignored hs (s.beside_setPulse u none) hslot (.inr hnotOwn)
  obtain ⟨t, hdrain, hdealt, hreleased, hidle, hframe⟩ := hdeals.releases hs rfl hqueue hpending hrun hrole hgate hsource
  have hnone : s.resumedNotices p.bay k = [] := State.resumedNotices_inTrail hstatus
  have htells := hdealt.tells_retirement rfl rfl
  rw [show (s.retirement .spent p.bay k (confirmedIx p.bay)).ends = [] from hnone, List.append_nil] at htells
  exact ⟨t, by rw [State.exec_trailEnd_confirms hpulse hphase hslot hstatus, hdrain], hreleased, hdealt.settles rfl, hidle,
    hdealt.audit_retirement rfl rfl, htells, hframe⟩

/-- Settles O24: an unsettled unit keeps its slot while the arbiter goes on; a settled one is retired, its outcome handed
to the gate, and the feeder's IDLE report cuts a release-pending bay. -/
theorem trailEndSettlesByStatus : Obligations.TrailEndSettlesByStatus :=
  ⟨trailEndKeepsUnsettledUnit, trailEndConfirmsUnit, gateCountsOwnConfirmation, lastUnitEndsReleasePending⟩

end Sys2Proof.Machine
end

section
/-! Echoes judged, charges completed at TRAIL end or by an echo, and the start pulse's end (R46, R51 to R55, R58, R62, R71 to R73). -/

namespace Sys2Proof.Machine

/-! ## The rows of the echo table (R51) -/

section
variable {a : State} {b : Bay} {m : CoinLine} {k : CoinUnit}

theorem State.judgeEcho_unused (h : (a.profile b).coin.echoMode = .none) : a.judgeEcho b m = a.stray b m .echoNone := if_pos h

section
variable (hmode : (a.profile b).coin.echoMode = .meter)
include hmode

theorem State.judgeEcho_empty (hslot : (a.feeder b).slot = none) : a.judgeEcho b m = a.stray b m .noUnit := by
  unfold State.judgeEcho
  rw [if_neg (by rw [hmode]; exact nofun), hslot]

theorem State.judgeEcho_otherLine (hslot : (a.feeder b).slot = some k) (hline : m ≠ k.line) :
    a.judgeEcho b m = a.stray b m .otherLine := by
  unfold State.judgeEcho
  rw [if_neg (by rw [hmode]; exact nofun), hslot]
  exact if_pos hline

section
variable (hslot : (a.feeder b).slot = some k) (hline : m = k.line)
include hslot hline

theorem State.judgeEcho_sending (hstatus : k.status = .sending) : a.judgeEcho b m = a.stray b m .notOpen := by
  unfold State.judgeEcho
  rw [if_neg (by rw [hmode]; exact nofun), hslot]
  refine (if_neg (not_not.2 hline)).trans ?_
  rw [hstatus]

theorem State.judgeEcho_confirmedInTrail (hstatus : k.status = .confirmedInTrail) :
    a.judgeEcho b m = a.stray b m .settled := by
  unfold State.judgeEcho
  rw [if_neg (by rw [hmode]; exact nofun), hslot]
  refine (if_neg (not_not.2 hline)).trans ?_
  rw [hstatus]

theorem State.judgeEcho_inPulse (hstatus : k.status = .echoWait ∨ k.status = .doubt)
    (hheld : (a.feeder b).held.isSome = true) : a.judgeEcho b m = a.confirmInTrail b k := by
  unfold State.judgeEcho
  rw [if_neg (by rw [hmode]; exact nofun), hslot]
  refine (if_neg (not_not.2 hline)).trans ?_
  rcases hstatus with h | h <;> rw [h] <;> exact if_pos hheld

theorem State.judgeEcho_confirms (hstatus : k.status = .echoWait ∨ k.status = .doubt) (hheld : (a.feeder b).held = none) :
    a.judgeEcho b m = (a.confirmation b k).arbitrate := by
  have hnot : ¬(a.feeder b).held.isSome = true := by rw [hheld]; exact Bool.false_ne_true
  unfold State.judgeEcho State.confirmation State.resumed
  rw [if_neg (by rw [hmode]; exact nofun), hslot]
  refine (if_neg (not_not.2 hline)).trans ?_
  rcases hstatus with h | h
  · rw [h, if_neg (show ¬UnitStatus.echoWait = .doubt from nofun)]
    exact if_neg hnot
  · rw [h, if_pos rfl]
    exact if_neg hnot

end
end
end

section
variable {s : State} {b : Bay} {m : CoinLine} {n : Nat} {k : CoinUnit}

/-- The state in which an echo is judged. -/
def State.echoed (s : State) (b : Bay) (m : CoinLine) : State := s.setFilter b m .waitRelease

theorem State.exec_echo_counting (h : s.filter b m = .counting n) :
    exec (.echo b m) s = .next ((s.echoed b m).judgeEcho b m).drain := by
  show execEcho b m s = _
  unfold execEcho
  rw [h]
  rfl

theorem State.echoed_frame (s : State) (b : Bay) (m : CoinLine) :
    s.echoed b m = { s with filters := (s.echoed b m).filters } := by
  cases m <;> rfl

theorem State.echoed_feeder (s : State) (b : Bay) (m : CoinLine) (d : Bay) : (s.echoed b m).feeder d = s.feeder d := by
  cases m <;> rfl

theorem State.echoed_profile (s : State) (b : Bay) (m : CoinLine) (d : Bay) : (s.echoed b m).profile d = s.profile d := by
  cases m <;> rfl

/-- A stray changes the counter STRAY of its bay and is told, and the event ends there. -/
theorem State.stray_settled (hs : s.Settled) (b : Bay) (m : CoinLine) (why : StrayReason) :
    ∃ t, (s.stray b m why).drain = t ∧ t.audit = s.audit.advance (strayIx b) 1
      ∧ s.Tells t [.stray b m why (s.feeder b).state] ∧ t = { s with audit := t.audit, links := t.links } :=
  ⟨s.stray b m why, State.drain_settled _ hs, rfl, fun l => State.link_notify (s.bump (strayIx b) 1) _ l, rfl⟩

end

theorem echoJudgedByFirstRow : Claims.EchoJudgedByFirstRow := by
  intro s b m n hfilter hs f u isStray
  have hstray (why : StrayReason) (h : u.judgeEcho b m = u.stray b m why) : isStray why := by
    have hsettled : u.Settled := by
      rw [show u = _ from s.echoed_frame b m]
      exact hs
    obtain ⟨t, hdrain, haudit, htells, hframe⟩ := State.stray_settled hsettled b m why
    have hsame : u.audit = s.audit := by rw [show u = _ from s.echoed_frame b m]
    have hlinks : u.links = s.links := by rw [show u = _ from s.echoed_frame b m]
    refine ⟨t, ?_, by rw [haudit, hsame], fun l => ?_, hframe⟩
    · rw [State.exec_echo_counting hfilter]
      exact congrArg Host.Outcome.next ((congrArg State.drain h).trans hdrain)
    · rw [htells l, State.link_congr hlinks, show u.feeder b = s.feeder b from s.echoed_feeder b m b]
  have hprofile : u.profile b = s.profile b := s.echoed_profile b m b
  have hfeeder : u.feeder b = f := s.echoed_feeder b m b
  refine ⟨fun hmode => hstray _ (State.judgeEcho_unused (by rw [hprofile]; exact hmode)), fun hmode => ?_⟩
  have hmode' : (u.profile b).coin.echoMode = .meter := by rw [hprofile]; exact hmode
  refine ⟨fun hslot => hstray _ (State.judgeEcho_empty hmode' (by rw [hfeeder]; exact hslot)), fun k hslot => ?_⟩
  have hslot' : (u.feeder b).slot = some k := by rw [hfeeder]; exact hslot
  refine ⟨fun hline => hstray _ (State.judgeEcho_otherLine hmode' hslot' hline), fun hline => ⟨fun hstatus => ?_,
    fun hstatus => ?_, fun hstatus hheld => ?_⟩⟩
  · exact hstray _ (State.judgeEcho_sending hmode' hslot' hline hstatus)
  · exact hstray _ (State.judgeEcho_confirmedInTrail hmode' hslot' hline hstatus)
  · have hjudged := State.judgeEcho_inPulse hmode' hslot' hline hstatus (by rw [hfeeder]; exact hheld)
    rw [State.exec_echo_counting hfilter, show s.echoed b m = u from rfl, hjudged, State.confirmInTrail, hfeeder]
    refine congrArg Host.Outcome.next (State.drain_settled _ ?_)
    rw [show u = _ from s.echoed_frame b m]
    exact hs

/-! ## An echo after the pulse (R52, R55, R58) -/

section
variable {s : State} {b : Bay} {m : CoinLine} {n : Nat} {k : CoinUnit}

theorem State.beside_echoed (s : State) (b : Bay) (m : CoinLine) : s.Beside (s.echoed b m) :=
  s.beside_setFilter b m .waitRelease

theorem State.exec_echo_confirms (hfilter : s.filter b m = .counting n) (hmode : (s.profile b).coin.echoMode = .meter)
    (hslot : (s.feeder b).slot = some k) (hline : m = k.line) (hheld : (s.feeder b).held = none)
    (hstatus : k.status = .echoWait ∨ k.status = .doubt) :
    exec (.echo b m) s = .next ((s.echoed b m).confirmation b k).arbitrate.drain := by
  have hfeeder := s.echoed_feeder b m b
  rw [State.exec_echo_counting hfilter, State.judgeEcho_confirms (by rw [s.echoed_profile]; exact hmode)
    (by rw [hfeeder]; exact hslot) hline hstatus (by rw [hfeeder]; exact hheld)]

/-- The frame of what an echo leaves, in the words of the state it is judged in. -/
theorem State.echoed_goesOn {t : State} {g : Gate} (h : t = { s with
      filters := (s.echoed b m).filters, gate := g, store := t.store, audit := t.audit, feeders := t.feeders
      pulses := t.pulses, intake := t.intake, links := t.links }) :
    t = { (s.setFilter b m .waitRelease) with
      gate := g, store := t.store, audit := t.audit, feeders := t.feeders, pulses := t.pulses, intake := t.intake
      links := t.links } := by
  cases m <;> exact h

end

theorem echoAfterPulseConfirms : Claims.EchoAfterPulseConfirms := by
  intro s b m n k hfilter hs hmode hslot hline hheld hstatus hcause hstay
  have hdeals := State.confirmation_ignored hs (s.beside_echoed b m) hslot (.inl hcause)
  obtain ⟨t, hdrain, hdealt, _, _, hframe⟩ := hdeals.goesOn hs hstay
  refine ⟨t, by rw [State.exec_echo_confirms hfilter hmode hslot hline hheld hstatus, hdrain],
    hdealt.audit_retirement rfl rfl, hdealt.settles rfl, hdealt.tells_retirement rfl rfl, ?_⟩
  refine (State.echoed_goesOn hframe).trans ?_
  cases m <;> rfl

theorem echoCountsAtGate : Claims.EchoCountsAtGate := by
  intro s b m n k hfilter hs hmode hslot hline hheld hstatus hcause hstay own hmore
  have hexec := State.exec_echo_confirms hfilter hmode hslot hline hheld hstatus
  by_cases hown : own
  · have hdeals := State.confirmation_counts hs (s.beside_echoed b m) hslot hcause (Gate.owns_iff.2 hown) (hmore hown)
    obtain ⟨t, hdrain, hdealt, _, _, hframe⟩ := hdeals.goesOn hs hstay
    rw [← hdealt.gate] at hframe
    exact ⟨t, by rw [hexec, hdrain], fun _ => hdealt.gate, fun hnot => absurd hown hnot, hdealt.settles rfl,
      hdealt.audit_retirement rfl rfl, hdealt.tells_retirement rfl rfl, State.echoed_goesOn hframe⟩
  · have hdeals := State.confirmation_ignored hs (s.beside_echoed b m) hslot (.inr (Gate.owns_eq_false hown))
    obtain ⟨t, hdrain, hdealt, _, _, hframe⟩ := hdeals.goesOn hs hstay
    rw [← hdealt.gate] at hframe
    exact ⟨t, by rw [hexec, hdrain], fun hnot => absurd hnot hown, fun _ => hdealt.gate, hdealt.settles rfl,
      hdealt.audit_retirement rfl rfl, hdealt.tells_retirement rfl rfl, State.echoed_goesOn hframe⟩

theorem lastEchoEndsReleasePending : Claims.LastEchoEndsReleasePending := by
  intro s b m n k hfilter hs hmode hslot hline hheld hstatus hqueue hpending hrun hrole hgate hsource
  have hnotOwn : s.gate.owns b k.number = false := Gate.owns_eq_false fun h => hgate h.2.1
  have hdeals := State.confirmation_ignored hs (s.beside_echoed b m) hslot (.inr hnotOwn)
  obtain ⟨t, hdrain, hdealt, hreleased, hidle, hframe⟩ := hdeals.releases hs rfl hqueue hpending hrun hrole hgate hsource
  exact ⟨t, by rw [State.exec_echo_confirms hfilter hmode hslot hline hheld hstatus, hdrain], hreleased,
    hdealt.settles rfl, hidle, hdealt.audit_retirement rfl rfl, hdealt.tells_retirement rfl rfl, hframe⟩

/-! ## An echo together with its bay's power loss (R46, R49) -/

theorem mem_counting {x : BayFilters} {m : CoinLine} :
    m ∈ x.counting ↔ ∃ n, (match m with | .one => x.one | .two => x.two) = EchoFilter.counting n := by
  obtain ⟨one, two, late⟩ := x
  cases m
  · cases one <;> cases two <;> simp [BayFilters.counting]
  · cases one <;> cases two <;> simp [BayFilters.counting]

section
variable {s : State} {b : Bay} {m : CoinLine}

theorem State.filter_counting : m ∈ s.filters[b].counting ↔ ∃ n, s.filter b m = .counting n := by
  rw [mem_counting]
  cases m <;> exact Iff.rfl

theorem State.mem_late_cutPower {into : PowerState} (h : (s.bay b).state.powered = true) :
    m ∈ (s.cutPower b into).filters[b].late ↔ m ∈ s.filters[b].late ∨ ∃ n, s.filter b m = .counting n := by
  have hfilters : (s.cutPower b into).filters = s.filters.set b s.filters[b].cut := by
    rw [State.cutPower_powered h, State.handOnCut_eq]
    rfl
  have hcut : (s.cutPower b into).filters[b] = s.filters[b].cut := by
    rw [hfilters]
    exact Vector.getElem_set_self b.isLt
  rw [hcut, ← State.filter_counting]
  exact List.mem_append

/-- The state in which an echo behind its bay's power loss is judged. -/
def State.lateTaken (s : State) (b : Bay) (m : CoinLine) : State :=
  s.setBayFilters b { s.filters[b] with late := s.filters[b].late.erase m }

theorem State.exec_echo_dark (h : s.filter b m = .dark) : exec (.echo b m) s =
    .next (if s.filters[b].late.contains m then ((s.lateTaken b m).judgeEcho b m).drain else s.drain) := by
  show execEcho b m s = _
  unfold execEcho
  rw [h]
  dsimp only
  unfold State.echoAfterLoss
  exact congrArg Host.Outcome.next (apply_ite State.drain _ _ _)

theorem State.lateTaken_filter (s : State) (b : Bay) (m : CoinLine) (d : Bay) (x : CoinLine) :
    (s.lateTaken b m).filter d x = s.filter d x := by
  by_cases hd : d = b
  · have hget : (s.lateTaken b m).filters[b] = { s.filters[b] with late := s.filters[b].late.erase m } :=
      Vector.getElem_set_self b.isLt
    rw [hd]
    cases x
    · exact (congrArg BayFilters.one hget).trans rfl
    · exact (congrArg BayFilters.two hget).trans rfl
  · have hget : (s.lateTaken b m).filters[d] = s.filters[d] :=
      Vector.getElem_set_ne b.isLt d.isLt fun e => hd (Fin.ext e.symm)
    cases x
    · exact (congrArg BayFilters.one hget).trans rfl
    · exact (congrArg BayFilters.two hget).trans rfl

end

theorem echoBehindPowerLossIsStray : Claims.EchoBehindPowerLossIsStray := by
  refine ⟨fun s b m into hpowered => State.mem_late_cutPower hpowered, fun s b m hs hdark hslot => ⟨fun hlate => ?_, fun hlate => ?_⟩⟩
  · rw [State.exec_echo_dark hdark, if_neg fun h => hlate (List.contains_iff_mem.1 h), State.drain_settled _ hs]
  · let why : StrayReason := if (s.profile b).coin.echoMode = .none then .echoNone else .noUnit
    let v := s.lateTaken b m
    have hjudged : v.judgeEcho b m = v.stray b m why := by
      by_cases hmode : (s.profile b).coin.echoMode = .none
      · rw [State.judgeEcho_unused (a := v) hmode, show why = .echoNone from if_pos hmode]
      · have hmeter : (s.profile b).coin.echoMode = .meter := by
          cases h : (s.profile b).coin.echoMode
          · exact absurd h hmode
          · rfl
        rw [State.judgeEcho_empty (a := v) hmeter hslot, show why = .noUnit from if_neg hmode]
    obtain ⟨t, hdrain, haudit, htells, hframe⟩ := State.stray_settled (s := v) hs b m why
    refine ⟨t, ?_, haudit, htells, fun d x => ?_, ?_⟩
    · rw [State.exec_echo_dark hdark, if_pos (List.contains_iff_mem.2 hlate)]
      exact congrArg Host.Outcome.next ((congrArg State.drain hjudged).trans hdrain)
    · have hfilters : t.filters = v.filters := by rw [hframe]
      rw [← s.lateTaken_filter b m d x]
      cases x <;> simp only [State.filter, hfilters] <;> rfl
    · have hfilters : t.filters = v.filters := by rw [hframe]
      rw [hfilters]
      exact hframe

/-- Settles O26: each row of the echo table by its hypotheses; a confirming row is the retirement of TRAIL end, from a
state whose filter waits for the release. -/
theorem echoSettlesOrStrays : Obligations.EchoSettlesOrStrays :=
  ⟨echoJudgedByFirstRow, echoAfterPulseConfirms, echoCountsAtGate, lastEchoEndsReleasePending, echoBehindPowerLossIsStray⟩

/-! ## The completing confirmation (R71, R72, R73) -/

theorem State.isActive_of_play {s : State} {b : Bay} (h : s.stage = .play b) : s.isActive b = true := by
  rw [State.isActive, h]
  exact decide_eq_true rfl

/-- The counters and the notices of a charge completed, in the words of the store it leaves. -/
theorem State.Dealt.fired {s t : State} {b : Bay} {k : CoinUnit} (h : s.Dealt t b (s.firedAtGate b k))
    (hnone : s.resumedNotices b k = []) :
    t.audit = ((s.audit.advance tokensSpentIx (s.store.live - t.store.live)).advance (confirmedIx b) 1).advance (playsIx b) 1
      ∧ s.Tells t (s.storeNotices t .spent (s.store.live - t.store.live) (some b)
        ++ [.gateFired b (s.gate.switch.getD 0) s.gate.owed (s.profile b).play.startWidth]) := by
  have htells := h.tells_retirement (k := k) rfl rfl
  rw [show (s.firedAtGate b k).ends = [.gateFired b (s.gate.switch.getD 0) s.gate.owed (s.profile b).play.startWidth]
    from congrArg (List.cons _) hnone] at htells
  refine ⟨?_, htells⟩
  rw [h.audit, h.store]
  rfl

theorem completingConfirmationFires : Claims.CompletingConfirmationFires := by
  intro s u p k hs hpulse hphase hslot hstatus hcause hstay hpaying hbay hunit hlast hstage hrun
  have hdeals := State.confirmation_fires hs (s.beside_setPulse u none) hslot hcause
    (Gate.owns_iff.2 ⟨hpaying, hbay, hunit⟩) hlast (State.isActive_of_play hstage) ((s.isRunning_iff _).2 hrun)
  obtain ⟨t, hdrain, hdealt, _, _, hframe⟩ := hdeals.goesOn hs hstay
  obtain ⟨haudit, htells⟩ := hdealt.fired (State.resumedNotices_inTrail hstatus)
  have hfilters : (s.setPulse u none).filters = s.filters := by cases u <;> rfl
  rw [hfilters, ← hdealt.gate] at hframe
  exact ⟨t, by rw [State.exec_trailEnd_confirms hpulse hphase hslot hstatus, hdrain], hdealt.gate, haudit, htells,
    hdealt.settles rfl, hframe⟩

theorem completingEchoFires : Claims.CompletingEchoFires := by
  intro s b m n k hfilter hs hmode hslot hline hheld hstatus hcause hstay hpaying hbay hunit hlast hstage hrun
  have hdeals := State.confirmation_fires hs (s.beside_echoed b m) hslot hcause
    (Gate.owns_iff.2 ⟨hpaying, hbay, hunit⟩) hlast (State.isActive_of_play hstage) ((s.isRunning_iff _).2 hrun)
  obtain ⟨t, hdrain, hdealt, _, _, hframe⟩ := hdeals.goesOn hs hstay
  have hnone : s.resumedNotices b k = [] :=
    if_neg fun hdoubt : k.status = .doubt => absurd (hstatus.symm.trans hdoubt) nofun
  obtain ⟨haudit, htells⟩ := hdealt.fired hnone
  rw [← hdealt.gate] at hframe
  exact ⟨t, by rw [State.exec_echo_confirms hfilter hmode hslot hline hheld (.inl hstatus), hdrain], hdealt.gate,
    hdealt.settles rfl, haudit, htells, State.echoed_goesOn hframe⟩

/-- Settles O30: the confirmation that completes a charge retires its unit and fires the gate, and the start width's end
clears it. -/
theorem completedChargeFires : Obligations.CompletedChargeFires :=
  ⟨completingConfirmationFires, completingEchoFires, fun _ hfiring => congrArg Host.Outcome.next (if_pos hfiring)⟩

end Sys2Proof.Machine
end

section
/-! Rulings on a doubt unit, and tokens returned to the pool (R11, R12, R33, R48, R59, R60, R133). -/

namespace Sys2Proof.Machine

/-! ## Tokens returned (R11) -/

theorem Token.inUnits_iff {x : Token} {b : Bay} {ns : List UnitNo} :
    x.inUnits b ns = true ↔ ∃ n ∈ ns, x.place = .feeder b n := by
  unfold Token.inUnits
  split
  next hpool => simp [hpool]
  next d n hplace =>
    rw [hplace]
    simp only [Bool.and_eq_true, decide_eq_true_eq, List.contains_iff_mem]
    constructor
    · rintro ⟨rfl, hn⟩
      exact ⟨n, hn, rfl⟩
    · rintro ⟨m, hm, heq⟩
      obtain ⟨hd, hn⟩ := Place.feeder.inj heq
      exact ⟨hd, hn ▸ hm⟩

theorem Token.inUnits_one {x : Token} {b : Bay} {n : UnitNo} : x.inUnits b [n] = true ↔ x.place = .feeder b n := by
  rw [Token.inUnits_iff]
  simp

/-- Units that hold no token leave the store as it is. -/
theorem TokenStore.giveBack_none {t : TokenStore} {b : Bay} {ns : List UnitNo} (h : t.countUnits b ns = 0) :
    t.giveBack b ns = t := by
  have hnone : ∀ x ∈ t.arrival, ¬x.inUnits b ns = true := by
    have hempty := List.length_eq_zero_iff.1 h
    exact fun x hx hin => absurd (List.filter_eq_nil_iff.1 hempty x hx) (not_not.2 hin)
  have hmap : t.arrival.map (fun x => if x.inUnits b ns then { x with place := .pool } else x) = t.arrival :=
    (List.map_congr_left fun x hx => if_neg (hnone x hx)).trans (List.map_id _)
  unfold TokenStore.giveBack
  rw [hmap]

section
variable {s : State} {b : Bay} {ns : List UnitNo}

theorem State.returnUnits_none (h : s.store.countUnits b ns = 0) : s.returnUnits b ns = s := if_pos h

theorem State.returnUnits_some (h : s.store.countUnits b ns ≠ 0) :
    s.returnUnits b ns = (s.setStore (s.store.giveBack b ns)).storeChanged .giveBack (s.store.countUnits b ns) (some b) :=
  if_neg h

theorem State.returnUnits_store : (s.returnUnits b ns).store = s.store.giveBack b ns := by
  by_cases h : s.store.countUnits b ns = 0
  · rw [State.returnUnits_none h, TokenStore.giveBack_none h]
  · rw [State.returnUnits_some h]
    exact State.storeChanged_store _ _ _ _

theorem State.returnUnits_audit : (s.returnUnits b ns).audit = s.audit := by
  by_cases h : s.store.countUnits b ns = 0
  · rw [State.returnUnits_none h]
  · rw [State.returnUnits_some h]
    exact State.storeChanged_audit _ _ _ _

end

theorem returnKeepsArrivalOrder : Claims.ReturnKeepsArrivalOrder := by
  intro s b ns
  refine ⟨?_, by rw [State.returnUnits_store]; rfl, State.returnUnits_audit, fun hcount => ?_⟩
  · rw [State.returnUnits_store]
    refine List.map_congr_left fun x _ => ?_
    by_cases hin : ∃ n ∈ ns, x.place = .feeder b n
    · rw [if_pos hin]
      exact if_pos (Token.inUnits_iff.2 hin)
    · rw [if_neg hin]
      exact if_neg fun h => hin (Token.inUnits_iff.1 h)
  · rw [State.returnUnits_some hcount]
    exact (State.booked (s := s) (u := s.setStore (s.store.giveBack b ns)) rfl rfl .giveBack _ b).tells

/-! ## A ruling's refusals (R59, R60) -/

section
variable {s : State} {b : Bay} {k : CoinUnit} {settle : CoinUnit → State}

theorem Feeder.hasDoubt_iff {f : Feeder} : f.hasDoubt = true ↔ ∃ k, f.slot = some k ∧ k.status = .doubt := by
  unfold Feeder.hasDoubt
  cases f.slot with
  | none => simp
  | some k => simp

theorem State.rule_noDoubt (h : (s.feeder b).hasDoubt = false) : s.rule b settle = (s, .nak .noDoubt) := by
  unfold State.rule
  cases hslot : (s.feeder b).slot with
  | none => rfl
  | some k =>
    exact if_neg fun hdoubt => absurd (h.symm.trans (Feeder.hasDoubt_iff.2 ⟨k, hslot, hdoubt⟩)) Bool.false_ne_true

theorem State.rule_doubt (hslot : (s.feeder b).slot = some k) (hdoubt : k.status = .doubt) :
    s.rule b settle = if (s.feeder b).held.isSome then (s, .nak .busy) else (settle k, .ack []) := by
  unfold State.rule
  rw [hslot]
  exact if_pos hdoubt

theorem State.rule_busy (h : (s.feeder b).hasDoubt = true) (hheld : (s.feeder b).held.isSome = true) :
    s.rule b settle = (s, .nak .busy) := by
  obtain ⟨k, hslot, hdoubt⟩ := Feeder.hasDoubt_iff.1 h
  exact (State.rule_doubt hslot hdoubt).trans (if_pos hheld)

theorem State.rule_settles (hslot : (s.feeder b).slot = some k) (hdoubt : k.status = .doubt)
    (hheld : (s.feeder b).held = none) : s.rule b settle = (settle k, .ack []) :=
  (State.rule_doubt hslot hdoubt).trans (if_neg (by rw [hheld]; exact Bool.false_ne_true))

end

theorem rulingsNeedHeldFeeder : Claims.RulingsNeedHeldFeeder := by
  intro s l bay
  refine ⟨fun htakes => ⟨fun hrange => ?_, fun b hbay => ⟨fun hnone => ?_, fun hdoubt hheld => ?_⟩⟩,
    fun htakes => ⟨fun hrange => ?_, fun b hbay => ⟨fun hnone => ?_, fun hdoubt hheld => ?_⟩⟩⟩
  · exact htakes.refuses rfl rfl fun _ => State.withBay_outside hrange
  · exact htakes.refuses rfl rfl fun x =>
      (State.withBay_within hbay).trans (State.rule_noDoubt (by rw [State.setLink_feeder]; exact hnone))
  · exact htakes.refuses rfl rfl fun x => (State.withBay_within hbay).trans
      (State.rule_busy (by rw [State.setLink_feeder]; exact hdoubt) (by rw [State.setLink_feeder]; exact hheld))
  · exact htakes.refuses rfl rfl fun _ => State.withBay_outside hrange
  · exact htakes.refuses rfl rfl fun x =>
      (State.withBay_within hbay).trans (State.rule_noDoubt (by rw [State.setLink_feeder]; exact hnone))
  · exact htakes.refuses rfl rfl fun x => (State.withBay_within hbay).trans
      (State.rule_busy (by rw [State.setLink_feeder]; exact hdoubt) (by rw [State.setLink_feeder]; exact hheld))

/-! ## A doubt unit voided or refunded (R11, R12, R59, R60) -/

/-- The return of a slot unit with REFUNDED. -/
def State.refund (s : State) (b : Bay) (k : CoinUnit) : Deal where
  store := s.store.giveBack b [k.number]
  audit := s.audit.advance (refundedIx b) 1
  gate := s.gate
  kind := .giveBack
  moved := s.store.countUnits b [k.number]
  ends := s.resumedNotices b k

section
variable {s : State} {b : Bay} {k : CoinUnit}

/-- The gate takes a ruling's outcome without a change (R71). -/
theorem State.handOutcome_ruling {o : GateOutcome} (h : o = .voided ∨ o = .refunded) (w : State) :
    w.handOutcome b k o = w := by
  unfold State.handOutcome State.gateOutcome
  rcases h with rfl | rfl <;> exact (ite_eq_right_iff.2 fun _ => ite_self _)

theorem State.voidUnit_deals (hs : s.Settled) (hslot : (s.feeder b).slot = some k) (hdoubt : k.status = .doubt) :
    ∃ w, s.voidUnit b k = w.arbitrate ∧ s.Deals s w b (s.retirement .voided b k (voidedIx b)) := by
  have hbeside : s.Beside s := rfl
  obtain ⟨hgate, _⟩ := State.retiredTold_frame hs hbeside hslot .voided (voidedIx b)
  have hdeals := State.deals_retirement hs hbeside hslot .voided (voidedIx b)
    (s.retiredTold s .voided b k (voidedIx b)).gateTakes_nothing
  rw [hgate] at hdeals
  refine ⟨_, ?_, hdeals⟩
  have hresumed : (s.retiredTold s .voided b k (voidedIx b)).resumed b k
      = (s.retiredTold s .voided b k (voidedIx b)).notifyFeeder .resumed b k := if_pos hdoubt
  rw [hresumed]
  unfold State.voidUnit
  dsimp only
  rw [State.handOutcome_ruling (.inl rfl)]
  rfl

theorem State.refundUnit_deals (hs : s.Settled) (hslot : (s.feeder b).slot = some k) (hdoubt : k.status = .doubt)
    (hcount : 0 < s.store.countUnits b [k.number]) :
    ∃ w, s.refundUnit b k = w.arbitrate ∧ s.Deals s w b (s.refund b k) := by
  have hbeside : s.Beside s := rfl
  have hempty := hbeside.emptySlot hs hslot
  have hstore : (s.emptySlot b).store = s.store := (congrArg State.store hempty).trans rfl
  have haudit : (s.emptySlot b).audit = s.audit := (congrArg State.audit hempty).trans rfl
  have hgate : (s.emptySlot b).gate = s.gate := (congrArg State.gate hempty).trans rfl
  let x := (s.emptySlot b).bump (refundedIx b) 1
  let u := x.setStore (s.store.giveBack b [k.number])
  have hreturn : x.returnUnits b [k.number]
      = u.storeChanged .giveBack (s.store.countUnits b [k.number]) (some b) := by
    have hxstore : x.store = s.store := hstore
    rw [State.returnUnits_some (s := x) (by rw [hxstore]; exact hcount.ne'), hxstore]
  let y := u.storeChanged .giveBack (s.store.countUnits b [k.number]) (some b)
  have hygate : y.gate = s.gate :=
    ((congrArg State.gate (u.storeChanged_frame .giveBack _ (some b))).trans rfl).trans hgate
  have hdeals := State.deals hs hbeside hslot (u := u) rfl y.gateTakes_nothing
  have huaudit : u.audit = s.audit.advance (refundedIx b) 1 := by
    rw [← haudit]
    rfl
  rw [hygate, huaudit] at hdeals
  refine ⟨_, ?_, hdeals⟩
  have hresumed : y.resumed b k = y.notifyFeeder .resumed b k := if_pos hdoubt
  rw [hresumed]
  unfold State.refundUnit
  dsimp only
  rw [State.handOutcome_ruling (.inr rfl)]
  exact congrArg (fun z : State => (z.notifyFeeder .resumed b k).arbitrate) hreturn

end

/-! ## A ruling answered (R188) -/

/-- A slot unit dealt with by a request of a link. -/
structure State.Ruled (s t : State) (l : Link) (r : Request) (b : Bay) (d : Deal) : Prop where
  store : t.store = d.store
  audit : t.audit = d.audit
  units : (t.feeder b).units = (s.feeder b).queue.map (fun x => { x with status := .queued })
  others : s.KeepsUnits t b
  closure : s.ClosureFollows t
  answers : s.Answers t l r [] (s.storeNotices t d.kind d.moved (some b) ++ d.ends)

section
variable {s u w t : State} {l : Link} {r : Request} {b : Bay} {k : CoinUnit} {d : Deal} {x : Links}

theorem State.Takes.rules (hx : s.setPendingRequest l r.typ = s.setLinks x)
    (hperform : (s.setLinks x).perform l r = (w, .ack [])) (hdrain : w.drain = u)
    (hdealt : (s.setLinks x).Dealt u b d) :
    s.Ruled (s.takeRequest l r) l r b d ∧ s.takeRequest l r = { u with links := (s.takeRequest l r).links } := by
  obtain ⟨hanswers, ht⟩ := State.takeRequest_answers (s := s) (u := w)
    (ns := s.storeNotices u d.kind d.moved (some b) ++ d.ends) (by rw [hx]; exact hperform)
    (fun m => by rw [hdrain, hx]; exact hdealt.tells m)
  rw [hdrain] at ht
  obtain ⟨t, hrequest⟩ : ∃ t, t = s.takeRequest l r := ⟨_, rfl⟩
  rw [← hrequest] at ht hanswers ⊢
  have hshows : t.ShowsAs u := ⟨by rw [ht], by rw [ht], by rw [ht], by rw [ht]⟩
  have hfeeders : t.feeders = u.feeders := by rw [ht]
  have hclosure : s.ClosureFollows u := ⟨hdealt.closure.closed, hdealt.closure.coils, hdealt.closure.rest⟩
  exact ⟨{
    store := hshows.store.trans hdealt.store
    audit := (congrArg State.audit ht).trans hdealt.audit
    units := by
      rw [State.feeder_congr hfeeders]
      exact hdealt.units
    others := fun c hc => by
      rw [State.feeder_congr hfeeders]
      exact hdealt.others c hc
    closure := State.ClosureFollows.congr hshows hclosure
    answers := by rw [State.storeNotices_congr hshows]; exact hanswers }, ht⟩

/-- A state with a bay released, seen in another that has its bays, filters and checkers. -/
theorem State.ReleasedAfter.congr (h : s.ReleasedAfter u b) (hpower : t.power = u.power) (hfilters : t.filters = u.filters)
    (hcheckers : t.checkers = u.checkers) : s.ReleasedAfter t b where
  bays c := (State.bay_congr hpower c).trans (h.bays c)
  power := by rw [hpower]; exact h.power
  filters := by
    obtain ⟨hone, htwo⟩ := h.filters
    exact ⟨by simp only [State.filter, hfilters]; exact hone, by simp only [State.filter, hfilters]; exact htwo⟩
  checker := by
    unfold State.checker
    rw [hcheckers]
    exact h.checker

/-- A ruling that lets the feeder go on. -/
theorem State.Takes.rulingGoesOn (h : s.Takes l r)
    (hrules : ∀ v : State, v.Settled → (v.feeder b).slot = some k → (v.feeder b).held = none → v.store = s.store →
      v.audit = s.audit → v.gate = s.gate → v.resumedNotices b k = s.resumedNotices b k →
      ∃ w, v.perform l r = (w.arbitrate, .ack []) ∧ v.Deals v w b d)
    (hslot : (s.feeder b).slot = some k) (hheld : (s.feeder b).held = none) (hgate : d.gate = s.gate)
    (hstay : (s.bay b).releasePending = false ∨ (s.feeder b).queue ≠ []) :
    ∃ t, s.command l r = t ∧ s.Ruled t l r b d
      ∧ t = { s with
          store := t.store, audit := t.audit, feeders := t.feeders, pulses := t.pulses, intake := t.intake
          links := t.links } := by
  obtain ⟨x, hx⟩ := s.setPendingRequest_eq l r.typ
  obtain ⟨w, hperform, hdeals⟩ := hrules (s.setLinks x) h.settled hslot hheld rfl rfl rfl rfl
  obtain ⟨u, hdrain, hdealt, _, _, hframe⟩ := hdeals.goesOn (s := s.setLinks x) h.settled hstay
  obtain ⟨hruled, ht⟩ := State.Takes.rules hx hperform hdrain hdealt
  refine ⟨s.takeRequest l r, State.command_takes h, hruled, ?_⟩
  obtain ⟨t, hrequest⟩ : ∃ t, t = s.takeRequest l r := ⟨_, rfl⟩
  rw [← hrequest] at ht ⊢
  rw [hgate] at hframe
  rw [ht]
  exact congrArg (fun z : State => { z with links := t.links }) hframe

/-- A ruling that leaves the feeder of a release-pending bay IDLE. -/
theorem State.Takes.rulingReleases (h : s.Takes l r)
    (hrules : ∀ v : State, v.Settled → (v.feeder b).slot = some k → (v.feeder b).held = none → v.store = s.store →
      v.audit = s.audit → v.gate = s.gate → v.resumedNotices b k = s.resumedNotices b k →
      ∃ w, v.perform l r = (w.arbitrate, .ack []) ∧ v.Deals v w b d)
    (hslot : (s.feeder b).slot = some k) (hheld : (s.feeder b).held = none) (hgate : d.gate = s.gate)
    (hqueue : (s.feeder b).queue = []) (hpending : (s.bay b).releasePending = true)
    (hrun : (s.bay b).state = .running) (hrole : s.NoRole b) (hbay : s.gate.bay ≠ some b)
    (hsource : s.monitor.source ≠ .bay b) :
    ∃ t, s.command l r = t ∧ s.Ruled t l r b d ∧ s.ReleasedAfter t b ∧ (t.feeder b).state = .idle
      ∧ t = { s with
          power := t.power, store := t.store, audit := t.audit, feeders := t.feeders, pulses := t.pulses
          filters := t.filters, checkers := t.checkers, intake := t.intake, links := t.links } := by
  obtain ⟨x, hx⟩ := s.setPendingRequest_eq l r.typ
  obtain ⟨w, hperform, hdeals⟩ := hrules (s.setLinks x) h.settled hslot hheld rfl rfl rfl rfl
  obtain ⟨u, hdrain, hdealt, hreleased, hidle, hframe⟩ := hdeals.releases (s := s.setLinks x) h.settled hgate hqueue hpending
    hrun hrole hbay hsource
  obtain ⟨hruled, ht⟩ := State.Takes.rules hx hperform hdrain hdealt
  have hreleased' : s.ReleasedAfter u b := ⟨hreleased.bays, hreleased.power, hreleased.filters, hreleased.checker⟩
  refine ⟨s.takeRequest l r, State.command_takes h, hruled, ?_⟩
  obtain ⟨t, hrequest⟩ : ∃ t, t = s.takeRequest l r := ⟨_, rfl⟩
  rw [← hrequest] at ht ⊢
  have hfeeders : t.feeders = u.feeders := by rw [ht]
  refine ⟨hreleased'.congr (by rw [ht]) (by rw [ht]) (by rw [ht]), ?_, ?_⟩
  · rw [State.feeder_congr hfeeders]
    exact hidle
  · rw [ht]
    exact congrArg (fun z : State => { z with links := t.links }) hframe

end

section
variable {s v : State} {l : Link} {bay : Byte} {b : Bay} {k : CoinUnit}

theorem State.void_rules (hbay : bay.toNat = b.val) (hdoubt : k.status = .doubt) (hs : v.Settled)
    (hslot : (v.feeder b).slot = some k) (hheld : (v.feeder b).held = none) (hstore : v.store = s.store)
    (haudit : v.audit = s.audit) (hgate : v.gate = s.gate) (hnotices : v.resumedNotices b k = s.resumedNotices b k) :
    ∃ w, v.perform l (.voidDoubt bay) = (w.arbitrate, .ack []) ∧ v.Deals v w b (s.retirement .voided b k (voidedIx b)) := by
  obtain ⟨w, hw, hdeals⟩ := State.voidUnit_deals hs hslot hdoubt
  refine ⟨w, ?_, ?_⟩
  · rw [← hw]
    exact (State.withBay_within hbay).trans (State.rule_settles hslot hdoubt hheld)
  · have hsame : v.retirement .voided b k (voidedIx b) = s.retirement .voided b k (voidedIx b) := by
      unfold State.retirement
      rw [hstore, haudit, hgate, hnotices]
    exact hsame ▸ hdeals

theorem State.refund_rules (hbay : bay.toNat = b.val) (hdoubt : k.status = .doubt)
    (hcount : 0 < s.store.countUnits b [k.number]) (hs : v.Settled) (hslot : (v.feeder b).slot = some k)
    (hheld : (v.feeder b).held = none) (hstore : v.store = s.store) (haudit : v.audit = s.audit) (hgate : v.gate = s.gate)
    (hnotices : v.resumedNotices b k = s.resumedNotices b k) :
    ∃ w, v.perform l (.refundDoubt bay) = (w.arbitrate, .ack []) ∧ v.Deals v w b (s.refund b k) := by
  obtain ⟨w, hw, hdeals⟩ := State.refundUnit_deals hs hslot hdoubt (by rw [hstore]; exact hcount)
  refine ⟨w, ?_, ?_⟩
  · rw [← hw]
    exact (State.withBay_within hbay).trans (State.rule_settles hslot hdoubt hheld)
  · have hsame : v.refund b k = s.refund b k := by
      unfold State.refund
      rw [hstore, haudit, hgate, hnotices]
    exact hsame ▸ hdeals

/-- The counters and the answer of a void, in the words of the store it leaves. -/
theorem State.Ruled.voided {t : State} {r : Request} (h : s.Ruled t l r b (s.retirement .voided b k (voidedIx b))) :
    t.audit = (s.audit.advance tokensVoidedIx (s.store.live - t.store.live)).advance (voidedIx b) 1
      ∧ s.Answers t l r [] (s.storeNotices t .voided (s.store.live - t.store.live) (some b) ++ s.resumedNotices b k) := by
  have hanswers := h.answers
  have hmoved : s.store.live - t.store.live = (s.retirement .voided b k (voidedIx b)).moved := by
    rw [h.store]
    rfl
  rw [hmoved]
  exact ⟨h.audit, hanswers⟩

theorem State.Ruled.settles {t : State} {r : Request} {i : CounterIx} {kind : PoolCause}
    (h : s.Ruled t l r b (s.retirement kind b k i)) : s.Settles t b k where
  arrival := (congrArg TokenStore.arrival h.store).trans rfl
  allocator := (congrArg TokenStore.allocator h.store).trans rfl
  units := h.units
  others := h.others
  closure := h.closure

end

theorem voidRetiresDoubtUnit : Claims.VoidRetiresDoubtUnit := by
  intro s l bay b k htakes hbay hslot hdoubt hheld hstay
  obtain ⟨t, hcommand, hruled, hframe⟩ :=
    htakes.rulingGoesOn (fun _ => State.void_rules hbay hdoubt) hslot hheld rfl hstay
  obtain ⟨haudit, hanswers⟩ := hruled.voided
  exact ⟨t, congrArg Host.Outcome.next hcommand, haudit, hruled.settles, hanswers, hframe⟩

theorem refundReturnsDoubtUnit : Claims.RefundReturnsDoubtUnit := by
  intro s l bay b k htakes hbay hslot hdoubt hheld hstay hcount
  obtain ⟨t, hcommand, hruled, hframe⟩ :=
    htakes.rulingGoesOn (fun _ => State.refund_rules hbay hdoubt hcount) hslot hheld rfl hstay
  refine ⟨t, congrArg Host.Outcome.next hcommand, ?_, (congrArg TokenStore.allocator hruled.store).trans rfl, hruled.audit,
    hruled.units, hruled.others, hruled.closure, hruled.answers, hframe⟩
  rw [hruled.store]
  refine List.map_congr_left fun x _ => ?_
  by_cases hplace : x.place = .feeder b k.number
  · rw [if_pos hplace]
    exact if_pos (Token.inUnits_one.2 hplace)
  · rw [if_neg hplace]
    exact if_neg fun h => hplace (Token.inUnits_one.1 h)

theorem lastRulingEndsReleasePending : Claims.LastRulingEndsReleasePending := by
  intro s l bay b k hbay hslot hdoubt hheld hqueue hpending hrun hrole hgate hsource released
  refine ⟨fun htakes => ?_, fun htakes hcount => ?_⟩
  · obtain ⟨t, hcommand, hruled, hreleased, hidle, hframe⟩ := htakes.rulingReleases
      (fun _ => State.void_rules hbay hdoubt) hslot hheld rfl hqueue hpending hrun hrole hgate hsource
    obtain ⟨haudit, hanswers⟩ := hruled.voided
    exact ⟨t, congrArg Host.Outcome.next hcommand, ⟨hreleased, hidle, hruled.others, hruled.closure, hframe⟩, hruled.store,
      haudit, hanswers⟩
  · obtain ⟨t, hcommand, hruled, hreleased, hidle, hframe⟩ := htakes.rulingReleases
      (fun _ => State.refund_rules hbay hdoubt hcount) hslot hheld rfl hqueue hpending hrun hrole hgate hsource
    exact ⟨t, congrArg Host.Outcome.next hcommand, ⟨hreleased, hidle, hruled.others, hruled.closure, hframe⟩, hruled.store,
      hruled.audit, hruled.answers⟩

/-- Settles O27: a ruling's tests in order, then the doubt unit retired or returned as a slot unit is, the gate taking no
part. -/
theorem rulingsSettleDoubt : Obligations.RulingsSettleDoubt :=
  ⟨rulingsNeedHeldFeeder, voidRetiresDoubtUnit, refundReturnsDoubtUnit, lastRulingEndsReleasePending, returnKeepsArrivalOrder⟩

end Sys2Proof.Machine
end

section
/-! An echo window's expiry, and a charge abandoned (R48, R56, R74, R75). -/

namespace Sys2Proof.Machine

/-! ## A return told (R11, R14) -/

/-- The notices of a return of units, if they carry tokens. -/
def State.givenBackNotices (s t : State) (b : Bay) (ns : List UnitNo) : List Notice :=
  if s.store.countUnits b ns = 0 then [] else s.storeNotices t .giveBack (s.store.countUnits b ns) (some b)

/-- A return of units of a bay. -/
structure State.GivesBack (u v : State) (b : Bay) (ns : List UnitNo) : Prop where
  store : v.store = u.store.giveBack b ns
  tells : u.Tells v (u.givenBackNotices v b ns)
  frame : v = { u with store := v.store, intake := v.intake, links := v.links }

theorem State.givesBack (u : State) (b : Bay) (ns : List UnitNo) : u.GivesBack (u.returnUnits b ns) b ns where
  store := State.returnUnits_store
  tells := by
    unfold State.givenBackNotices
    by_cases h : u.store.countUnits b ns = 0
    · rw [State.returnUnits_none h, if_pos h]
      exact fun _ => rfl
    · rw [State.returnUnits_some h, if_neg h]
      exact (State.booked (s := u) (u := u.setStore (u.store.giveBack b ns)) rfl rfl .giveBack _ b).tells
  frame := by
    by_cases h : u.store.countUnits b ns = 0
    · rw [State.returnUnits_none h]
    · rw [State.returnUnits_some h]
      have hframe := (u.setStore (u.store.giveBack b ns)).storeChanged_frame .giveBack (u.store.countUnits b ns) (some b)
      obtain ⟨v, hv⟩ : ∃ v, v = (u.setStore (u.store.giveBack b ns)).storeChanged .giveBack (u.store.countUnits b ns) (some b)
        := ⟨_, rfl⟩
      rw [← hv] at hframe ⊢
      rw [hframe]
      rfl

/-! ## A charge abandoned (R74, R75) -/

/-- The queued units that an abandonment returns. -/
def Gate.charged (g : Gate) (k : CoinUnit) : Bool := decide (k.cause = .gate) && g.units.contains k.number

/-- The numbers of the queued units that an abandonment returns. -/
def State.chargedNumbers (s : State) (b : Bay) : List UnitNo :=
  ((s.feeder b).queue.filter s.gate.charged).map CoinUnit.number

/-- A feeder without the units of a charge in its queue. -/
def State.uncharged (s : State) (b : Bay) : Feeder :=
  { s.feeder b with queue := (s.feeder b).queue.filter fun k => !s.gate.charged k }

theorem State.putFeeder_busy {a : State} {b : Bay} {f : Feeder} (h : f.state ≠ .idle ∨ (a.feeder b).state = .idle) :
    a.putFeeder b f = a.setFeeder b f := if_neg fun hboth => h.elim (· hboth.1) hboth.2

/-- A charge abandoned on a bay whose slot unit stays. -/
structure State.Abandons (a w : State) (b : Bay) (cause : AbandonCause) : Prop where
  gate : w.gate = Gate.idleWith b (a.carryAfter b)
  store : w.store = a.store.giveBack b (a.chargedNumbers b)
  tells : a.Tells w (a.givenBackNotices w b (a.chargedNumbers b)
    ++ [.gateAbandoned b a.gate.switch cause a.gate.owed a.gate.confirmed (a.carryAfter b)])
  frame : w = { a with
    feeders := a.feeders.set b (a.uncharged b), gate := w.gate, store := w.store, intake := w.intake, links := w.links }

theorem State.abandons {a : State} {b : Bay} {k : CoinUnit} (hslot : (a.feeder b).slot = some k) (cause : AbandonCause) :
    a.Abandons (a.abandon b cause) b cause := by
  have hput : a.putFeeder b (a.uncharged b) = a.setFeeder b (a.uncharged b) :=
    State.putFeeder_busy (.inl (Feeder.not_idle_of_slot (k := k) hslot))
  have hback := (a.setFeeder b (a.uncharged b)).givesBack b (a.chargedNumbers b)
  obtain ⟨v, hv⟩ : ∃ v, v = (a.setFeeder b (a.uncharged b)).returnUnits b (a.chargedNumbers b) := ⟨_, rfl⟩
  rw [← hv] at hback
  have hw : a.abandon b cause = (v.setGate (Gate.idleWith b (a.carryAfter b))).notify
      (.gateAbandoned b a.gate.switch cause a.gate.owed a.gate.confirmed (a.carryAfter b)) := by
    rw [hv, ← hput]
    rfl
  have hshows : (a.abandon b cause).ShowsAs v := by
    rw [hw]
    exact ⟨rfl, rfl, rfl, rfl⟩
  have htells : a.Tells v (a.givenBackNotices v b (a.chargedNumbers b)) := hback.tells
  have hnotices : a.givenBackNotices (a.abandon b cause) b (a.chargedNumbers b)
      = a.givenBackNotices v b (a.chargedNumbers b) := by
    unfold State.givenBackNotices
    rw [State.storeNotices_congr hshows]
  refine ⟨by rw [hw]; rfl, hshows.store.trans (hback.store.trans rfl), ?_, ?_⟩
  · rw [hnotices]
    refine htells.trans fun l => ?_
    rw [hw]
    exact State.link_notify _ _ l
  · rw [hw]
    exact congrArg (fun x : State => { x with
      gate := Gate.idleWith b (a.carryAfter b)
      links := ((v.setGate (Gate.idleWith b (a.carryAfter b))).notify
        (.gateAbandoned b a.gate.switch cause a.gate.owed a.gate.confirmed (a.carryAfter b))).links }) hback.frame

/-! ## The echo window's expiry (R56) -/

section
variable {s : State} {b : Bay} {k : CoinUnit} {t : Timer}

/-- A unit whose echo did not come. -/
def CoinUnit.doubted (k : CoinUnit) : CoinUnit := { k with status := .doubt }

/-- A feeder whose slot unit is in doubt. -/
def Feeder.inDoubt (f : Feeder) (k : CoinUnit) : Feeder := { f with slot := some k.doubted, window := none }

/-- The FEEDER notice of a doubt of a unit whose pulse has ended. -/
def State.heldNotices (s : State) (b : Bay) (k : CoinUnit) : List Notice :=
  if (s.feeder b).held.isSome then []
  else [.feeder .held b k.number k.tokens.length k.cause .held (s.feeder b).queue.length]

/-- A slot unit in doubt, before its outcome is handed to the gate. -/
def State.doubts (s : State) (b : Bay) (k : CoinUnit) : State :=
  if (s.feeder b).held.isSome then s.setFeeder b ((s.feeder b).inDoubt k)
  else (s.setFeeder b ((s.feeder b).inDoubt k)).notifyFeeder .held b k.doubted

theorem State.windowExpires_eq (hslot : (s.feeder b).slot = some k) (hstatus : k.status = .echoWait)
    (hwindow : (s.feeder b).window = some t) :
    s.windowExpires b = (s.doubts b k).handOutcome b k.doubted .doubt := by
  unfold State.windowExpires
  dsimp only
  rw [hslot, hwindow]
  exact if_pos hstatus

theorem State.doubts_frame (s : State) (b : Bay) (k : CoinUnit) : s.doubts b k = { s with
    feeders := s.feeders.set b ((s.feeder b).inDoubt k), links := (s.doubts b k).links } := by
  unfold State.doubts
  split <;> rfl

theorem State.doubts_tells (s : State) (b : Bay) (k : CoinUnit) : s.Tells (s.doubts b k) (s.heldNotices b k) := fun l => by
  unfold State.doubts State.heldNotices
  split
  next => rfl
  next hheld =>
    have hstate : ((s.feeder b).inDoubt k).state = .held := (if_neg hheld).trans (if_pos rfl)
    rw [State.notifyFeeder, State.link_notify, State.feeder_setFeeder_same, hstate]
    rfl

theorem State.doubts_feeder (s : State) (b : Bay) (k : CoinUnit) :
    (s.doubts b k).feeder b = (s.feeder b).inDoubt k ∧ ∀ d : Bay, d ≠ b → (s.doubts b k).feeder d = s.feeder d := by
  have hfeeders : (s.doubts b k).feeders = (s.setFeeder b ((s.feeder b).inDoubt k)).feeders := by
    rw [s.doubts_frame b k]
    rfl
  exact ⟨(State.feeder_congr hfeeders b).trans (State.feeder_setFeeder_same _ _ _),
    fun d hd => (State.feeder_congr hfeeders d).trans (State.feeder_setFeeder_other _ _ hd)⟩

end

theorem windowExpiryPutsUnitInDoubt : Claims.WindowExpiryPutsUnitInDoubt := by
  intro s b k w hs hslot hstatus hwindow hcause
  have hexpires := State.windowExpires_eq hslot hstatus hwindow
  rw [State.handOutcome_ignored (k := k.doubted) (.inl hcause)] at hexpires
  have hframe := s.doubts_frame b k
  obtain ⟨hsame, hothers⟩ := s.doubts_feeder b k
  have hsettled : (s.doubts b k).Settled := by
    rw [hframe]
    exact hs
  refine ⟨s.doubts b k, ?_, hsame, hothers, s.doubts_tells b k, ?_⟩
  · show Host.Outcome.next (s.windowExpires b).drain = _
    rw [hexpires, State.drain_settled _ hsettled]
  · have hfeeders : (s.doubts b k).feeders = s.feeders.set b ((s.feeder b).inDoubt k) := by rw [hframe]
    rw [hfeeders]
    exact hframe

theorem doubtAbandonsCharge : Claims.DoubtAbandonsCharge := by
  intro s b k w hs hslot hstatus hwindow hcause hpaying hbay hunit hstage hrun carry ns
  obtain ⟨a, ha⟩ : ∃ a, a = s.doubts b k := ⟨_, rfl⟩
  have hframe := s.doubts_frame b k
  have hnotices := s.doubts_tells b k
  obtain ⟨hsame, hothers⟩ := s.doubts_feeder b k
  have hexpires := State.windowExpires_eq hslot hstatus hwindow
  rw [← ha] at hframe hnotices hsame hothers hexpires
  have hgate : a.gate = s.gate := by rw [hframe]
  have hstore : a.store = s.store := by rw [hframe]
  have hintake : a.intake = s.intake := by rw [hframe]
  have hkept : a.carryKept b = true := by
    unfold State.carryKept
    rw [State.isActive_congr (t := a) (s := s) (by rw [hframe]), State.isRunning_congr (t := a) (s := s) (by rw [hframe]),
      State.isActive_of_play hstage, (s.isRunning_iff b).2 hrun]
    rfl
  have hcarry : a.carryAfter b = carry := by
    unfold State.carryAfter
    rw [hkept, hgate]
    rfl
  have hnumbers : a.chargedNumbers b = ns := by
    unfold State.chargedNumbers
    rw [hsame, hgate]
    rfl
  have howns : a.gate.owns b k.number = true := by
    rw [hgate]
    exact Gate.owns_iff.2 ⟨hpaying, hbay, hunit⟩
  have houtcome : a.handOutcome b k.doubted .doubt = a.abandon b .doubt := (if_pos hcause).trans (if_pos howns)
  have habandons := State.abandons (a := a) (k := k.doubted) (by rw [hsame]; rfl) .doubt
  obtain ⟨t, ht⟩ : ∃ t, t = a.abandon b .doubt := ⟨_, rfl⟩
  rw [← ht] at habandons houtcome
  obtain ⟨htgate, htstore, httells, htframe⟩ := habandons
  rw [hcarry] at htgate httells
  rw [hnumbers] at htstore httells
  have huncharged : a.uncharged b = { s.feeder b with
      slot := some k.doubted, window := none
      queue := (s.feeder b).queue.filter fun x => !(decide (x.cause = .gate) && s.gate.units.contains x.number) } := by
    unfold State.uncharged
    rw [hsame, hgate]
    rfl
  have hfeeders : t.feeders = (a.setFeeder b (a.uncharged b)).feeders := by
    rw [htframe]
    rfl
  have hrest : t = { a with
      feeders := t.feeders, gate := t.gate, store := t.store, intake := t.intake, links := t.links } := by rw [htframe]
  have hframe' := hrest.trans (congrArg (fun x : State => { x with
    feeders := t.feeders, gate := t.gate, store := t.store, intake := t.intake, links := t.links }) hframe)
  have hsettled : t.Settled := by
    rw [hframe']
    exact hs
  refine ⟨t, ?_, htgate, ?_, fun d hd => ?_, by rw [htstore, hstore], by rw [hframe'], ?_, hframe'⟩
  · show Host.Outcome.next (s.windowExpires b).drain = _
    rw [hexpires, houtcome, State.drain_settled _ hsettled]
  · rw [State.feeder_congr hfeeders, State.feeder_setFeeder_same]
    exact huncharged
  · rw [State.feeder_congr hfeeders, State.feeder_setFeeder_other _ _ hd, hothers d hd]
  · have hback : a.givenBackNotices t b ns = s.givenBackNotices t b ns := by
      unfold State.givenBackNotices State.storeNotices State.closureNotices
      rw [hstore, hintake]
    rw [hback, hgate] at httells
    rw [List.append_assoc]
    exact hnotices.trans httells

/-- Settles O29: the window's expiry puts the slot unit in doubt, and the doubt of a unit of the charge hands it back to the
gate as an abandonment. -/
theorem windowExpiryGivesDoubt : Obligations.WindowExpiryGivesDoubt := ⟨windowExpiryPutsUnitInDoubt, doubtAbandonsCharge⟩

end Sys2Proof.Machine
end

section
/-! A start press at an IDLE gate: ignored, swallowed, or charged by a draw (R66, R68, R69). -/

namespace Sys2Proof.Machine

section
variable {s : State} {b : Bay} {w : Switch}

/-- A start press that the gate takes in PLAY, once its event has ended. -/
theorem exec_startPress {t : State} (hplay : s.stage = .play b) (hsettled : s.panel.settled = true)
    (hpressed : w ∉ s.panel.pressed) (hmask : w ∉ s.panel.mask) (hmenu : s.tables.cabinet.panel.menu ≠ w)
    (hstart : s.tables.cabinet.panel.p1 = some w ∨ s.tables.cabinet.panel.p2 = some w)
    (hmode : (s.profile b).play.payMode = .onStart) (ht : (s.noted w .press).startPress b w = t) (hend : t.Settled) :
    exec (.switchEvent w .press) s = .next t := by
  let u := s.noted w .press
  have htakes : u.gateTakes w = some b :=
    (State.gateTakes_play (s := u) hplay w).trans (if_pos ⟨hmode, (PanelGroup.isStart_iff _ w).2 hstart⟩)
  have hdeal : u.dealSwitch w .press = t :=
    ((State.dealSwitch_play (s := u) hplay).trans (State.playEvent_start (s := u) hmenu htakes)).trans ht
  have htake : (s.setContact w (edgePresses .press)).takeSwitch w .press = t :=
    (State.takeSwitch_unmasked (s := s.setContact w (edgePresses .press)) (e := .press) hmask).trans
      ((congrArg (State.quietCheck · .press) hdeal).trans (State.quietCheck_stands (.inl rfl)))
  rw [exec_switchEvent hsettled (by simp [hpressed]), htake, State.drain_settled t hend]

/-- The units that the price and the carry leave to be paid. -/
def State.unitsOwed (s : State) (b : Bay) : Nat := (s.profile b).play.price - s.gate.carry

theorem State.startPress_unrouted (hgate : s.gate.state = .idle)
    (h : (s.isRunning b && routesFrom (s.routeMap b) w) = false) : s.startPress b w = s := by
  unfold State.startPress
  rw [hgate]
  exact if_pos (by rw [h]; rfl)

section
variable (hgate : s.gate.state = .idle) (hroutes : (s.isRunning b && routesFrom (s.routeMap b) w) = true)
include hgate hroutes

theorem State.startPress_routed : s.startPress b w =
    if s.store.poolCount < s.drawSize b (s.unitsOwed b) then
      s.notify (.gateNeedCredit b w (s.unitsOwed b) (s.drawSize b (s.unitsOwed b)) s.store.poolCount s.gate.carry)
    else if (s.feeder b).free < s.unitsOwed b then
      s.notify (.gateQueueFull b w (s.unitsOwed b) (s.feeder b).queue.length s.gate.carry)
    else s.openCharge b w (s.unitsOwed b) := by
  unfold State.startPress
  rw [hgate]
  exact if_neg (by rw [hroutes]; exact Bool.false_ne_true)

theorem State.startPress_needsCredit (h : s.store.poolCount < s.drawSize b (s.unitsOwed b)) : s.startPress b w =
    s.notify (.gateNeedCredit b w (s.unitsOwed b) (s.drawSize b (s.unitsOwed b)) s.store.poolCount s.gate.carry) :=
  (State.startPress_routed hgate hroutes).trans (if_pos h)

theorem State.startPress_queueFull (h : ¬s.store.poolCount < s.drawSize b (s.unitsOwed b))
    (hfull : (s.feeder b).free < s.unitsOwed b) :
    s.startPress b w = s.notify (.gateQueueFull b w (s.unitsOwed b) (s.feeder b).queue.length s.gate.carry) :=
  (State.startPress_routed hgate hroutes).trans ((if_neg h).trans (if_pos hfull))

theorem State.startPress_charges (h : ¬s.store.poolCount < s.drawSize b (s.unitsOwed b))
    (hfree : ¬(s.feeder b).free < s.unitsOwed b) : s.startPress b w = s.openCharge b w (s.unitsOwed b) :=
  (State.startPress_routed hgate hroutes).trans ((if_neg h).trans (if_neg hfree))

end

/-! ## The charge opened (R68 step 5) -/

/-- A gate that waits for the units of a charge. -/
def Gate.charging (g : Gate) (b : Bay) (w : Switch) (new : List CoinUnit) : Gate :=
  { g with
    state := .paying, bay := some b, switch := some w, owed := new.length, units := new.map CoinUnit.number
    confirmed := 0 }

/-- A charge opened with its new units. -/
structure State.Charges (s t : State) (b : Bay) (w : Switch) (new : List CoinUnit) : Prop where
  units : (t.feeder b).units = (s.feeder b).units ++ new
  cause : ∀ u ∈ new, u.cause = .gate
  gate : t.gate = s.gate.charging b w new
  pool : t.store.poolTokens = s.store.poolTokens.drop (s.drawSize b new.length)
  tells : s.Tells t (s.storeNotices t .draw (s.drawSize b new.length) (some b))
  frame : t = { s with
    gate := t.gate, store := t.store, feeders := t.feeders, pulses := t.pulses, intake := t.intake, links := t.links }

theorem State.openCharge_charges {k : Nat} (h : s.drawSize b k ≤ s.store.poolCount) :
    ∃ new : List CoinUnit, new.length = k ∧ s.Charges (s.openCharge b w k) b w new := by
  obtain ⟨new, hlength, hforms⟩ := s.forms_formUnits b .gate k h
  obtain ⟨v, hv⟩ : ∃ v, v = s.formUnits b .gate k := ⟨_, rfl⟩
  rw [← hv] at hforms
  have hbook := State.booked (s := s) (u := v) (by rw [hforms.frame]) (by rw [hforms.frame]) .draw (s.drawSize b k) b
  obtain ⟨y, hy⟩ : ∃ y, y = v.storeChanged .draw (s.drawSize b k) (some b) := ⟨_, rfl⟩
  rw [← hy] at hbook
  have hyfeeder (d : Bay) : y.feeder d = v.feeder d := State.feeder_congr (by rw [hbook.frame]) d
  have hygate : y.gate = s.gate := by rw [hbook.frame, hforms.frame]
  have hnumbers : ((y.feeder b).queue.drop (s.feeder b).queue.length).map CoinUnit.number = new.map CoinUnit.number := by
    rw [hyfeeder, hforms.queue, List.drop_left]
  let z := y.setGate (s.gate.charging b w new)
  have hopen : s.openCharge b w k = z.arbitrate := by
    have hshape : s.openCharge b w k = (y.setGate { y.gate with
        state := .paying, bay := some b, switch := some w, owed := k
        units := ((y.feeder b).queue.drop (s.feeder b).queue.length).map CoinUnit.number
        confirmed := 0 }).arbitrate := by
      rw [hy, hv]
      rfl
    rw [hshape, hnumbers, hygate, ← hlength]
    rfl
  have hgrants := z.grants_arbitrate
  rw [← hopen] at hgrants
  obtain ⟨t, ht⟩ : ∃ t, t = s.openCharge b w k := ⟨_, rfl⟩
  rw [← ht] at hgrants ⊢
  have hframe := hgrants.frame
  have hshows : t.ShowsAs y := by
    rw [hframe]
    exact ⟨rfl, rfl, rfl, rfl⟩
  have hlinks : t.links = y.links := (congrArg State.links hframe).trans rfl
  have hystore : y.store = v.store := by rw [hbook.frame]
  refine ⟨new, hlength, ?_, fun u hu => ?_, ?_, ?_, fun l => ?_, ?_⟩
  · rw [hgrants.units, show z.feeder b = y.feeder b from rfl, hyfeeder, hforms.units]
  · obtain ⟨_, _, hcause, _⟩ := hforms.each u hu
    exact hcause
  · exact (congrArg State.gate hframe).trans rfl
  · rw [hshows.store, hystore, hforms.pool]
    rfl
  · rw [State.storeNotices_congr hshows, State.link_congr hlinks, hlength]
    exact hbook.tells l
  · have hy' := hbook.frame.trans (congrArg (fun x : State => { x with intake := y.intake, links := y.links }) hforms.frame)
    have hz := hframe.trans (congrArg (fun x : State => { x with
      gate := s.gate.charging b w new, feeders := t.feeders, pulses := t.pulses }) hy')
    rw [hz]

end

theorem startPressJudgedByCredit : Claims.StartPressJudgedByCredit := by
  intro s b w hs hplay hsettled hpressed hmask hmenu hstart hmode hrun hroutes hgate k need
  let u := s.noted w .press
  have hexec (t : State) := exec_startPress (t := t) hplay hsettled hpressed hmask hmenu hstart hmode
  have hrouted : (u.isRunning b && routesFrom (u.routeMap b) w) = true := by
    rw [show u.isRunning b = true from (s.isRunning_iff b).2 hrun, show routesFrom (u.routeMap b) w = true from hroutes]
    rfl
  by_cases hcredit : s.store.poolCount < need
  · have ht := State.startPress_needsCredit (s := u) hgate hrouted hcredit
    refine ⟨_, hexec _ ht hs, rfl, rfl, fun _ => ⟨rfl, rfl, rfl, fun l => State.link_notify u _ l⟩,
      fun h => absurd hcredit (Nat.not_lt.2 h), fun h => absurd hcredit (Nat.not_lt.2 h), rfl⟩
  · by_cases hfull : 8 - (s.feeder b).queue.length < k
    · have ht := State.startPress_queueFull (s := u) hgate hrouted hcredit hfull
      exact ⟨_, hexec _ ht hs, rfl, rfl, fun h => absurd h hcredit,
        fun _ _ => ⟨rfl, rfl, rfl, fun l => State.link_notify u _ l⟩, fun _ h => absurd hfull (Nat.not_lt.2 h), rfl⟩
    · have ht := State.startPress_charges (s := u) hgate hrouted hcredit hfull
      obtain ⟨new, hlength, hcharges⟩ := State.openCharge_charges (s := u) (b := b) (w := w) (k := k) (Nat.not_lt.1 hcredit)
      obtain ⟨t, htt⟩ : ∃ t, t = u.openCharge b w k := ⟨_, rfl⟩
      rw [← htt] at hcharges
      have htt' : u.startPress b w = t := ht.trans htt.symm
      have hframe := hcharges.frame
      have hend : t.Settled := by
        rw [hframe]
        exact hs
      have hsize : u.drawSize b new.length = need := by rw [hlength]; rfl
      have hpool := hcharges.pool
      have htells := hcharges.tells
      have htgate := hcharges.gate
      rw [hsize] at hpool htells
      rw [Gate.charging, hlength] at htgate
      exact ⟨t, hexec t htt' hend, (congrArg State.panel hframe).trans rfl, (congrArg State.audit hframe).trans rfl,
        fun h => absurd h hcredit, fun _ h => absurd h hfull,
        fun _ _ => ⟨new, hcharges.units, hlength, hcharges.cause, htgate, hpool, htells⟩, by rw [hframe]; rfl⟩

theorem startPressWithoutRouteIgnored : Claims.StartPressWithoutRouteIgnored := by
  intro s b w hs hplay hsettled hpressed hmask hmenu hstart hmode hgate hno
  have hunrouted : ((s.noted w .press).isRunning b && routesFrom ((s.noted w .press).routeMap b) w) = false := by
    rw [Bool.and_eq_false_iff]
    refine hno.imp (fun hstopped => Bool.eq_false_iff.2 fun h => hstopped ((s.isRunning_iff b).1 h)) fun hnone => ?_
    exact List.any_eq_false.2 fun r hr => by simpa using hnone r hr
  have ht := State.startPress_unrouted (s := s.noted w .press) hgate hunrouted
  exact ⟨_, exec_startPress hplay hsettled hpressed hmask hmenu hstart hmode ht hs, s.notes_noted w .press, rfl,
    s.noted_frame w .press⟩

/-- Settles O28: a press without a route stops at the first test, one without credit or room at the next two, and one that
passes them is charged by a single draw. -/
theorem startPressOpensCharge : Obligations.StartPressOpensCharge := ⟨startPressJudgedByCredit, startPressWithoutRouteIgnored⟩

end Sys2Proof.Machine
end

section
/-! POWER_BAY on and off, and the evictions of a handover's own power request (R119 to R124, R128). -/

namespace Sys2Proof.Machine

/-! ## A request that acts on what is behind the links (R188) -/

section
variable {s target : State} {l : Link} {r : Request} {data : List Byte} {ns : List Notice}

/-- A request acknowledged with a state that does not hang on its link's record, up to the links. -/
theorem State.Takes.acts (h : s.Takes l r)
    (hask : ∀ x : Links, ∃ w, (s.setLinks x).perform l r = (w, .ack data) ∧ (s.setLinks x).Tells w.drain ns
      ∧ w.drain = { target with links := w.drain.links }) :
    ∃ t, s.command l r = t ∧ s.Answers t l r data ns ∧ t = { target with links := t.links } := by
  obtain ⟨x, hx⟩ := s.setPendingRequest_eq l r.typ
  obtain ⟨w, hperform, htells, hframe⟩ := hask x
  obtain ⟨hanswers, ht⟩ := State.takeRequest_answers (s := s) (ns := ns) (by rw [hx]; exact hperform)
    (fun m => by rw [hx]; exact htells m)
  refine ⟨s.takeRequest l r, State.command_takes h, hanswers, ?_⟩
  obtain ⟨t, hrequest⟩ : ∃ t, t = s.takeRequest l r := ⟨_, rfl⟩
  rw [← hrequest] at ht ⊢
  rw [ht]
  exact congrArg (fun z : State => { z with links := t.links }) hframe

/-- A request acknowledged with a change and nothing else to be done. -/
theorem State.Takes.actsQuietly (h : s.Takes l r) (hsettled : target.Settled)
    (hask : ∀ x : Links, (s.setLinks x).perform l r = (target.setLinks x, .ack data)) :
    ∃ t, s.command l r = t ∧ s.Answers t l r data [] ∧ t = { target with links := t.links } :=
  h.acts fun x => ⟨target.setLinks x, hask x, by
    rw [State.drain_settled (target.setLinks x) hsettled]
    exact ⟨fun m => by cases m <;> rfl, rfl⟩⟩

end

/-! ## POWER_BAY on (R123) -/

section
variable {s : State} {b : Bay}

theorem State.askPower_range {bay : Byte} (h : 7 < bay.toNat) (x : Byte) : s.askPower bay x = (s, .nak .range) := by
  unfold State.askPower
  rw [bayArg_outside h]

theorem State.askPower_on {bay : Byte} (h : bay.toNat = b.val) : s.askPower bay 0x01 = s.askPowerOn b := by
  unfold State.askPower
  rw [bayArg_within h, show boolArg 0x01 = some true from rfl]
  rfl

theorem State.askPower_off {bay : Byte} (h : bay.toNat = b.val) : s.askPower bay 0x00 = s.askPowerOff b := by
  unfold State.askPower
  rw [bayArg_within h, show boolArg 0x00 = some false from rfl]
  rfl

/-- A bay's attempts reloaded. -/
def State.reloaded (s : State) (b : Bay) : State :=
  s.setBay b { s.bay b with attempts := (s.profile b).general.attempts }

theorem State.askPowerOn_unfit (h : (s.bay b).state = .tripped ∨ (s.bay b).state = .faulted ∨ (s.bay b).state = .disabled) :
    s.askPowerOn b = (s, .nak .state) := by
  unfold State.askPowerOn
  dsimp only
  rcases h with h | h | h <;> rw [h]

theorem State.askPowerOn_off (h : (s.bay b).state = .off) :
    s.askPowerOn b = if s.fits b then ((s.reloaded b).enterStarting b, .ack []) else (s, .nak .budget) := by
  unfold State.askPowerOn State.reloaded
  dsimp only
  rw [h]

/-- The deferred request of a COOLING bay that is powered by a request. -/
def BayPower.preheated (p : BayPower) (n : Nat) : BayPower :=
  { p with attempts := n, deferred := some (if p.deferred = some .handover then .handover else .preheat) }

theorem State.askPowerOn_cooling (h : (s.bay b).state = .cooling) : s.askPowerOn b =
    (s.setBay b ((s.bay b).preheated (s.profile b).general.attempts), .ack []) := by
  unfold State.askPowerOn BayPower.preheated
  dsimp only
  rw [h, apply_ite some]

theorem State.askPowerOn_powered (h : (s.bay b).state.powered = true) : s.askPowerOn b = (s.reloaded b, .ack []) := by
  unfold State.askPowerOn State.reloaded
  dsimp only
  cases hstate : (s.bay b).state <;> rw [hstate] at h
  all_goals exact absurd h Bool.false_ne_true

end

theorem powerOnPreheats : Claims.PowerOnPreheats := by
  intro s l bay i r htakes
  refine ⟨fun hrange => ?_, fun b hbay => ?_⟩
  · exact htakes.refuses rfl rfl fun _ => State.askPower_range hrange _
  intro p n fits
  have hask (v : State) : v.perform l r = v.askPowerOn b := State.askPower_on hbay
  have hsettled (q : BayPower) : (s.setBay b q).Settled := htakes.settled
  refine ⟨fun hstate => ?_, fun hoff hunfit => ?_, fun hoff hfit hclear => ?_, fun hcool => ?_, fun hpowered => ?_⟩
  · exact htakes.refuses rfl rfl fun x =>
      (hask _).trans (State.askPowerOn_unfit (by rw [State.setLink_bay]; exact hstate))
  · refine htakes.refuses rfl rfl fun x => (hask _).trans ?_
    have hno : ¬(s.setLink l x).fits b = true := by
      rw [show (s.setLink l x).fits b = s.fits b by cases l <;> rfl]
      exact fun h => hunfit (of_decide_eq_true h)
    exact (State.askPowerOn_off (by rw [State.setLink_bay]; exact hoff)).trans (if_neg hno)
  · let v := s.reloaded b
    let u := (v.setBay b { v.bay b with
      state := .starting, timer := some (Timer.start (s.profile b).general.resetHold) }).setChecker b Checker.seek
    have hstart (x : Links) : ((s.setLinks x).reloaded b).enterStarting b = u.setLinks x :=
      State.enterStarting_clear (s := v.setLinks x) hclear
    obtain ⟨t, hcommand, hanswers, hframe⟩ := htakes.actsQuietly (target := u) htakes.settled fun x =>
      (hask _).trans ((State.askPowerOn_off (s := s.setLinks x) hoff).trans ((if_pos (decide_eq_true hfit)).trans
        (congrArg (·, Answer.ack []) (hstart x))))
    have hbays (d : Bay) : t.bay d = (v.setBay b { v.bay b with
        state := .starting, timer := some (Timer.start (s.profile b).general.resetHold) }).bay d :=
      State.bay_congr ((congrArg State.power hframe).trans rfl) d
    refine ⟨t, congrArg Host.Outcome.next hcommand, ?_, fun d hd => ?_, ?_, hanswers, ?_⟩
    · rw [hbays, State.bay_setBay_same, show v.bay b = { s.bay b with attempts := n } from State.bay_setBay_same _ _ _]
      rfl
    · rw [hbays, State.bay_setBay_other _ _ hd]
      exact State.bay_setBay_other _ _ hd
    · have hcheckers : t.checkers = u.checkers := (congrArg State.checkers hframe).trans rfl
      unfold State.checker
      rw [hcheckers]
      exact congrArg Checker.state (State.checker_setChecker_same _ b Checker.seek)
    · rw [hframe]
      rfl
  · obtain ⟨t, hcommand, hanswers, hframe⟩ := htakes.actsQuietly (hsettled (p.preheated n)) fun x =>
      (hask _).trans (State.askPowerOn_cooling (s := s.setLinks x) hcool)
    have hbays (d : Bay) : t.bay d = (s.setBay b (p.preheated n)).bay d :=
      State.bay_congr ((congrArg State.power hframe).trans rfl) d
    exact ⟨t, congrArg Host.Outcome.next hcommand, (hbays b).trans (State.bay_setBay_same _ _ _),
      fun d hd => (hbays d).trans (State.bay_setBay_other _ _ hd), hanswers, by rw [hframe]; rfl⟩
  · obtain ⟨t, hcommand, hanswers, hframe⟩ := htakes.actsQuietly (target := s.reloaded b) htakes.settled fun x =>
      (hask _).trans (State.askPowerOn_powered (s := s.setLinks x) hpowered)
    have hbays (d : Bay) : t.bay d = (s.reloaded b).bay d := State.bay_congr ((congrArg State.power hframe).trans rfl) d
    exact ⟨t, congrArg Host.Outcome.next hcommand, (hbays b).trans (State.bay_setBay_same _ _ _),
      fun d hd => (hbays d).trans (State.bay_setBay_other _ _ hd), hanswers, by rw [hframe]; rfl⟩

/-! ## POWER_BAY off (R124) -/

section
variable {s : State} {b : Bay}

theorem State.inRole_eq_false : s.inRole b = false ↔ s.NoRole b := by
  simp [State.inRole, State.NoRole, and_assoc]

theorem State.askPowerOff_busy (h : ¬s.NoRole b) : s.askPowerOff b = (s, .nak .busy) :=
  if_pos (Bool.not_eq_false _ ▸ fun hfalse => h (State.inRole_eq_false.1 hfalse))

theorem State.askPowerOff_noRole (h : s.NoRole b) : s.askPowerOff b =
    if (s.feeder b).state ≠ .idle then (s, .nak .state) else (s.powerOff b, .ack []) :=
  if_neg (by rw [State.inRole_eq_false.2 h]; exact Bool.false_ne_true)

theorem State.askPowerOff_idle (h : s.NoRole b) (hidle : (s.feeder b).state = .idle) :
    s.askPowerOff b = (s.powerOff b, .ack []) := (State.askPowerOff_noRole h).trans (if_neg (not_not.2 hidle))

theorem State.powerOff_powered (h : (s.bay b).state.powered = true) : s.powerOff b = s.cutPower b .cooling := by
  unfold State.powerOff
  cases hstate : (s.bay b).state <;> rw [hstate] at h
  all_goals exact absurd h Bool.false_ne_true

theorem State.powerOff_cooling (h : (s.bay b).state = .cooling) : s.powerOff b = s.dropDeferred b := by
  unfold State.powerOff
  rw [h]

theorem State.powerOff_out (h : (s.bay b).state = .off ∨ (s.bay b).state = .tripped ∨ (s.bay b).state = .faulted
    ∨ (s.bay b).state = .disabled) : s.powerOff b = s := by
  unfold State.powerOff
  rcases h with h | h | h | h <;> rw [h]

theorem State.NoRole.congr {u : State} (h : s.NoRole b) (hstage : u.stage = s.stage) : u.NoRole b := by
  obtain ⟨hactive, horigin, htarget⟩ := h
  exact ⟨(State.isActive_congr hstage b).trans hactive, (State.isOrigin_congr hstage b).trans horigin,
    (State.isTarget_congr hstage b).trans htarget⟩

/-- What a cut of a bay without units, charge and picture leaves, if no stage names it active. -/
theorem State.cutPower_noRole (hpowered : (s.bay b).state.powered = true) (hfree : s.Uninvolved b)
    (hactive : s.isActive b = false) (into : PowerState) :
    s.cutPower b into = { s.enterCut b into with
      filters := s.filters.set b s.filters[b].cut, checkers := s.checkers.set b (s.checker b).cut } := by
  have hcut := State.cutPower_uninvolved hpowered hfree into
  rw [show s.unrouted b = s.routing from if_neg (by rw [hactive]; exact Bool.false_ne_true)] at hcut
  exact hcut

end

theorem powerOffCutsIdleBay : Claims.PowerOffCutsIdleBay := by
  intro s l bay i r htakes
  refine ⟨fun hrange => ?_, fun b hbay => ?_⟩
  · exact htakes.refuses rfl rfl fun _ => State.askPower_range hrange _
  have hask (v : State) : v.perform l r = v.askPowerOff b := State.askPower_off hbay
  have hstage (x : LinkState) : (s.setLink l x).stage = s.stage := by cases l <;> rfl
  refine ⟨fun hrole => ?_, fun hrole hbusy => ?_, fun hrole hidle => ⟨fun hpowered hgate hsource => ?_, fun hcool => ?_,
    fun hout => ?_⟩⟩
  · exact htakes.refuses rfl rfl fun x =>
      (hask _).trans (State.askPowerOff_busy fun h => hrole (h.congr (hstage x).symm))
  · exact htakes.refuses rfl rfl fun x => (hask _).trans
      ((State.askPowerOff_noRole (hrole.congr (hstage x))).trans (if_pos (by rw [State.setLink_feeder]; exact hbusy)))
  · obtain ⟨hactive, _, _⟩ := id hrole
    have hcut := State.cutPower_noRole hpowered ⟨hidle, hgate, hsource⟩ hactive .cooling
    have hsame (x : Links) : (s.setLinks x).cutPower b .cooling = (s.cutPower b .cooling).setLinks x :=
      (State.cutPower_noRole (s := s.setLinks x) hpowered ⟨hidle, hgate, hsource⟩ hactive .cooling).trans
        (congrArg (State.setLinks · x) hcut).symm
    have hsettled : (s.cutPower b .cooling).Settled := by
      rw [hcut]
      exact htakes.settled
    obtain ⟨t, hcommand, hanswers, hframe⟩ := htakes.actsQuietly hsettled fun x =>
      (hask _).trans ((State.askPowerOff_idle (s := s.setLinks x) hrole hidle).trans
        (congrArg (·, Answer.ack []) ((State.powerOff_powered (s := s.setLinks x) hpowered).trans (hsame x))))
    obtain ⟨u, hu⟩ : ∃ u, u = s.cutPower b .cooling := ⟨_, rfl⟩
    have hlost := State.losesPower_cutPower (into := .cooling) hpowered
    rw [← hu] at hframe hcut hlost
    have hpower : t.power = u.power := by rw [hframe]
    have hbays (d : Bay) := (State.bay_congr hpower d).trans (hlost.bays d)
    refine ⟨t, congrArg Host.Outcome.next hcommand, (hbays b).trans (if_pos rfl), fun d hd => (hbays d).trans (if_neg hd),
      hanswers, by rw [hpower]; exact hlost.power, ?_⟩
    rw [hframe, hcut]
    rfl
  · obtain ⟨t, hcommand, hanswers, hframe⟩ := htakes.actsQuietly (target := s.dropDeferred b) htakes.settled fun x =>
      (hask _).trans ((State.askPowerOff_idle (s := s.setLinks x) hrole hidle).trans
        (congrArg (·, Answer.ack []) (State.powerOff_cooling (s := s.setLinks x) hcool)))
    have hbays (d : Bay) : t.bay d = (s.dropDeferred b).bay d :=
      State.bay_congr ((congrArg State.power hframe).trans rfl) d
    exact ⟨t, congrArg Host.Outcome.next hcommand, (hbays b).trans (State.bay_setBay_same _ _ _),
      fun d hd => (hbays d).trans (State.bay_setBay_other _ _ hd), hanswers, by rw [hframe]; rfl⟩
  · exact htakes.reads rfl fun x => (hask _).trans
      ((State.askPowerOff_idle (hrole.congr (hstage x)) (by rw [State.setLink_feeder]; exact hidle)).trans
        (congrArg (·, Answer.ack []) (State.powerOff_out (by rw [State.setLink_bay]; exact hout))))

/-! ## Evictions, at the power records alone (R121, R122) -/

/-- Bays cut one after another, as the power records have it. -/
structure State.PowersDown (s t : State) (ks : List Bay) : Prop where
  bays : ∀ d : Bay, t.bay d = if d ∈ ks then (s.bay d).cooled else s.bay d
  warm : t.power.warm = s.power.warm.filter fun k => decide (k ∉ ks)
  tables : t.tables = s.tables
  pins : t.pins = s.pins

theorem State.powersDown_nil (s : State) : s.PowersDown s [] where
  bays _ := (if_neg List.not_mem_nil).symm
  warm := by simp
  tables := rfl
  pins := rfl

theorem State.evict_powersDown (s : State) (b k : Bay) : s.PowersDown (s.evict b k) [k] where
  bays d := by
    by_cases hd : d = k
    · rw [if_pos (List.mem_singleton.2 hd), hd]
      exact State.cutPower_bay_same s k .cooling
    · rw [if_neg fun h => hd (List.mem_singleton.1 h)]
      exact State.cutPower_bay_other s k .cooling hd
  warm := by
    simp only [List.mem_singleton]
    exact State.cutPower_warm s k .cooling
  tables := State.cutPower_tables s k .cooling
  pins := State.cutPower_pins s k .cooling

theorem State.PowersDown.cons {s t u : State} {k : Bay} {ks : List Bay} (h : s.PowersDown t [k]) (g : t.PowersDown u ks)
    (hk : k ∉ ks) : s.PowersDown u (k :: ks) where
  bays d := by
    rw [g.bays, h.bays]
    by_cases hd : d = k
    · rw [hd, if_neg hk, if_pos (List.mem_singleton.2 rfl), if_pos List.mem_cons_self]
    · rw [if_neg fun hmem => hd (List.mem_singleton.1 hmem)]
      simp only [List.mem_cons, hd, false_or]
  warm := by
    rw [g.warm, h.warm, List.filter_filter]
    refine List.filter_congr fun x _ => ?_
    rw [Bool.eq_iff_iff, Bool.and_eq_true]
    simp only [List.mem_cons, List.not_mem_nil, or_false, not_or, decide_eq_true_iff]
    exact and_comm
  tables := g.tables.trans h.tables
  pins := g.pins.trans h.pins

theorem State.evictFor_powersDown (b : Bay) (ks : List Bay) (hks : ks.Nodup) (s : State) (excess : Nat) :
    s.PowersDown (s.evictFor b ks excess) (ks.take (evictedCount s.load ks excess)) := by
  induction ks generalizing s excess with
  | nil => exact s.powersDown_nil
  | cons k rest ih =>
    cases excess with
    | zero => exact s.powersDown_nil
    | succ excess =>
      obtain ⟨hk, hrest⟩ := List.nodup_cons.1 hks
      have hfirst := s.evict_powersDown b k
      have hload : (s.evict b k).load = s.load := funext fun d => State.load_congr hfirst.tables d
      have hnext := ih hrest (s.evict b k) (excess + 1 - s.load k)
      rw [hload] at hnext
      exact hfirst.cons hnext fun hmem => hk (List.mem_of_mem_take hmem)

theorem State.WarmOk.not_candidate {s : State} {b : Bay} (h : s.WarmOk) (hoff : (s.bay b).state = .off) :
    b ∉ s.candidates := fun hmem => by
  obtain ⟨_, hwarm⟩ := h
  obtain ⟨hrun, _⟩ := hwarm b (List.mem_of_mem_filter hmem)
  rw [(s.isRunning_iff b).1 hrun] at hoff
  exact absurd hoff nofun

theorem handoverPowerEvictsFromHead : Claims.HandoverPowerEvictsFromHead := by
  intro s b hoff hclear hwarm excess loads t
  have ht : t = s.judgeHandover b := State.powerRequest_off hoff
  refine ⟨fun hfew => ht.trans (State.judgeHandover_refused hfew), fun hroom => ?_⟩
  obtain ⟨hnodup, _⟩ := id hwarm
  let n := evictedCount s.load s.candidates excess
  let v := s.evictFor b s.candidates excess
  have hv : s.PowersDown v (s.candidates.take n) := State.evictFor_powersDown b s.candidates (hnodup.filter _) s excess
  have hstart : t = (v.setBay b { v.bay b with
      state := .starting, timer := some (Timer.start (v.profile b).general.resetHold) }).setChecker b Checker.seek :=
    ht.trans ((State.judgeHandover_room hroom).trans (State.enterStarting_clear (s := v) (by rw [hv.pins]; exact hclear)))
  have hsame : t.bay b = { v.bay b with
      state := .starting, timer := some (Timer.start (v.profile b).general.resetHold) } := by
    rw [hstart]
    exact State.bay_setBay_same v b _
  have hother (d : Bay) (hd : d ≠ b) : t.bay d = if d ∈ s.candidates.take n then (s.bay d).cooled else s.bay d := by
    rw [← hv.bays d, hstart]
    exact State.bay_setBay_other v _ hd
  refine ⟨n, evictedCount_enough s.load s.candidates excess hroom,
    fun m hm => evictedCount_least s.load s.candidates excess m hm, by rw [hsame], fun k hk => ?_, fun k hk hnot => ?_, ?_⟩
  · have hne : k ≠ b := fun e => hwarm.not_candidate hoff (e ▸ List.mem_of_mem_take hk)
    rw [hother k hne, if_pos hk]
    rfl
  · rw [hother k hk, if_neg hnot]
  · rw [hstart]
    exact hv.warm

/-- Settles O45: POWER_BAY on by the bay's state, POWER_BAY off by its role and feeder, and the evictions of a handover's own
request read off the power records. -/
theorem powerRequestsAct : Obligations.PowerRequestsAct := ⟨powerOnPreheats, powerOffCutsIdleBay, handoverPowerEvictsFromHead⟩

end Sys2Proof.Machine
end

section
/-! The ends of the reset hold and of COOLING (R49, R117, R119 to R122, R135, R157 to R161, R167). -/

namespace Sys2Proof.Machine

/-! ## A target that is READY or fails, once its report is taken (R135, R158, R167) -/

section
variable {s v : State} {b : Bay} {h : HandoverRecord} {why : FailReason}

theorem State.report_drain (hs : s.Settled) {r : Report} (hwait : s.mayWait r = false) :
    (s.report r).drain = (s.takeReport r).drainWith 63 := by
  rw [State.drain_of_late_none (s := s.report r) hs.2]
  exact State.report_drainWith hs.1 hwait 63

/-- A target in POWER that enters RUNNING begins CLASS. -/
theorem State.runningJoins_power (hs : v.Settled) (hstage : v.stage = .handover h) (htarget : h.target = .bay b)
    (hphase : h.phase = .power) (hrun : (v.bay b).state = .running) (hplain : v.PlainClass v.monitor h) :
    (v.runningJoins b).drain = v.classBegun h := by
  have hshown : v.cutSource h.target = h.target.source := by
    rw [htarget, State.cutSource_bay]
    exact if_pos hrun
  rw [State.runningJoins_target ((State.isTarget_handover hstage b).trans (decide_eq_true htarget)),
    State.report_drain hs rfl]
  exact (congrArg (State.drainWith · 63) (State.ready_power hstage hphase htarget)).trans
    (State.startClass_drains hs.1 hplain hshown 61)

/-- A target in another phase that enters RUNNING leaves the handover as it is. -/
theorem State.runningJoins_waits (hs : v.Settled) (hstage : v.stage = .handover h) (htarget : h.target = .bay b)
    (hphase : h.phase = .release ∨ h.phase = .quiet) : (v.runningJoins b).drain = v := by
  have hnot : h.phase ≠ .power := by rcases hphase with h' | h' <;> rw [h'] <;> exact nofun
  rw [State.runningJoins_target ((State.isTarget_handover hstage b).trans (decide_eq_true htarget)),
    State.report_drain hs rfl]
  exact (congrArg (State.drainWith · 63) (State.ready_other hstage hnot)).trans (hs.drainWith 63)

theorem State.targetFailed_release (hstage : v.stage = .handover h) (htarget : h.target = .bay b)
    (hphase : h.phase = .release) : v.targetFailed b why =
      (v.setRecord (h.failed b why)).notify (.handoverFailed b why h.origin) := by
  have hturn : v.targetFailed b why = v.turnToMenu h b why := by
    unfold State.targetFailed
    rw [hstage]
    exact (if_pos htarget).trans (if_neg (by rw [hphase]; exact nofun))
  have hphase' : (h.failed b why).phase = .release := hphase
  rw [hturn]
  show State.redirect _ (h.failed b why) = _
  unfold State.redirect
  rw [hphase']
  rfl

/-- The failure of a target in RELEASE or POWER. -/
theorem State.targetFailed_turnsToMenu (hs : v.reports = []) (hstage : v.stage = .handover h) (htarget : h.target = .bay b)
    (hphase : h.phase = .power ∨ h.phase = .release) (hplain : h.phase = .power → s.PlainClass v.monitor (h.failed b why))
    (htables : v.tables = s.tables) (hpanel : v.panel = s.panel) (hrouting : v.routing = s.routing) (n : Nat) :
    ∃ t, (v.targetFailed b why).drainWith (n + 2) = t ∧ s.TurnsToMenu t v.monitor h b why
      ∧ v.Tells t [.handoverFailed b why h.origin]
      ∧ t = { v with stage := t.stage, monitor := t.monitor, routing := t.routing, links := t.links } := by
  let u := (v.setRecord (h.failed b why)).notify (.handoverFailed b why h.origin)
  have htells : v.Tells u [.handoverFailed b why h.origin] :=
    fun l => State.link_notify (v.setRecord (h.failed b why)) _ l
  rcases hphase with hpower | hrelease
  · have hdrain : (v.targetFailed b why).drainWith (n + 2) = u.classBegun (h.failed b why) :=
      State.targetFailed_power hs hstage hpower htarget why
        ((hplain hpower).congr htables hpanel) n
    exact ⟨u.classBegun (h.failed b why), hdrain, ⟨fun hrelease => absurd (hpower.symm.trans hrelease) nofun,
      fun _ => State.classBegun_begins htables hrouting rfl⟩, htells, rfl⟩
  · have hdrain : (v.targetFailed b why).drainWith (n + 2) = u := by
      rw [State.targetFailed_release hstage htarget hrelease]
      exact State.drainWith_nil (s := u) hs (n + 2)
    exact ⟨u, hdrain, ⟨fun _ => ⟨rfl, rfl, hrouting⟩, fun hpower => absurd (hrelease.symm.trans hpower) nofun⟩, htells, rfl⟩

/-- The same once its report is taken. -/
theorem State.failed_turnsToMenu (hs : v.Settled) (hstage : v.stage = .handover h) (htarget : h.target = .bay b)
    (hphase : h.phase = .power ∨ h.phase = .release) (hplain : h.phase = .power → s.PlainClass v.monitor (h.failed b why))
    (htables : v.tables = s.tables) (hpanel : v.panel = s.panel) (hrouting : v.routing = s.routing) :
    ∃ t, (v.report (.failed b why)).drain = t ∧ s.TurnsToMenu t v.monitor h b why
      ∧ v.Tells t [.handoverFailed b why h.origin]
      ∧ t = { v with stage := t.stage, monitor := t.monitor, routing := t.routing, links := t.links } := by
  have hnot : h.phase ≠ .classChange := by rcases hphase with h' | h' <;> rw [h'] <;> exact nofun
  rw [State.report_drain hs (State.mayWait_failed hstage hnot why)]
  exact State.targetFailed_turnsToMenu hs.1 hstage htarget hphase hplain htables hpanel hrouting 61

end

/-! ## The reset hold's end (R117) -/

section
variable {s : State} {b : Bay}

/-- A bay that has entered BOOTING, its filters sampled. -/
def State.held (s : State) (b : Bay) : State :=
  (s.setBay b { s.bay b with
    state := .booting, timer := some (Timer.start (1000 * (s.profile b).general.bootLimit)) }).setBayFilters b
      (s.sampledFilters b)

/-- The filters of a bay sampled, and those of the others as they were. -/
structure State.Samples (s t : State) (b : Bay) : Prop where
  sampled : ∀ m, t.filter b m = if s.meterActive b m then .waitRelease else .ready
  others : ∀ d, d ≠ b → ∀ m, t.filter d m = s.filter d m

theorem State.samples {t : State} (h : t.filters = s.filters.set b (s.sampledFilters b)) : s.Samples t b where
  sampled m := by
    have hget : t.filters[b] = s.sampledFilters b := by
      rw [h]
      exact Vector.getElem_set_self b.isLt
    cases m
    · exact congrArg BayFilters.one hget
    · exact congrArg BayFilters.two hget
  others d hd m := by
    have hget : t.filters[d] = s.filters[d] := by
      rw [h]
      exact Vector.getElem_set_ne b.isLt d.isLt fun e => hd (Fin.ext e.symm)
    cases m
    · exact congrArg BayFilters.one hget
    · exact congrArg BayFilters.two hget

theorem exec_resetHoldExpiry (h : (s.bay b).state = .starting) : exec (.resetHoldExpiry b) s =
    .next (if (s.checker b).state = .locked then ((s.held b).ran b).runningJoins b else s.held b).drain :=
  congrArg Host.Outcome.next (if_pos h)

/-- The reset hold's end of a LOCKED bay, but for what its role brings. -/
structure State.HoldRuns (s v : State) (b : Bay) : Prop where
  running : s.StartsRunning v b
  samples : s.Samples v b
  frame : v = { s with power := { s.power with bays := v.power.bays }, filters := v.filters, links := v.links }

theorem State.holdRuns (s : State) (b : Bay) : s.HoldRuns ((s.held b).ran b) b := by
  have hheld : (s.held b).bay b = { s.bay b with
      state := .booting, timer := some (Timer.start (1000 * (s.profile b).general.bootLimit)) } :=
    State.bay_setBay_same s b _
  have hother (d : Bay) (hd : d ≠ b) : (s.held b).bay d = s.bay d := State.bay_setBay_other s _ hd
  obtain ⟨hbays, htells⟩ := State.startsRunning_ran (s := s.held b) (u := s.held b) (b := b) rfl rfl
  refine ⟨⟨fun d => ?_, fun l => ?_⟩, State.samples rfl, rfl⟩
  · rw [hbays, hheld]
    split
    next => rfl
    next hd => exact hother d hd
  · rw [htells, hheld]
    rfl

theorem exec_resetHoldExpiry_locked (h : (s.bay b).state = .starting) (hlock : (s.checker b).state = .locked) :
    ∃ v, exec (.resetHoldExpiry b) s = .next (v.runningJoins b).drain ∧ s.HoldRuns v b := by
  refine ⟨_, ?_, s.holdRuns b⟩
  rw [exec_resetHoldExpiry h, if_pos hlock]

end

theorem resetHoldEndBoots : Claims.ResetHoldEndBoots := by
  intro s b hs hstart
  refine ⟨fun hunlocked => ?_, fun hlock hrole => ?_⟩
  · have hsamples : s.Samples (s.held b) b := State.samples rfl
    refine ⟨s.held b, ?_, State.bay_setBay_same s b _, fun d hd => State.bay_setBay_other s _ hd, rfl, hsamples.sampled,
      hsamples.others, rfl⟩
    rw [exec_resetHoldExpiry hstart, if_neg hunlocked]
    exact congrArg Host.Outcome.next (State.drain_settled (s.held b) hs)
  · obtain ⟨v, hexec, hv⟩ := exec_resetHoldExpiry_locked hstart hlock
    have hframe := hv.frame
    have hstage : v.stage = s.stage := by rw [hframe]
    have hsettled : (v.setWarm (b :: v.power.warm)).Settled := by
      rw [hframe]
      exact hs
    rw [State.runningJoins_warm (hrole.congr hstage), State.drain_settled _ hsettled] at hexec
    refine ⟨_, hexec, (hv.running.bays b).trans (if_pos rfl), fun d hd => (hv.running.bays d).trans (if_neg hd), ?_,
      hv.samples.sampled, hv.running.tells, ?_⟩
    · rw [hframe]
      rfl
    · rw [hframe]
      rfl

theorem resetHoldStartsBayInRole : Claims.ResetHoldStartsBayInRole := by
  intro s b hs hstart hlock samples starts
  obtain ⟨v, hexec, hv⟩ := exec_resetHoldExpiry_locked hstart hlock
  have hframe := hv.frame
  have hstage : v.stage = s.stage := by rw [hframe]
  have htables : v.tables = s.tables := by rw [hframe]
  have hpanel : v.panel = s.panel := by rw [hframe]
  have hmonitor : v.monitor = s.monitor := by rw [hframe]
  have hrouting : v.routing = s.routing := by rw [hframe]
  have hset : v.Settled := by
    rw [hframe]
    exact hs
  have hrun : (v.bay b).state = .running := congrArg BayPower.state ((hv.running.bays b).trans (if_pos rfl))
  have hstands (hjoins : (v.runningJoins b).drain = v) : ∃ t, starts t
      ∧ t = { s with power := { s.power with bays := t.power.bays }, filters := t.filters, links := t.links } :=
    ⟨v, ⟨hexec.trans (congrArg _ hjoins), hv.running, hv.samples.sampled, hv.samples.others⟩, hframe⟩
  refine ⟨fun h hhand htarget => ⟨fun hphase hplain => ?_, fun hphase => ?_⟩, fun hrole htarget => ?_⟩
  · rw [State.runningJoins_power hset (hstage.trans hhand) htarget hphase hrun
      (hmonitor ▸ hplain.congr htables hpanel)] at hexec
    exact ⟨v.classBegun h, ⟨hexec, ⟨hv.running.bays, hv.running.tells⟩, hv.samples.sampled, hv.samples.others⟩,
      State.classBegun_begins htables hrouting hmonitor, congrArg (fun u : State => { u with
        stage := (v.classBegun h).stage, monitor := (v.classBegun h).monitor, routing := (v.classBegun h).routing }) hframe⟩
  · exact hstands (State.runningJoins_waits hset (hstage.trans hhand) htarget hphase)
  · refine hstands ?_
    rw [State.runningJoins_role ((State.isTarget_congr hstage b).trans htarget), State.drain_settled v hset]
    rwa [State.isActive_congr hstage, State.isOrigin_congr hstage]

/-! ## The end of COOLING (R119) -/

section
variable {s : State} {b : Bay}

/-- A bay in OFF behind its COOLING. -/
def State.cold (s : State) (b : Bay) : State := s.setBay b { s.bay b with state := .off, deferred := none, timer := none }

theorem State.cold_bay_same (s : State) (b : Bay) :
    (s.cold b).bay b = { s.bay b with state := .off, deferred := none, timer := none } := State.bay_setBay_same s b _

theorem State.cold_bay_other (s : State) {b d : Bay} (h : d ≠ b) : (s.cold b).bay d = s.bay d :=
  State.bay_setBay_other s _ h

theorem State.committedLoad_congr {t : State} (htables : t.tables = s.tables)
    (h : ∀ d : Bay, (t.bay d).state.powered = (s.bay d).state.powered) : t.committedLoad = s.committedLoad :=
  congrArg List.sum (List.map_congr_left fun d _ => by
    unfold State.committedBy
    rw [h d, State.load_congr htables d])

theorem State.cold_committedLoad (h : (s.bay b).state = .cooling) : (s.cold b).committedLoad = s.committedLoad :=
  State.committedLoad_congr rfl fun d => by
    by_cases hd : d = b
    · rw [hd, s.cold_bay_same b, h]
      rfl
    · rw [s.cold_bay_other hd]

theorem exec_coolingExpiry (h : (s.bay b).state = .cooling) : exec (.coolingExpiry b) s = .next (s.coolingEnds b).drain :=
  congrArg Host.Outcome.next (if_pos h)

theorem State.coolingEnds_none (h : (s.bay b).deferred = none) : s.coolingEnds b = s.cold b := by
  unfold State.coolingEnds
  dsimp only
  rw [h]
  rfl

theorem State.coolingEnds_judged {k : Deferred} (h : (s.bay b).deferred = some k) (hk : k ≠ .handover) :
    s.coolingEnds b = (s.cold b).judgeDeferred b k := by
  unfold State.coolingEnds
  dsimp only
  rw [h]
  cases k with
  | handover => exact absurd rfl hk
  | preheat => rfl
  | recovery => rfl

theorem State.coolingEnds_handover (h : (s.bay b).deferred = some .handover) :
    s.coolingEnds b = (s.cold b).judgeHandover b := by
  unfold State.coolingEnds
  dsimp only
  rw [h]
  rfl

end

theorem coolingEndJudgesDeferred : Claims.CoolingEndJudgesDeferred := by
  intro s b hs hcool hclear
  have hexec := exec_coolingExpiry hcool
  refine ⟨fun hnone => ?_, fun k hk hnot => ⟨fun hfits => ?_, fun hover => ?_⟩⟩
  · rw [State.coolingEnds_none hnone, State.drain_settled (s.cold b) hs] at hexec
    have hsame : (s.cold b).bay b = { s.bay b with state := .off, timer := none } := by
      rw [s.cold_bay_same b]
      dsimp only
      rw [hnone]
    exact ⟨_, hexec, hsame, fun d hd => s.cold_bay_other hd, rfl⟩
  · let t := ((s.cold b).setBay b { (s.cold b).bay b with
      state := .starting, timer := some (Timer.start (s.profile b).general.resetHold) }).setChecker b Checker.seek
    have hfits' : (s.cold b).fits b = true := by
      unfold State.fits
      rw [State.cold_committedLoad hcool]
      exact decide_eq_true hfits
    have hstart : (s.cold b).judgeDeferred b k = t := (if_pos hfits').trans (State.enterStarting_clear (s := s.cold b) hclear)
    rw [State.coolingEnds_judged hk hnot, hstart, State.drain_settled t hs] at hexec
    have hchecker : t.checker b = Checker.seek := State.checker_setChecker_same _ b _
    refine ⟨t, hexec, ?_, fun d hd => (State.bay_setBay_other (s.cold b) _ hd).trans (s.cold_bay_other hd), ?_, ?_, rfl⟩
    · refine (State.bay_setBay_same (s.cold b) b _).trans ?_
      rw [s.cold_bay_same b]
      rfl
    · rw [hchecker]
      rfl
    · rw [hchecker]
      rfl
  · have hunfit : ¬(s.cold b).fits b = true := by
      unfold State.fits
      rw [State.cold_committedLoad hcool]
      exact fun h => absurd (of_decide_eq_true h) (Nat.not_le.2 hover)
    have hrefused : (s.cold b).judgeDeferred b k = (s.cold b).notifyBay (.refused k) b := if_neg hunfit
    rw [State.coolingEnds_judged hk hnot, hrefused, State.drain_settled ((s.cold b).notifyBay (.refused k) b) hs] at hexec
    exact ⟨_, hexec, s.cold_bay_same b, fun d hd => s.cold_bay_other hd,
      State.notifyBay_tells (u := s.cold b) rfl (s.cold_bay_same b) rfl, rfl⟩

/-! ## COOLING that ends with HANDOVER deferred (R119, R121, R122) -/

section
variable {s : State} {b : Bay}

theorem State.cold_excess (h : (s.bay b).state = .cooling) : (s.cold b).excess b = s.excess b := by
  unfold State.excess
  rw [State.cold_committedLoad h]
  rfl

theorem State.PlainCandidates.cold (h : s.PlainCandidates) (hcool : (s.bay b).state = .cooling) :
    (s.cold b).PlainCandidates := by
  obtain ⟨⟨hnodup, hwarm⟩, hplain⟩ := h
  refine ⟨⟨hnodup, fun k hk => ?_⟩, hplain⟩
  obtain ⟨hrun, hroles⟩ := hwarm k hk
  have hne : k ≠ b := by
    rintro rfl
    exact absurd (((s.isRunning_iff k).1 hrun).symm.trans hcool) nofun
  refine ⟨?_, hroles⟩
  rw [State.isRunning_iff, s.cold_bay_other hne]
  exact (s.isRunning_iff k).1 hrun

theorem State.StartsBehind.of_cold {t : State} {n : Nat} (h : (s.cold b).StartsBehind t b n)
    (hcool : (s.bay b).state = .cooling) (hplain : s.PlainCandidates) : s.StartsBehind t b n := by
  have hne (k : Bay) (hk : k ∈ s.candidates.take n) : k ≠ b := by
    rintro rfl
    have hpowered := (State.WarmOk.evictable hplain (List.mem_of_mem_take hk)).powered
    rw [hcool] at hpowered
    exact absurd hpowered Bool.false_ne_true
  have hexcess := State.cold_excess hcool
  have henough := h.enough
  rw [hexcess] at henough
  exact
    { enough := henough
      least := fun m hm => by
        have hleast := h.least m hm
        rw [hexcess] at hleast
        exact hleast
      bays := fun d => by
        rw [h.bays d]
        by_cases hd : d = b
        · rw [if_pos hd, if_pos hd, State.started, s.cold_bay_same b]
          rfl
        · rw [if_neg hd, if_neg hd, s.cold_bay_other hd]
          rfl
      power := h.power
      checker := h.checker
      dark := h.dark
      tells := by
        have hnotices : (s.candidates.take n).map (fun k => Notice.bay (.evicted b) k .cooling ((s.cold b).bay k).attempts none)
            = (s.candidates.take n).map fun k => Notice.bay (.evicted b) k .cooling (s.bay k).attempts none :=
          List.map_congr_left fun k hk => by rw [s.cold_bay_other (hne k hk)]
        rw [← hnotices]
        exact h.tells }

end

theorem coolingEndJudgesHandover : Claims.CoolingEndJudgesHandover := by
  intro s b hs hcool hdeferred
  have hexec := exec_coolingExpiry hcool
  rw [State.coolingEnds_handover hdeferred] at hexec
  refine ⟨fun hroom hclear hplain => ?_, fun hfew => ?_⟩
  · have hoff : ((s.cold b).bay b).state = .off := by rw [s.cold_bay_same b]
    have hnone : ((s.cold b).bay b).deferred = none := by rw [s.cold_bay_same b]
    obtain ⟨n, hstarts, hframe⟩ := State.judgeHandover_startsBehind hoff hnone
      (by rw [State.cold_excess hcool]; exact hroom) hclear (hplain.cold hcool)
    obtain ⟨t, ht⟩ : ∃ t, t = (s.cold b).judgeHandover b := ⟨_, rfl⟩
    rw [← ht] at hstarts hframe hexec
    have hsettled : t.Settled := by
      rw [hframe]
      exact hs
    rw [State.drain_settled t hsettled] at hexec
    exact ⟨t, n, hexec, hstarts.of_cold hcool hplain, hframe⟩
  · intro off
    have hrefused : (s.cold b).judgeHandover b = (s.cold b).report (.failed b .budget) :=
      State.judgeHandover_refused (by rw [State.cold_excess hcool]; exact hfew)
    rw [hrefused] at hexec
    have hbays : (s.cold b).BaysAre fun d => if d = b then off else s.bay d := fun d => by
      show _ = if d = b then off else s.bay d
      split
      next hd => rw [hd, s.cold_bay_same b]
      next hd => exact s.cold_bay_other hd
    refine ⟨fun hnot => ?_, fun h hstage htarget hphase hplain => ?_⟩
    · refine ⟨s.cold b, ?_, hbays, rfl⟩
      have hstays : (s.cold b).mayWait (.failed b .budget) = false ∧ (s.cold b).targetFailed b .budget = s.cold b := by
        show (s.cold b).isCutTarget b = false ∧ _
        unfold State.isCutTarget State.targetFailed
        cases hstage : (s.cold b).stage with
        | menu => exact ⟨rfl, rfl⟩
        | play k => exact ⟨rfl, rfl⟩
        | handover r =>
          have hother : r.target ≠ .bay b := by
            rw [State.isTarget_handover (s := s) hstage b] at hnot
            exact of_decide_eq_false hnot
          exact ⟨by simp [hother], if_neg hother⟩
      rw [hexec, State.report_drain (s := s.cold b) hs hstays.1]
      exact congrArg Host.Outcome.next ((congrArg (State.drainWith · 63) hstays.2).trans
        (State.drainWith_nil (s := s.cold b) hs.1 63))
    · obtain ⟨t, hdrain, hturns, htells, hframe⟩ := State.failed_turnsToMenu (s := s) (v := s.cold b) (why := .budget) hs hstage
        htarget hphase hplain rfl rfl rfl
      rw [hdrain] at hexec
      have hpower : t.power = (s.cold b).power := by rw [hframe]
      exact ⟨t, hexec, fun d => (State.bay_congr hpower d).trans (hbays d), hturns, htells, by rw [hframe]; rfl⟩

/-- Settles O43: the reset hold's end is BOOTING and, for a LOCKED checker, the entry to RUNNING in the bay's role; the end
of COOLING is OFF with its deferred request judged from there. -/
theorem bayTimersEnd : Obligations.BayTimersEnd :=
  ⟨resetHoldEndBoots, resetHoldStartsBayInRole, coolingEndJudgesDeferred, coolingEndJudgesHandover⟩

end Sys2Proof.Machine
end

section
/-! What a power loss leaves at the gate and at the feeder of its bay (R39, R45, R73 to R76, R118, R151). -/

namespace Sys2Proof.Machine

/-! ## The gate and the next-unit counters in the work of the credit blocks (R26, R67, R74, R75) -/

/-- The credit blocks' work for a bay, behind a power loss or a RELEASE: it keeps the next-unit counters, the units of the
other feeders and an IDLE feeder IDLE, gives the gate no bay that it did not name, and reports no more than that the bay's
feeder has become IDLE. -/
structure State.Departs (s t : State) (b : Bay) : Prop where
  nextUnit : ∀ d : Bay, (t.feeder d).nextUnit = (s.feeder d).nextUnit
  gate : t.gate.bay = none ∨ t.gate.bay = s.gate.bay
  power : t.power = s.power
  others : s.KeepsUnits t b
  stays : (s.feeder b).state = .idle → (t.feeder b).state = .idle
  told : t.reports = s.reports
    ∨ (s.feeder b).state ≠ .idle ∧ (t.feeder b).state = .idle ∧ t.reports = s.reports ++ [.feederIdle b]

namespace State.Departs

variable {s a t : State} {b : Bay}

theorem refl (s : State) : s.Departs s b := ⟨fun _ => rfl, .inr rfl, rfl, fun _ _ => rfl, id, .inl rfl⟩

theorem trans (h : s.Departs a b) (g : a.Departs t b) : s.Departs t b where
  nextUnit d := (g.nextUnit d).trans (h.nextUnit d)
  gate := g.gate.elim .inl fun hsame => by rw [hsame]; exact h.gate
  power := g.power.trans h.power
  others d hd := (g.others d hd).trans (h.others d hd)
  stays := g.stays ∘ h.stays
  told := by
    rcases h.told with hnone | ⟨hbusy, hidle, hone⟩
    · rcases g.told with hnone' | ⟨hbusy', hidle', hone'⟩
      · exact .inl (hnone'.trans hnone)
      · exact .inr ⟨fun hidle => hbusy' (h.stays hidle), hidle', by rw [hone', hnone]⟩
    · exact .inr ⟨hbusy, g.stays hidle, (g.told.resolve_right fun hagain => hagain.1 hidle).trans hone⟩

theorem still (hfeeders : t.feeders = s.feeders) (hgate : t.gate = s.gate) (hpower : t.power = s.power)
    (hreports : t.reports = s.reports) : s.Departs t b :=
  ⟨fun d => congrArg Feeder.nextUnit (State.feeder_congr hfeeders d), .inr (by rw [hgate]), hpower,
    fun d _ => congrArg Feeder.units (State.feeder_congr hfeeders d), fun h => by rwa [State.feeder_congr hfeeders],
    .inl hreports⟩

/-- A change of the gate alone, which gives it no bay. -/
theorem setGate {g : Gate} (hg : g.bay = none ∨ g.bay = s.gate.bay) : s.Departs (s.setGate g) b :=
  ⟨fun _ => rfl, hg, rfl, fun _ _ => rfl, id, .inl rfl⟩

theorem not_bay {d : Bay} (h : s.Departs t b) (hs : s.gate.bay ≠ some d) : t.gate.bay ≠ some d := by
  rcases h.gate with hnone | hsame
  · rw [hnone]; exact nofun
  · rwa [hsame]

section
variable (h : s.Departs a b)
include h

theorem putFeeder {f : Feeder} (hf : f.nextUnit = (a.feeder b).nextUnit) (hi : (a.feeder b).state = .idle → f.state = .idle) :
    s.Departs (a.putFeeder b f) b := by
  refine h.trans ?_
  have hsame : (a.setFeeder b f).feeder b = f := State.feeder_setFeeder_same _ _ _
  have hother (d : Bay) (hd : d ≠ b) : (a.setFeeder b f).feeder d = a.feeder d := State.feeder_setFeeder_other _ _ hd
  have hnext (d : Bay) : ((a.setFeeder b f).feeder d).nextUnit = (a.feeder d).nextUnit := by
    by_cases hd : d = b
    · rw [hd, hsame]
      exact hf
    · rw [hother d hd]
  have hunits : a.KeepsUnits (a.setFeeder b f) b := fun d hd => by rw [hother d hd]
  have hstays (hidle : (a.feeder b).state = .idle) : ((a.setFeeder b f).feeder b).state = .idle := by
    rw [hsame]
    exact hi hidle
  unfold State.putFeeder
  split
  next hboth => exact ⟨hnext, .inr rfl, rfl, hunits, hstays, .inr ⟨hboth.2, (congrArg Feeder.state hsame).trans hboth.1, rfl⟩⟩
  next => exact ⟨hnext, .inr rfl, rfl, hunits, hstays, .inl rfl⟩

theorem cutPulse {held : Option PulseId} : s.Departs (a.cutPulse held) b := by
  refine h.trans ?_
  cases held with
  | none => exact refl a
  | some u => cases u <;> exact still rfl rfl rfl rfl

theorem storeChanged {c n d} : s.Departs (a.storeChanged c n d) b := by
  refine h.trans ?_
  have hframe := a.storeChanged_frame c n d
  exact still (by rw [hframe]) (by rw [hframe]) (by rw [hframe]) (by rw [hframe])

theorem returnUnits {ns : List UnitNo} : s.Departs (a.returnUnits b ns) b := by
  unfold State.returnUnits
  split
  · exact h
  · have hset : s.Departs (a.setStore (a.store.giveBack b ns)) b := h.trans (still rfl rfl rfl rfl)
    exact hset.storeChanged

theorem returnQueued {goes : CoinUnit → Bool} : s.Departs (a.returnQueued b goes) b :=
  (h.putFeeder (f := { a.feeder b with queue := (a.feeder b).queue.filter fun k => !goes k }) rfl fun hidle => by
    rw [Feeder.idle_iff] at hidle ⊢
    exact ⟨hidle.1, by simp [hidle.2]⟩).returnUnits

theorem arbitrate : s.Departs a.arbitrate b := by
  have hgrants := a.grants_arbitrate
  have hframe := hgrants.frame
  exact h.trans ⟨hgrants.nextUnit, .inr (by rw [hframe]), State.arbitrate_power a, fun d _ => hgrants.units d,
    (State.Credits.refl a).arbitrate.stays b, .inl (by rw [hframe])⟩

/-- An abandonment of the gate's own charge. -/
theorem abandon {cause : AbandonCause} (hbay : a.gate.bay = some b) : s.Departs (a.abandon b cause) b := by
  refine h.trans ?_
  have hback := (refl (b := b) a).returnQueued (goes := fun k => decide (k.cause = .gate) && a.gate.units.contains k.number)
  obtain ⟨x, hx⟩ : ∃ x, x = a.returnQueued b fun k => decide (k.cause = .gate) && a.gate.units.contains k.number := ⟨_, rfl⟩
  have habandon : a.abandon b cause = (x.setGate (Gate.idleWith b (a.carryAfter b))).notify
      (.gateAbandoned b a.gate.switch cause a.gate.owed a.gate.confirmed (a.carryAfter b)) := by
    rw [hx]
    rfl
  rw [← hx] at hback
  have hleft : (Gate.idleWith b (a.carryAfter b)).bay = none ∨ (Gate.idleWith b (a.carryAfter b)).bay = a.gate.bay := by
    show (if a.carryAfter b = 0 then none else some b) = none ∨ _ = _
    split
    · exact .inl rfl
    next hcarry => exact .inr ((if_neg hcarry).trans hbay.symm)
  rw [habandon]
  exact ⟨hback.nextUnit, hleft, hback.power, hback.others, hback.stays, hback.told⟩

theorem complete (hbay : a.gate.bay = some b) : s.Departs (a.complete b) b := by
  unfold State.complete
  split
  · exact h.abandon hbay
  · split
    · exact h.abandon hbay
    · exact h.trans ((setGate (s := a) (g := (a.fire b).gate) (.inr rfl)).trans (still rfl rfl rfl rfl))

theorem handOutcome {k : CoinUnit} {o : GateOutcome} : s.Departs (a.handOutcome b k o) b := by
  unfold State.handOutcome State.gateOutcome
  split
  next =>
    split
    next howns =>
      obtain ⟨_, hbay, _⟩ := Gate.owns_iff.1 howns
      cases o with
      | confirmed =>
        have hcount : s.Departs (a.setGate (a.gate.counted k.number)) b := h.trans (setGate (.inr rfl))
        show s.Departs (if a.gate.confirmed + 1 = a.gate.owed then
          (a.setGate (a.gate.counted k.number)).complete b else a.setGate (a.gate.counted k.number)) b
        split
        · exact hcount.complete hbay
        · exact hcount
      | doubt => exact h.abandon hbay
      | returned => exact h.abandon hbay
      | voided => exact h
      | refunded => exact h
    next => exact h
  next => exact h

theorem handReturned {ks : List CoinUnit} : s.Departs (a.handReturned b ks) b := by
  unfold State.handReturned
  induction ks generalizing a with
  | nil => exact h
  | cons k ks ih => exact ih h.handOutcome

theorem confirmUnit {k : CoinUnit} : s.Departs (a.confirmUnit b k) b := by
  have hmoved : s.Departs ((a.retireTokens .spent b k.number).bump (confirmedIx b) 1) b := h.trans (still rfl rfl rfl rfl)
  unfold State.confirmUnit
  exact hmoved.storeChanged.handOutcome

theorem confirmUnits {ks : List CoinUnit} : s.Departs (ks.foldl (fun x k => x.confirmUnit b k) a) b := by
  induction ks generalizing a with
  | nil => exact h
  | cons k ks ih => exact ih h.confirmUnit

theorem feederPowerLoss : s.Departs (a.feederPowerLoss b) b := by
  unfold State.feederPowerLoss
  dsimp only
  split
  · exact h
  · have hfeeder : (a.cutPulse (a.feeder b).held).feeder b = a.feeder b := by
      cases (a.feeder b).held with
      | none => rfl
      | some u => cases u <;> rfl
    exact (h.cutPulse.putFeeder (by rw [hfeeder]; rfl) fun _ => rfl).confirmUnits.returnUnits.handReturned.arbitrate

theorem leavePolicy : s.Departs (a.leavePolicy b) b := by
  unfold State.leavePolicy
  split
  · exact h
  · exact h.returnQueued.handReturned

theorem gateLeaves {cause : AbandonCause} : s.Departs (a.gateLeaves b cause) b := by
  unfold State.gateLeaves
  split
  next hbay =>
    split
    · exact h.abandon hbay
    · exact h.trans (setGate (.inl rfl))
    · exact h.trans (setGate (.inl rfl))
  next => exact h

theorem drawn : s.Departs a.drawn b := h.trans (still rfl rfl rfl rfl)

theorem creditLoss : s.Departs (a.creditLoss b) b := by
  unfold State.creditLoss inFreeOrder
  repeat' split
  · exact h.drawn.gateLeaves.feederPowerLoss
  · exact h.drawn.feederPowerLoss.gateLeaves
  · exact h.gateLeaves.feederPowerLoss

theorem releaseCredit : s.Departs (a.releaseCredit b) b := by
  unfold State.releaseCredit inFreeOrder
  repeat' split
  · exact h.drawn.gateLeaves.leavePolicy
  · exact h.drawn.leavePolicy.gateLeaves
  · exact h.gateLeaves.leavePolicy

end

end State.Departs

section
variable {s : State} {b : Bay}

/-- A charge of a bay that does not run keeps no carry: the gate leaves the bay. -/
theorem State.gateLeaves_bay (hstopped : s.isRunning b = false) (cause : AbandonCause) :
    (s.gateLeaves b cause).gate.bay ≠ some b := by
  have hcarry : s.carryAfter b = 0 := if_neg (by
    unfold State.carryKept
    rw [hstopped, Bool.and_false]
    exact Bool.false_ne_true)
  have hleft : (s.abandon b cause).gate.bay = none := by
    show (Gate.idleWith b (s.carryAfter b)).bay = none
    rw [hcarry]
    rfl
  unfold State.gateLeaves
  split
  next =>
    split
    · rw [hleft]; exact nofun
    · exact nofun
    · exact nofun
  next hbay => exact hbay

/-- Behind a power loss the gate does not name the bay. -/
theorem State.creditLoss_gate (hstopped : s.isRunning b = false) : (s.creditLoss b).gate.bay ≠ some b := by
  unfold State.creditLoss inFreeOrder
  repeat' split
  · exact (State.Departs.refl _).feederPowerLoss.not_bay (State.gateLeaves_bay (s := s.drawn) hstopped .powerLoss)
  · have hloss := (State.Departs.refl s).drawn.feederPowerLoss (b := b)
    refine State.gateLeaves_bay ?_ .powerLoss
    rw [State.isRunning_congr hloss.power]
    exact hstopped
  · exact (State.Departs.refl _).feederPowerLoss.not_bay (State.gateLeaves_bay hstopped .powerLoss)

/-! ## A cut bay, dark to every block (R118) -/

theorem cutTimer_eq (into : PowerState) : cutTimer into = if into = .cooling then some { count := 0, limit := 500 } else none := by
  cases into <;> rfl

theorem State.enterCut_isRunning {into : PowerState} (hinto : into.powered = false) : (s.enterCut b into).isRunning b = false := by
  refine Bool.eq_false_iff.2 fun hrun => ?_
  have hstate := ((s.enterCut b into).isRunning_iff b).1 hrun
  rw [s.enterCut_bay b into] at hstate
  rw [show into = .running from hstate] at hinto
  exact absurd hinto (by decide)

theorem State.cutPower_monitor {into : PowerState} (h : (s.bay b).state.powered = true) :
    (s.cutPower b into).monitor = s.blanked b := by
  rw [State.cutPower_powered h, State.handOnCut_eq]
  rfl

theorem State.cutPower_gate {into : PowerState} (h : (s.bay b).state.powered = true) (hinto : into.powered = false) :
    (s.cutPower b into).gate.bay ≠ some b := by
  rw [State.cutPower_powered h, State.handOnCut_eq]
  exact State.creditLoss_gate (State.enterCut_isRunning hinto)

theorem State.cutPower_nextUnit {into : PowerState} (h : (s.bay b).state.powered = true) (d : Bay) :
    ((s.cutPower b into).feeder d).nextUnit = (s.feeder d).nextUnit := by
  rw [State.cutPower_powered h, State.handOnCut_eq]
  exact (State.Departs.refl (s.enterCut b into)).creditLoss.nextUnit d

theorem State.cutPower_idle {into : PowerState} (h : (s.bay b).state.powered = true) :
    ((s.cutPower b into).feeder b).state = .idle := by
  rw [State.cutPower_powered h, State.handOnCut_eq]
  exact State.Credits.creditLoss_idle (s.enterCut b into) b

theorem State.cutPower_checker {into : PowerState} (h : (s.bay b).state.powered = true) :
    (s.cutPower b into).checker b = (s.checker b).cut := by
  rw [State.cutPower_powered h, State.handOnCut_eq]
  exact Vector.getElem_set_self b.isLt

theorem State.blanked_source (s : State) (b : Bay) : (s.blanked b).source ≠ .bay b := by
  unfold State.blanked
  split
  · exact nofun
  next h => exact h

/-- A cut leaves a powered bay dark to every block. -/
theorem State.cutPower_dark {into : PowerState} (h : (s.bay b).state.powered = true) (hinto : into.powered = false) :
    (s.cutPower b into).Dark b where
  feeder := State.cutPower_idle h
  gate := State.cutPower_gate h hinto
  monitor := by
    rw [State.cutPower_monitor h]
    exact s.blanked_source b
  checker := (State.losesPower_cutPower h).checker
  filters := (State.losesPower_cutPower h).filters

end

theorem cutLeavesBayUnpowered : Claims.CutLeavesBayUnpowered := by
  intro s b into hpowered hinto t
  have hlost := State.losesPower_cutPower (into := into) hpowered
  have hdark := State.cutPower_dark hpowered hinto
  have hchecker := State.cutPower_checker (into := into) hpowered
  have hmonitor := State.cutPower_monitor (into := into) hpowered
  obtain ⟨hone, htwo⟩ := hdark.filters
  refine ⟨?_, fun d hd => State.cutPower_bay_other s b into hd, State.cutPower_warm s b into, hone, htwo, hdark.checker,
    by rw [hchecker]; rfl, by rw [hchecker]; rfl, hdark.feeder, State.cutPower_nextUnit hpowered b, hdark.gate,
    hdark.monitor, fun hshown => ?_, fun hother => ?_, State.cutPower_stage s b into, State.cutPower_tables s b into,
    State.cutPower_flags s b into⟩
  · rw [show t.bay b = _ from State.cutPower_bay_same s b into, cutTimer_eq]
  · rw [hmonitor, State.blanked, if_pos hshown]
    exact ⟨rfl, rfl, rfl⟩
  · exact hmonitor.trans (if_neg hother)

/-! ## The feeder's part of a power loss, when the gate has no charge on the bay (R39, R45) -/

section
variable {s : State} {b : Bay}

theorem TokenStore.giveBack_congr {t : TokenStore} {ns ms : List UnitNo} (h : ∀ n, n ∈ ns ↔ n ∈ ms) :
    t.giveBack b ns = t.giveBack b ms ∧ t.countUnits b ns = t.countUnits b ms := by
  have hin (x : Token) : x.inUnits b ns = x.inUnits b ms := by
    rw [Bool.eq_iff_iff, Token.inUnits_iff, Token.inUnits_iff]
    simp only [h]
  constructor
  · unfold TokenStore.giveBack
    simp only [hin]
  · unfold TokenStore.countUnits
    simp only [hin]

theorem State.handReturned_free (h : ∀ n, s.gate.owns b n = false) (ks : List CoinUnit) : s.handReturned b ks = s := by
  unfold State.handReturned
  induction ks with
  | nil => rfl
  | cons k ks ih =>
    rw [List.foldl_cons, State.handOutcome_ignored (.inr (h k.number))]
    exact ih

/-- A pulse unit that the arbiter gives to a feeder that does not ask was its already. -/
theorem State.grantOne_pulse_bay {u : PulseId} (h : (s.feeder b).requests = false)
    (hu : (s.grantOne.pulse u).map Pulse.bay = some b) : (s.pulse u).map Pulse.bay = some b := by
  unfold State.grantOne at hu
  split at hu
  next v c _ hc =>
    obtain ⟨_, hqueue⟩ := State.waits_of_chosenBay hc
    obtain ⟨hgranted, hkept⟩ := State.grantPulse_pulse hqueue v
    by_cases huv : u = v
    · have hbc : c = b := by
        rw [huv, hgranted] at hu
        exact Option.some.inj hu
      have hrequests := List.find?_some (p := fun d : Bay => (s.feeder d).requests) hc
      rw [hbc] at hrequests
      exact absurd (h.symm.trans hrequests) Bool.false_ne_true
    · rwa [hkept u huv] at hu
  next => exact hu

theorem State.arbitrate_pulse_bay {u : PulseId} (h : (s.feeder b).requests = false)
    (hu : (s.arbitrate.pulse u).map Pulse.bay = some b) : (s.pulse u).map Pulse.bay = some b :=
  State.grantOne_pulse_bay h
    (State.grantOne_pulse_bay (s := s.grantOne) (by rw [State.grantOne_feeder h]; exact h) hu)

/-- A feeder emptied by a power loss, its pulse unit let go. -/
def State.losing (s : State) (b : Bay) : State := (s.cutPulse (s.feeder b).held).putFeeder b (s.feeder b).emptied

theorem State.losing_eq (hbusy : (s.feeder b).state ≠ .idle) : s.losing b = { s with
    pulses := (s.cutPulse (s.feeder b).held).pulses, feeders := s.feeders.set b (s.feeder b).emptied
    reports := s.reports ++ [.feederIdle b] } := by
  unfold State.losing
  have hcut : s.cutPulse (s.feeder b).held = { s with pulses := (s.cutPulse (s.feeder b).held).pulses } := by
    cases (s.feeder b).held with
    | none => rfl
    | some u => cases u <;> rfl
  rw [hcut]
  exact if_pos ⟨rfl, hbusy⟩

theorem State.cutPulse_pulse {u : PulseId} (h : (s.feeder b).held = some u) :
    (s.cutPulse (s.feeder b).held).pulse u = none := by
  rw [h]
  exact s.pulse_setPulse_same u none

/-- A feeder's part of a power loss with a store and counters behind a retirement, if there was one. -/
structure State.Emptied (s t : State) (b : Bay) (store : TokenStore) (audit : Audit) : Prop where
  store : t.store = store
  audit : t.audit = audit
  feeder : t.feeder b = (s.feeder b).emptied
  others : s.KeepsUnits t b
  gate : t.gate = s.gate
  pulse : ∀ u, (s.feeder b).held = some u → (t.pulse u).map Pulse.bay ≠ some b
  frame : t = { s with
    store := t.store, audit := t.audit, feeders := t.feeders, pulses := t.pulses, intake := t.intake, links := t.links
    reports := s.reports ++ [.feederIdle b] }

/-- The units returned and the arbiter gone on, from a state whose counted unit has been retired. -/
theorem State.emptied_returns {w : State} (hbusy : (s.feeder b).state ≠ .idle) (hfree : ∀ n, s.gate.owns b n = false)
    (hw : w = { s.losing b with store := w.store, audit := w.audit, intake := w.intake, links := w.links })
    (ns : List UnitNo) (ks : List CoinUnit) :
    s.Emptied ((w.returnUnits b ns).handReturned b ks).arbitrate b (w.store.giveBack b ns) w.audit
      ∧ w.Tells ((w.returnUnits b ns).handReturned b ks).arbitrate
        (w.givenBackNotices ((w.returnUnits b ns).handReturned b ks).arbitrate b ns) := by
  have hback := w.givesBack b ns
  obtain ⟨x, hx⟩ : ∃ x, x = w.returnUnits b ns := ⟨_, rfl⟩
  rw [← hx] at hback ⊢
  have hw' := hw.trans (congrArg (fun y : State => { y with
    store := w.store, audit := w.audit, intake := w.intake, links := w.links }) (State.losing_eq hbusy))
  have hx' := hback.frame.trans (congrArg (fun y : State => { y with
    store := x.store, intake := x.intake, links := x.links }) hw')
  have hxgate : x.gate = s.gate := by rw [hx']
  rw [State.handReturned_free (by rw [hxgate]; exact hfree)]
  have hxfeeders : x.feeders = (s.setFeeder b (s.feeder b).emptied).feeders := by
    rw [hx']
    rfl
  have hxfeeder : x.feeder b = (s.feeder b).emptied := (State.feeder_congr hxfeeders b).trans (State.feeder_setFeeder_same _ _ _)
  have hquiet : (x.feeder b).requests = false := by
    rw [hxfeeder]
    rfl
  have hgrants := x.grants_arbitrate
  have hstill := State.arbitrate_feeder hquiet
  have hpulse (u : PulseId) := State.arbitrate_pulse_bay (u := u) hquiet
  obtain ⟨t, ht⟩ : ∃ t, t = x.arbitrate := ⟨_, rfl⟩
  rw [← ht] at hgrants hstill hpulse ⊢
  have hframe := hgrants.frame
  have hshows : t.ShowsAs x := by
    rw [hframe]
    exact ⟨rfl, rfl, rfl, rfl⟩
  refine ⟨?_, fun l => ?_⟩
  · exact
      { store := hshows.store.trans hback.store
        audit := by rw [hframe, hx']
        feeder := hstill.trans hxfeeder
        others := fun d hd => by
          rw [hgrants.units, State.feeder_congr hxfeeders, State.feeder_setFeeder_other _ _ hd]
        gate := by rw [hframe, hx']
        pulse := fun u hu hmine => by
          have hxpulse : x.pulse u = (s.cutPulse (s.feeder b).held).pulse u := by
            have hbank : x.pulses = (s.cutPulse (s.feeder b).held).pulses := by rw [hx']
            cases u <;> simp only [State.pulse, hbank]
          have hbay := hpulse u hmine
          rw [hxpulse, State.cutPulse_pulse hu] at hbay
          exact absurd hbay nofun
        frame := by
          have hall := hframe.trans (congrArg (fun y : State => { y with feeders := t.feeders, pulses := t.pulses }) hx')
          rw [hall] }
  · have hlinks : t.links = x.links := by rw [hframe]
    have hnotices : w.givenBackNotices t b ns = w.givenBackNotices x b ns := by
      unfold State.givenBackNotices
      rw [State.storeNotices_congr hshows]
    rw [hnotices, State.link_congr hlinks]
    exact hback.tells l

theorem State.feederPowerLoss_busy (hbusy : (s.feeder b).state ≠ .idle) : s.feederPowerLoss b =
    ((((s.feeder b).counted.foldl (fun x k => x.confirmUnit b k) (s.losing b)).returnUnits b
      ((s.feeder b).unsettled.map CoinUnit.number)).handReturned b (s.feeder b).unsettled).arbitrate := if_neg hbusy

theorem Feeder.counted_none {f : Feeder} (h : ∀ k, f.slot = some k → k.status ≠ .confirmedInTrail) : f.counted = [] := by
  unfold Feeder.counted
  cases hslot : f.slot with
  | none => rfl
  | some k => simp [h k hslot]

theorem Feeder.counted_some {f : Feeder} {k : CoinUnit} (hslot : f.slot = some k) (hstatus : k.status = .confirmedInTrail) :
    f.counted = [k] ∧ f.unsettled = f.queue := by
  unfold Feeder.counted Feeder.unsettled
  rw [hslot]
  simp [hstatus]

theorem Feeder.mem_unsettled {f : Feeder} (h : ∀ k, f.slot = some k → k.status ≠ .confirmedInTrail) (n : UnitNo) :
    n ∈ f.unsettled.map CoinUnit.number ↔ n ∈ f.numbers := by
  have hkept : f.slot.toList.filter (fun k => decide (k.status ≠ .confirmedInTrail)) = f.slot.toList :=
    List.filter_eq_self.2 fun k hk => decide_eq_true (h k (Option.mem_toList.1 hk))
  unfold Feeder.unsettled Feeder.numbers
  rw [hkept, List.map_append, List.mem_append, List.mem_append]
  exact or_comm

/-- A power loss without a unit confirmed in its pulse returns every unit. -/
theorem State.feederPowerLoss_returns (hbusy : (s.feeder b).state ≠ .idle) (hfree : ∀ n, s.gate.owns b n = false)
    (h : ∀ k, (s.feeder b).slot = some k → k.status ≠ .confirmedInTrail) :
    s.Emptied (s.feederPowerLoss b) b (s.store.giveBack b (s.feeder b).numbers) s.audit
      ∧ s.Tells (s.feederPowerLoss b) (s.returnNotices (s.feederPowerLoss b) b) := by
  have hlosing := State.losing_eq hbusy
  obtain ⟨w, hw⟩ : ∃ w, w = s.losing b := ⟨_, rfl⟩
  have hstore : w.store = s.store := by rw [hw, hlosing]
  have haudit : w.audit = s.audit := by rw [hw, hlosing]
  have hintake : w.intake = s.intake := by rw [hw, hlosing]
  have hlinks : w.links = s.links := by rw [hw, hlosing]
  obtain ⟨hemptied, htells⟩ := State.emptied_returns (w := w) hbusy hfree (by rw [hw])
    ((s.feeder b).unsettled.map CoinUnit.number) (s.feeder b).unsettled
  obtain ⟨hgive, hcount⟩ := TokenStore.giveBack_congr (t := s.store) (b := b) (Feeder.mem_unsettled h)
  have hloss : s.feederPowerLoss b = ((w.returnUnits b ((s.feeder b).unsettled.map CoinUnit.number)).handReturned b
      (s.feeder b).unsettled).arbitrate := by
    rw [State.feederPowerLoss_busy hbusy, Feeder.counted_none h, hw]
    rfl
  rw [← hloss, hstore, haudit, hgive] at hemptied
  rw [← hloss] at htells
  refine ⟨hemptied, fun l => ?_⟩
  rw [htells l, State.link_congr hlinks]
  unfold State.givenBackNotices State.returnNotices State.storeNotices State.closureNotices
  rw [hstore, hintake, hcount]

/-- A power loss with a unit confirmed in its pulse retires it and returns the queue. -/
theorem State.feederPowerLoss_counts {k : CoinUnit} (hbusy : (s.feeder b).state ≠ .idle)
    (hfree : ∀ n, s.gate.owns b n = false) (hslot : (s.feeder b).slot = some k) (hstatus : k.status = .confirmedInTrail) :
    s.Emptied (s.feederPowerLoss b) b ((s.store.retire b k.number).giveBack b ((s.feeder b).queue.map CoinUnit.number))
      ((s.audit.advance tokensSpentIx (s.store.live - (s.store.retire b k.number).live)).advance (confirmedIx b) 1) := by
  have hlosing := State.losing_eq hbusy
  obtain ⟨x, hx⟩ : ∃ x, x = s.losing b := ⟨_, rfl⟩
  rw [← hx] at hlosing
  have hxstore : x.store = s.store := by rw [hlosing]
  have hxaudit : x.audit = s.audit := by rw [hlosing]
  have hxgate : x.gate = s.gate := by rw [hlosing]
  let u := (x.retireTokens .spent b k.number).bump (confirmedIx b) 1
  let moved := x.store.live - (x.store.retire b k.number).live
  have hshape : x.confirmUnit b k = (u.storeChanged .spent moved (some b)).handOutcome b k .confirmed := rfl
  have hframe := u.storeChanged_frame .spent moved (some b)
  have hgate : (u.storeChanged .spent moved (some b)).gate = s.gate :=
    ((congrArg State.gate hframe).trans rfl).trans hxgate
  have hconfirm : x.confirmUnit b k = u.storeChanged .spent moved (some b) := by
    rw [hshape]
    exact State.handOutcome_ignored (.inr (by rw [hgate]; exact hfree k.number)) .confirmed
  obtain ⟨w, hw⟩ : ∃ w, w = u.storeChanged .spent moved (some b) := ⟨_, rfl⟩
  rw [← hw] at hframe hconfirm
  have hwstore : w.store = s.store.retire b k.number := by
    rw [← hxstore]
    exact (congrArg State.store hframe).trans rfl
  have hwaudit : w.audit = (s.audit.advance tokensSpentIx (s.store.live - (s.store.retire b k.number).live)).advance
      (confirmedIx b) 1 := by
    rw [← hxstore, ← hxaudit]
    exact (congrArg State.audit hframe).trans rfl
  obtain ⟨hcounted, hrest⟩ := Feeder.counted_some hslot hstatus
  obtain ⟨hemptied, _⟩ := State.emptied_returns (w := w) hbusy hfree (by rw [← hx, hframe]; rfl)
    ((s.feeder b).unsettled.map CoinUnit.number) (s.feeder b).unsettled
  have hloss : s.feederPowerLoss b = ((w.returnUnits b ((s.feeder b).unsettled.map CoinUnit.number)).handReturned b
      (s.feeder b).unsettled).arbitrate := by
    rw [State.feederPowerLoss_busy hbusy, hcounted, List.foldl_cons, List.foldl_nil, ← hx, hconfirm]
  rw [← hloss, hwstore, hwaudit, hrest] at hemptied
  exact hemptied

/-- What is the same of either loss. -/
theorem State.feederPowerLoss_emptied (hbusy : (s.feeder b).state ≠ .idle) (hfree : ∀ n, s.gate.owns b n = false) :
    s.Emptied (s.feederPowerLoss b) b (s.feederPowerLoss b).store (s.feederPowerLoss b).audit := by
  have hsame {store : TokenStore} {audit : Audit} (h : s.Emptied (s.feederPowerLoss b) b store audit) :
      s.Emptied (s.feederPowerLoss b) b (s.feederPowerLoss b).store (s.feederPowerLoss b).audit :=
    ⟨rfl, rfl, h.feeder, h.others, h.gate, h.pulse, h.frame⟩
  by_cases h : ∀ k, (s.feeder b).slot = some k → k.status ≠ .confirmedInTrail
  · exact hsame (State.feederPowerLoss_returns hbusy hfree h).1
  · simp only [not_forall, not_not] at h
    obtain ⟨k, hslot, hstatus⟩ := h
    exact hsame (State.feederPowerLoss_counts hbusy hfree hslot hstatus)

/-- The units leave a bay that loses power. -/
theorem State.feederPowerLoss_unitsLeave (hbusy : (s.feeder b).state ≠ .idle) (hfree : ∀ n, s.gate.owns b n = false) :
    s.UnitsLeave (s.feederPowerLoss b) b where
  feeder := (State.feederPowerLoss_emptied hbusy hfree).feeder
  others := (State.feederPowerLoss_emptied hbusy hfree).others
  returned h := by
    obtain ⟨hreturns, _⟩ := State.feederPowerLoss_returns hbusy hfree h
    exact ⟨hreturns.store, hreturns.audit⟩
  counted k hslot hstatus := by
    have hcounts := State.feederPowerLoss_counts hbusy hfree hslot hstatus
    exact ⟨hcounts.store, hcounts.audit⟩

end

theorem powerLossSettlesFeeder : Claims.PowerLossSettlesFeeder := by
  intro s b hgate hbusy t
  have hfree (n : UnitNo) : s.gate.owns b n = false :=
    Gate.owns_eq_false fun ⟨hpaying, _⟩ => absurd (hgate.symm.trans hpaying) nofun
  have hemptied := State.feederPowerLoss_emptied hbusy hfree
  have hleave := State.feederPowerLoss_unitsLeave hbusy hfree
  exact ⟨hleave.returned, hleave.counted, hemptied.feeder, hemptied.others, hemptied.gate, hemptied.pulse, hemptied.frame⟩

/-- Settles O41: the cut read off each block's part of it, and the feeder's part as a retirement, if there is one, and one
return. -/
theorem powerCutHandedOn : Obligations.PowerCutHandedOn := ⟨cutLeavesBayUnpowered, powerLossSettlesFeeder⟩

end Sys2Proof.Machine
end

section
/-! A bay that has lost its power stays as it is to an event's end: no report that the event makes powers it, shows it or
charges for it (R118, R135, R151, R154 to R170). -/

namespace Sys2Proof.Machine

/-- A bay without power that is dark to every block and waits for a timer or a request. -/
structure State.Out (s : State) (b : Bay) : Prop where
  dark : s.Dark b
  unpowered : (s.bay b).state.powered = false
  notOff : (s.bay b).state ≠ .off
  warm : b ∉ s.power.warm

/-- Power records that agree but for the deferred request, which no record gains outside COOLING. -/
structure BayPower.Agrees (p q : BayPower) : Prop where
  record : q = { p with deferred := q.deferred }
  deferred : p.state ≠ .cooling → p.deferred = none → q.deferred = none

theorem BayPower.Agrees.refl (p : BayPower) : p.Agrees p := ⟨rfl, fun _ => id⟩

theorem BayPower.Agrees.trans {p q r : BayPower} (h : p.Agrees q) (g : q.Agrees r) : p.Agrees r where
  record := g.record.trans (by rw [h.record])
  deferred hcool hnone := g.deferred (by rw [h.record]; exact hcool) (h.deferred hcool hnone)

/-- A bay that is out in one state is out in the next, its record the same but for the deferred request; the retained flags
are the same. -/
def State.Outlasts (b : Bay) (s t : State) : Prop := s.Out b → t.Out b ∧ (s.bay b).Agrees (t.bay b) ∧ t.flags = s.flags

namespace State.Outlasts

variable {b : Bay} {s a t : State}

theorem refl (s : State) : State.Outlasts b s s := fun h => ⟨h, .refl _, rfl⟩

theorem trans (h : State.Outlasts b s a) (g : State.Outlasts b a t) : State.Outlasts b s t := fun hs => by
  obtain ⟨ha, hagrees, hflags⟩ := h hs
  obtain ⟨ht, hmore, hsame⟩ := g ha
  exact ⟨ht, hagrees.trans hmore, hsame.trans hflags⟩

/-- A step whose argument may use that the bay is out. -/
theorem step (h : State.Outlasts b s a) (g : a.Out b → State.Outlasts b a t) : State.Outlasts b s t := fun hs => by
  obtain ⟨ha, hagrees, hflags⟩ := h hs
  obtain ⟨ht, hmore, hsame⟩ := g ha ha
  exact ⟨ht, hagrees.trans hmore, hsame.trans hflags⟩

/-- A step that leaves the bay's record as it is. -/
theorem of_bay (hdark : s.Dark b → t.Dark b) (hbay : t.bay b = s.bay b) (hwarm : b ∉ s.power.warm → b ∉ t.power.warm)
    (hflags : t.flags = s.flags) : State.Outlasts b s t := fun h =>
  ⟨⟨hdark h.dark, by rw [hbay]; exact h.unpowered, by rw [hbay]; exact h.notOff, hwarm h.warm⟩, by rw [hbay]; exact .refl _,
    hflags⟩

/-! ## Changes elsewhere -/

theorem dark_congr (hfeeders : t.feeders = s.feeders) (hgate : t.gate = s.gate) (hsource : t.monitor.source = s.monitor.source)
    (hcheckers : t.checkers = s.checkers) (hfilters : t.filters = s.filters) (h : s.Dark b) : t.Dark b where
  feeder := by rw [State.feeder_congr hfeeders]; exact h.feeder
  gate := by rw [hgate]; exact h.gate
  monitor := by rw [hsource]; exact h.monitor
  checker := by unfold State.checker; rw [hcheckers]; exact h.checker
  filters := by
    obtain ⟨hone, htwo⟩ := h.filters
    exact ⟨by simp only [State.filter, hfilters]; exact hone, by simp only [State.filter, hfilters]; exact htwo⟩

/-- A change that touches none of a bay's blocks. -/
theorem still (hfeeders : t.feeders = s.feeders) (hgate : t.gate = s.gate) (hmonitor : t.monitor = s.monitor)
    (hcheckers : t.checkers = s.checkers) (hfilters : t.filters = s.filters) (hpower : t.power = s.power)
    (hflags : t.flags = s.flags) : State.Outlasts b s t :=
  of_bay (dark_congr hfeeders hgate (by rw [hmonitor]) hcheckers hfilters) (State.bay_congr hpower b) (by rw [hpower]; exact id)
    hflags

section
variable (h : State.Outlasts b s a)
include h

theorem report {r} : State.Outlasts b s (a.report r) := h.trans (still rfl rfl rfl rfl rfl rfl rfl)
theorem setReports {rs} : State.Outlasts b s (a.setReports rs) := h.trans (still rfl rfl rfl rfl rfl rfl rfl)
theorem setLate {r} : State.Outlasts b s (a.setLate r) := h.trans (still rfl rfl rfl rfl rfl rfl rfl)
theorem drawn : State.Outlasts b s a.drawn := h.trans (still rfl rfl rfl rfl rfl rfl rfl)
theorem notify {n} : State.Outlasts b s (a.notify n) := h.trans (still rfl rfl rfl rfl rfl rfl rfl)
theorem notifyBay {e k} : State.Outlasts b s (a.notifyBay e k) := h.notify
theorem setStage {x} : State.Outlasts b s (a.setStage x) := h.trans (still rfl rfl rfl rfl rfl rfl rfl)
theorem setRecord {r} : State.Outlasts b s (a.setRecord r) := h.setStage
theorem setPanel {x} : State.Outlasts b s (a.setPanel x) := h.trans (still rfl rfl rfl rfl rfl rfl rfl)
theorem setRouting {x} : State.Outlasts b s (a.setRouting x) := h.trans (still rfl rfl rfl rfl rfl rfl rfl)
theorem setPins {x} : State.Outlasts b s (a.setPins x) := h.trans (still rfl rfl rfl rfl rfl rfl rfl)
theorem setProtected {w} : State.Outlasts b s (a.setProtected w) := h.trans (of_bay (dark_congr rfl rfl rfl rfl rfl) rfl id rfl)
theorem setWarm {w} (hw : b ∉ a.power.warm → b ∉ w) : State.Outlasts b s (a.setWarm w) := h.trans (of_bay (dark_congr rfl rfl rfl rfl rfl) rfl hw rfl)
theorem setMonitor {x} (hx : a.monitor.source ≠ .bay b → x.source ≠ .bay b) : State.Outlasts b s (a.setMonitor x) :=
  h.trans (of_bay (fun d => ⟨d.feeder, d.gate, hx d.monitor, d.checker, d.filters⟩) rfl id rfl)
theorem setBay {k p} (hk : b ≠ k) : State.Outlasts b s (a.setBay k p) :=
  h.trans (of_bay (dark_congr rfl rfl rfl rfl rfl) (State.bay_setBay_other a p hk) id rfl)
theorem setChecker {k c} (hk : b ≠ k) : State.Outlasts b s (a.setChecker k c) :=
  h.trans (of_bay (fun d => ⟨d.feeder, d.gate, d.monitor, by rw [State.checker_setChecker_other a c hk]; exact d.checker,
    d.filters⟩) rfl id rfl)

/-- The bay's own deferred request replaced. -/
theorem setDeferred {k d} (hd : b = k → (a.bay k).state = .cooling ∨ (a.bay k).deferred ≠ none) :
    State.Outlasts b s (a.setBay k { a.bay k with deferred := d }) := by
  by_cases hk : b = k
  · subst hk
    have hbay : (a.setBay b { a.bay b with deferred := d }).bay b = { a.bay b with deferred := d } :=
      State.bay_setBay_same a b _
    refine h.trans fun hout => ⟨⟨dark_congr (s := a) rfl rfl rfl rfl rfl hout.dark, by rw [hbay]; exact hout.unpowered,
      by rw [hbay]; exact hout.notOff, hout.warm⟩, ?_, rfl⟩
    rw [hbay]
    exact ⟨rfl, fun hcool hnone => ((hd rfl).elim hcool fun hsome => hsome hnone).elim⟩
  · exact h.setBay hk

/-- The credit blocks' work for any bay. -/
theorem credits {k : Bay} (g : a.Credits t) (d : a.Departs t k) : State.Outlasts b s t := by
  have hframe := g.frame
  refine h.trans (of_bay (fun hdark => ?_) (State.bay_congr d.power b) (by rw [d.power]; exact id) g.flags)
  have hcheckers : t.checkers = a.checkers := by rw [hframe]
  have hfilters : t.filters = a.filters := by rw [hframe]
  have hmonitor : t.monitor = a.monitor := by rw [hframe]
  obtain ⟨hone, htwo⟩ := hdark.filters
  exact
    { feeder := g.stays b hdark.feeder
      gate := d.not_bay hdark.gate
      monitor := by rw [hmonitor]; exact hdark.monitor
      checker := by unfold State.checker; rw [hcheckers]; exact hdark.checker
      filters := ⟨by simp only [State.filter, hfilters]; exact hone, by simp only [State.filter, hfilters]; exact htwo⟩ }

/-! ## Another bay's power (R117, R118, R125) -/

theorem cutPower {k into} (hk : b ≠ k) : State.Outlasts b s (a.cutPower k into) := by
  refine h.trans ?_
  have henter : State.Outlasts b a (a.enterCut k into) :=
    of_bay (dark_congr rfl rfl rfl rfl rfl) (Vector.getElem_set_ne k.isLt b.isLt fun e => hk (Fin.ext e.symm))
      (fun hwarm hmem => hwarm (List.mem_of_mem_filter hmem)) rfl
  unfold State.cutPower
  split
  next =>
    refine henter.trans ?_
    have hcredit := (refl (b := b) (a.enterCut k into)).credits (t := (a.enterCut k into).creditLoss k)
      (State.Credits.creditLoss (.refl _)) (State.Departs.creditLoss (.refl _))
    refine hcredit.trans ?_
    rw [State.handOnCut_eq]
    refine of_bay (fun hdark => ?_) rfl id rfl
    have hgetFilters : ((a.enterCut k into).filters.set k (a.enterCut k into).filters[k].cut)[b] = (a.enterCut k into).filters[b] :=
      Vector.getElem_set_ne k.isLt b.isLt fun e => hk (Fin.ext e.symm)
    have hgetCheckers : ((a.enterCut k into).checkers.set k ((a.enterCut k into).checker k).cut)[b]
        = (a.enterCut k into).checkers[b] := Vector.getElem_set_ne k.isLt b.isLt fun e => hk (Fin.ext e.symm)
    have hframe := ((State.Credits.refl (a.enterCut k into)).creditLoss (b := k)).frame
    have hfilters : ((a.enterCut k into).creditLoss k).filters = (a.enterCut k into).filters := by rw [hframe]
    have hcheckers : ((a.enterCut k into).creditLoss k).checkers = (a.enterCut k into).checkers := by rw [hframe]
    have hmonitor : ((a.enterCut k into).creditLoss k).monitor = (a.enterCut k into).monitor := by rw [hframe]
    obtain ⟨hfeeder, hgate, hshown, hchecker, hone, htwo⟩ := hdark
    simp only [State.filter, hfilters] at hone htwo
    simp only [State.checker, hcheckers] at hchecker
    rw [hmonitor] at hshown
    refine ⟨hfeeder, hgate, ?_, ?_, ?_, ?_⟩
    · show ((a.enterCut k into).blanked k).source ≠ .bay b
      unfold State.blanked
      split
      · exact nofun
      · exact hshown
    · exact (congrArg Checker.state hgetCheckers).trans hchecker
    · exact (congrArg BayFilters.one hgetFilters).trans hone
    · exact (congrArg BayFilters.two hgetFilters).trans htwo
  next => exact henter

theorem reportLoss {k c} : State.Outlasts b s (a.reportLoss k c) := by
  unfold State.reportLoss
  split
  · exact h.report
  · exact h

theorem reportTarget {k r} : State.Outlasts b s (a.reportTarget k r) := by
  unfold State.reportTarget
  repeat' split
  · exact h.report
  · exact h.report
  · exact h

theorem trip {k} (hk : b ≠ k) : State.Outlasts b s (a.trip k) := by
  unfold State.trip
  exact (h.cutPower hk).notifyBay.reportLoss.reportTarget

theorem enterStarting {k} (hk : b ≠ k) : State.Outlasts b s (a.enterStarting k) := by
  unfold State.enterStarting
  dsimp only
  split
  · exact ((h.setBay hk).setChecker hk).trip hk
  · exact (h.setBay hk).setChecker hk

omit h in
theorem evictFor {k : Bay} {ks : List Bay} {n : Nat} {a : State} (h : State.Outlasts b s a) (hks : b ∉ ks) :
    State.Outlasts b s (a.evictFor k ks n) := by
  induction ks generalizing a n with
  | nil => exact h
  | cons c rest ih =>
    obtain ⟨hc, hrest⟩ := List.ne_and_not_mem_of_not_mem_cons hks
    cases n with
    | zero => exact h
    | succ n => exact ih (h.cutPower hc).notifyBay hrest

theorem judgeHandover {k} (hk : b ≠ k) : State.Outlasts b s (a.judgeHandover k) := by
  refine h.step fun hout => ?_
  have hnot : b ∉ a.candidates := fun hmem => hout.warm (List.mem_of_mem_filter hmem)
  unfold State.judgeHandover
  dsimp only
  split
  · exact (refl a).enterStarting hk
  · split
    · exact ((refl a).evictFor hnot).enterStarting hk
    · exact (refl a).report

theorem powerRequest {k} : State.Outlasts b s (a.powerRequest k) := by
  unfold State.powerRequest
  split
  · exact h.report
  · exact h
  · exact h
  next hcool => exact h.setDeferred fun _ => .inl hcool
  next hoff => exact h.step fun hout => (refl a).judgeHandover fun e => hout.notOff (e ▸ hoff)
  · exact h.report
  · exact h.report
  · exact h.report

/-- A bay that is out does not run. -/
theorem feederIdle {k} : State.Outlasts b s (a.feederIdle k) := by
  unfold State.feederIdle
  split
  next hall =>
    refine h.step fun hout => (refl a).cutPower ?_
    rintro rfl
    obtain ⟨hfirst, _⟩ := Bool.and_eq_true_iff.1 hall
    obtain ⟨_, hrun⟩ := Bool.and_eq_true_iff.1 hfirst
    have hpowered := hout.unpowered
    rw [(a.isRunning_iff b).1 hrun] at hpowered
    exact absurd hpowered (by decide)
  next => exact h

theorem releaseOrigin {k} : State.Outlasts b s (a.releaseOrigin k) := by
  refine h.step fun hout => ?_
  have hne (hpowered : (a.bay k).state.powered = true) : b ≠ k := by
    rintro rfl
    exact absurd (hout.unpowered.symm.trans hpowered) Bool.false_ne_true
  unfold State.releaseOrigin
  dsimp only
  split
  next hrun =>
    have hk : b ≠ k := hne (by rw [hrun]; rfl)
    have hjoin : State.Outlasts b a (a.setWarm (a.power.warm ++ [k])) := (refl a).setWarm fun hwarm hmem =>
      (List.mem_append.1 hmem).elim hwarm fun hlast => hk (List.mem_singleton.1 hlast)
    repeat' split
    · exact hjoin
    · exact (refl a).cutPower hk
    · exact hjoin.setBay hk
  next hstart =>
    split
    · exact refl a
    · exact (refl a).cutPower (hne (by rw [hstart]; rfl))
  next hboot =>
    split
    · exact refl a
    · exact (refl a).cutPower (hne (by rw [hboot]; rfl))
  next hcool =>
    split
    · exact refl a
    · exact (refl a).setDeferred fun _ => .inl hcool
  all_goals exact refl a

/-! ## The picture (R146 to R151) -/

theorem reportFall : State.Outlasts b s a.reportFall := by
  unfold State.reportFall
  split
  · exact h.report
  · exact h

theorem rampDownRequest : State.Outlasts b s a.rampDownRequest := by
  have hkept (n : Nat) : (a.monitor.rampDown n).source = a.monitor.source := by
    unfold Crosspoint.rampDown
    split <;> rfl
  unfold State.rampDownRequest
  dsimp only
  repeat' split
  · exact h.report
  · exact h
  · exact (h.setMonitor (by rw [hkept]; exact id)).report
  · exact h.setMonitor (by rw [hkept]; exact id)
  · exact (h.setMonitor (by rw [hkept]; exact id)).report
  · exact h.setMonitor (by rw [hkept]; exact id)

theorem classStep {k} : State.Outlasts b s (a.classStep k) := by
  unfold State.classStep
  split
  · exact h
  · exact h.reportFall.setMonitor fun _ => nofun

theorem makeCut {k} : State.Outlasts b s (a.makeCut k) := by
  refine h.step fun hout => ?_
  have hsource : a.cutSource k ≠ .bay b := by
    cases k with
    | menu => exact nofun
    | bay c =>
      rw [State.cutSource_bay]
      split
      next hrun =>
        intro heq
        have hpowered := hout.unpowered
        rw [← Source.bay.inj heq, hrun] at hpowered
        exact absurd hpowered (by decide)
      next => exact nofun
  have htaken : (a.monitor.take (a.cutSource k) a.rampLength).source ≠ .bay b := by
    unfold Crosspoint.take Crosspoint.rampUp
    repeat' split
    · exact nofun
    · exact hsource
    · exact hsource
  unfold State.makeCut State.reportFallIfBlank
  split
  · exact ((refl a).reportFall.setMonitor fun _ => htaken).report
  · exact ((refl a).setMonitor fun _ => htaken).report

theorem cutRequest {k} : State.Outlasts b s (a.cutRequest k) := by
  have hrecorded : State.Outlasts b s (a.setMonitor { a.monitor with cut := some k }) := h.setMonitor id
  unfold State.cutRequest
  dsimp only
  split
  · exact hrecorded.classStep
  · exact hrecorded.classStep.makeCut

theorem withdrawCut : State.Outlasts b s a.withdrawCut := h.setMonitor id

/-! ## Handovers (R156 to R170) -/

theorem afterRelease {r} : State.Outlasts b s (a.afterRelease r) := by
  unfold State.afterRelease
  split
  · exact h.setRecord.powerRequest
  · exact h.setRecord.cutRequest

theorem rampDone : State.Outlasts b s a.rampDone := by
  unfold State.rampDone
  repeat' split
  · exact h.afterRelease
  all_goals exact h

theorem ready {k} : State.Outlasts b s (a.ready k) := by
  unfold State.ready
  repeat' split
  · exact h.setRecord.cutRequest
  all_goals exact h

theorem setPhase {p} : State.Outlasts b s (a.setPhase p) := by
  unfold State.setPhase
  split
  · exact h.setRecord
  all_goals exact h

theorem quietRequest : State.Outlasts b s a.quietRequest := by
  unfold State.quietRequest
  repeat' split
  · exact h.report
  · exact h.setPanel.setRouting.report
  · exact h.setRouting

theorem cutOverRelease {r} : State.Outlasts b s (a.cutOverRelease r) := by
  unfold State.cutOverRelease
  repeat' split
  · exact h
  · exact h
  · exact h.setRecord.releaseOrigin

theorem cutDone {src} : State.Outlasts b s (a.cutDone src) := by
  unfold State.cutDone
  repeat' split
  · exact h.cutOverRelease.setPhase.quietRequest
  all_goals exact h

theorem redirect {r} : State.Outlasts b s (a.redirect r) := by
  unfold State.redirect
  split
  · exact h
  · exact h.afterRelease
  · exact h.withdrawCut.afterRelease
  · exact h

theorem targetFailed {k why} : State.Outlasts b s (a.targetFailed k why) := by
  unfold State.targetFailed
  repeat' split
  · exact h.setRecord
  · exact h.setRecord.notify.redirect
  all_goals exact h

theorem targetCools {k} : State.Outlasts b s (a.targetCools k) := by
  unfold State.targetCools
  repeat' split
  · exact h
  · exact h
  · exact h
  · exact h
  · exact h.withdrawCut.setRecord
  · exact h.setRecord
  · exact h

theorem releaseParts {k} : State.Outlasts b s (a.releaseParts k) := by
  cases k with
  | menu => exact h
  | bay c =>
    have hstopped : State.Outlasts b s a.stopRoutePulses := h.setRouting
    exact hstopped.credits (State.Credits.releaseCredit (.refl _)) (State.Departs.releaseCredit (.refl _))

theorem begin_menu {c} : State.Outlasts b s (a.begin .menu c) := by
  have hbegun : State.Outlasts b s (((a.setRecord (.begun a.beginOrigin .menu c)).setProtected []).notify
      (.stageBegun a.beginOrigin .menu c)) := h.setRecord.setProtected.notify
  exact hbegun.releaseParts.rampDownRequest

theorem bayLost {k c} : State.Outlasts b s (a.bayLost k c) := by
  unfold State.bayLost
  repeat' split
  · exact h
  · exact h.begin_menu
  · exact h
  · exact h.setRecord
  · exact h

theorem enterActive {k} : State.Outlasts b s (a.enterActive k) := by
  unfold State.enterActive
  split
  next hdeferred => exact h.setDeferred fun _ => .inr (by rw [hdeferred]; exact nofun)
  next => exact h

theorem enterStage {k} : State.Outlasts b s (a.enterStage k) := by
  cases k with
  | menu => exact h.setStage.setPanel
  | bay c => exact h.setStage.enterActive.setRouting

theorem followOn {r} : State.Outlasts b s (a.followOn r) := by
  unfold State.followOn
  split
  · exact h.begin_menu
  · exact h
  · exact h

theorem quietGrant : State.Outlasts b s a.quietGrant := by
  unfold State.quietGrant
  repeat' split
  · exact h.enterStage.setProtected.notify.followOn
  all_goals exact h

/-! ## Reports taken (R155) -/

theorem takeReport {r} : State.Outlasts b s (a.takeReport r) := by
  cases r with
  | rampDone => exact h.rampDone
  | cutDone src => exact h.cutDone
  | ready k => exact h.ready
  | failed k why => exact h.targetFailed
  | loss k c => exact h.bayLost
  | cutToCooling k => exact h.targetCools
  | quietGrant => exact h.quietGrant
  | feederIdle k => exact h.feederIdle

theorem takeOrLeave {r} : State.Outlasts b s (a.takeOrLeave r) := by
  unfold State.takeOrLeave
  repeat' split
  · exact h.drawn.takeReport
  · exact h.drawn.setLate
  · exact h.takeReport

omit h in
theorem drainWith {n : Nat} {a : State} (h : State.Outlasts b s a) : State.Outlasts b s (a.drainWith n) := by
  induction n generalizing a with
  | zero => exact h.setReports
  | succ n ih =>
    unfold State.drainWith
    split
    · exact h
    · exact ih h.setReports.takeOrLeave

theorem takeLate : State.Outlasts b s a.takeLate := by
  unfold State.takeLate
  split
  · exact h
  · exact h.setLate.takeReport

theorem drain : State.Outlasts b s a.drain := h.takeLate.drainWith

end

end State.Outlasts

/-! ## A bay cut to a state without power -/

/-- A bay cut by the event at hand is out, with the record its new state gives. -/
theorem State.out_cutPower {s : State} {b : Bay} {into : PowerState} (h : (s.bay b).state.powered = true)
    (hinto : into.powered = false) (hoff : into ≠ .off) : (s.cutPower b into).Out b where
  dark := State.cutPower_dark h hinto
  unpowered := by
    rw [State.cutPower_bay_same s b into]
    exact hinto
  notOff := by
    rw [State.cutPower_bay_same s b into]
    exact hoff
  warm := by
    rw [State.cutPower_warm s b into]
    simp

end Sys2Proof.Machine
end

section
/-! What a crash, a trip and a DISABLE_BAY share: the power cut, the notices and the reports behind it (R45, R118, R125,
R127, R129, R135). -/

namespace Sys2Proof.Machine

/-! ## Reports that change nothing (R155) -/

/-- A report that changes nothing, whatever reports wait behind it. -/
def State.Ignores (v : State) (r : Report) : Prop :=
  ∀ rest, (v.setReports rest).mayWait r = false ∧ (v.setReports rest).takeReport r = v.setReports rest

section
variable {v : State} {h : HandoverRecord}

theorem State.drainWith_skips {rs : List Report} (hskip : ∀ r ∈ rs, v.Ignores r) (qs : List Report) (n : Nat) :
    (v.setReports (rs ++ qs)).drainWith (n + rs.length) = (v.setReports qs).drainWith n := by
  induction rs with
  | nil => rfl
  | cons r rest ih =>
    obtain ⟨hwait, htake⟩ := hskip r List.mem_cons_self (rest ++ qs)
    have hstep : ((v.setReports (r :: (rest ++ qs))).setReports (rest ++ qs)).takeOrLeave r = v.setReports (rest ++ qs) :=
      (State.takeOrLeave_now hwait).trans htake
    have hcons := State.drainWith_cons (s := v.setReports (r :: (rest ++ qs))) rfl (n + rest.length)
    rw [hstep, ih fun x hx => hskip x (List.mem_cons_of_mem r hx)] at hcons
    exact hcons

theorem State.ignores_rampDone (hstage : v.stage = .handover h) (hphase : h.phase ≠ .release) : v.Ignores .rampDone :=
  fun rest => ⟨rfl, State.rampDone_handover (s := v.setReports rest) hstage hphase⟩

/-- A LOSS of another bay than the target, or not in QUIET (R169). -/
theorem State.ignores_loss (hstage : v.stage = .handover h) {b : Bay} (hother : h.phase ≠ .quiet ∨ h.target ≠ .bay b)
    (c : LossCause) : v.Ignores (.loss b c) := fun rest => by
  have hstage' : (v.setReports rest).stage = .handover h := hstage
  constructor
  · show (v.setReports rest).isActive b = false
    unfold State.isActive
    rw [hstage']
    rfl
  · show (v.setReports rest).bayLost b c = _
    unfold State.bayLost
    rw [hstage']
    exact if_neg fun ⟨htarget, hphase⟩ => hother.elim (· hphase) (· htarget)

/-- The target's cut to COOLING in RELEASE and in POWER (R157, R158). -/
theorem State.ignores_cutToCooling (hstage : v.stage = .handover h) (hphase : h.phase = .power ∨ h.phase = .release)
    (b : Bay) : v.Ignores (.cutToCooling b) := fun rest => by
  have hstage' : (v.setReports rest).stage = .handover h := hstage
  constructor
  · show (v.setReports rest).isCutTarget b = false
    unfold State.isCutTarget
    rw [hstage']
    show (decide (h.phase = .classChange) && decide (h.target = .bay b)) = false
    rcases hphase with hp | hp <;> rw [hp] <;> rfl
  · show (v.setReports rest).targetCools b = _
    unfold State.targetCools
    rw [hstage']
    split
    next heq => exact absurd heq nofun
    next heq => exact absurd heq nofun
    next x heq =>
      obtain rfl := Stage.handover.inj heq
      rcases hphase with hp | hp <;> rw [hp] <;> exact ite_self _

end

/-! ## The reports behind a power loss (R135, R155) -/

section
variable {s u : State} {b : Bay} {h : HandoverRecord}

/-- A stop of a bay reported to the handover: the loss of an active bay or an origin, then the stop of a target. -/
def State.reportDown (u : State) (b : Bay) (c : LossCause) (r : Option FailReason) : State :=
  (u.reportLoss b c).reportTarget b r

/-- The LOSS report, if the bay is active or an origin. -/
def State.lossReports (u : State) (b : Bay) (c : LossCause) : List Report :=
  if u.isActive b || u.isOrigin b then [.loss b c] else []

/-- What a target's stop reports. -/
def State.targetReports (u : State) (b : Bay) (r : Option FailReason) : List Report :=
  if u.isTarget b then [r.elim (.cutToCooling b) (.failed b)] else []

theorem State.reportLoss_eq (u : State) (b : Bay) (c : LossCause) :
    u.reportLoss b c = u.setReports (u.reports ++ u.lossReports b c) := by
  unfold State.reportLoss State.lossReports
  split
  · rfl
  · rw [List.append_nil]
    rfl

theorem State.reportTarget_eq (u : State) (b : Bay) (r : Option FailReason) :
    u.reportTarget b r = u.setReports (u.reports ++ u.targetReports b r) := by
  unfold State.reportTarget State.targetReports
  split
  · cases r <;> rfl
  · rw [List.append_nil]
    rfl

theorem State.reportDown_eq (u : State) (b : Bay) (c : LossCause) (r : Option FailReason) :
    u.reportDown b c r = u.setReports (u.reports ++ (u.lossReports b c ++ u.targetReports b r)) := by
  unfold State.reportDown
  rw [State.reportLoss_eq, State.reportTarget_eq, ← List.append_assoc]
  rfl

/-- A bay in no role has nothing to report. -/
theorem State.reportDown_noRole (h : u.NoRole b) (c : LossCause) (r : Option FailReason) : u.reportDown b c r = u := by
  obtain ⟨hactive, horigin, htarget⟩ := h
  have hloss : u.reportLoss b c = u := if_neg (by rw [hactive, horigin]; exact Bool.false_ne_true)
  unfold State.reportDown
  rw [hloss]
  exact if_neg (by rw [htarget]; exact Bool.false_ne_true)

theorem State.Outlasts.reportDown {c : LossCause} {r : Option FailReason} (h : State.Outlasts b s u) {k : Bay} :
    State.Outlasts b s (u.reportDown k c r) := h.reportLoss.reportTarget

/-- A ramp that a cut ends past RELEASE, and a LOSS in a handover that it means nothing to. -/
theorem State.ignores_passed (hstage : u.stage = .handover h) (hother : h.phase ≠ .quiet ∨ h.target ≠ .bay b)
    (hreports : u.reports = [] ∨ h.phase ≠ .release ∧ u.reports = [.rampDone]) (c : LossCause) :
    ∀ x ∈ u.reports ++ u.lossReports b c, u.Ignores x := fun x hx => by
  rcases List.mem_append.1 hx with hfall | hloss
  · rcases hreports with hnone | ⟨hpast, hone⟩
    · rw [hnone] at hfall
      exact absurd hfall List.not_mem_nil
    · rw [hone] at hfall
      rw [List.mem_singleton.1 hfall]
      exact State.ignores_rampDone hstage hpast
  · unfold State.lossReports at hloss
    split at hloss
    · rw [List.mem_singleton.1 hloss]
      exact State.ignores_loss hstage hother c
    · exact absurd hloss List.not_mem_nil

theorem State.length_passed (hreports : u.reports = [] ∨ h.phase ≠ .release ∧ u.reports = [.rampDone]) (c : LossCause) :
    (u.reports ++ u.lossReports b c).length ≤ 2 := by
  have hfall : u.reports.length ≤ 1 := by
    rcases hreports with hnone | ⟨_, hone⟩
    · rw [hnone]; decide
    · rw [hone]; decide
  have hloss : (u.lossReports b c).length ≤ 1 := by
    unfold State.lossReports
    split
    · exact Nat.le_refl 1
    · exact Nat.zero_le 1
  rw [List.length_append]
  omega

/-- The reports of a stop in a handover: those of the target are left to be taken. -/
theorem State.reportDown_drain (hlate : u.late = none) (hstage : u.stage = .handover h)
    (hother : h.phase ≠ .quiet ∨ h.target ≠ .bay b)
    (hreports : u.reports = [] ∨ h.phase ≠ .release ∧ u.reports = [.rampDone]) (c : LossCause) (r : Option FailReason) :
    ∃ n, (u.reportDown b c r).drain = (u.setReports (u.targetReports b r)).drainWith (n + 3) := by
  have hlen := State.length_passed (b := b) hreports c
  refine ⟨61 - (u.reports ++ u.lossReports b c).length, ?_⟩
  have hskips := State.drainWith_skips (State.ignores_passed (b := b) hstage hother hreports c) (u.targetReports b r)
    (61 - (u.reports ++ u.lossReports b c).length + 3)
  rw [← hskips, State.reportDown_eq, ← List.append_assoc]
  refine (State.drain_of_late_none (s := u.setReports (u.reports ++ u.lossReports b c ++ u.targetReports b r)) hlate).trans ?_
  exact congrArg (State.drainWith _) (show 64 = _ by omega)

/-- A stop that the handover does not fail by: a crash of its target in RELEASE or POWER, or any of another bay. -/
theorem State.reportDown_ignored (hlate : u.late = none) (hstage : u.stage = .handover h)
    (hreports : u.reports = [] ∨ h.phase ≠ .release ∧ u.reports = [.rampDone]) {r : Option FailReason}
    (hr : r = none ∧ (h.phase = .power ∨ h.phase = .release) ∨ h.target ≠ .bay b) (c : LossCause) :
    (u.reportDown b c r).drain = u.setReports [] := by
  have hother : h.phase ≠ .quiet ∨ h.target ≠ .bay b :=
    hr.imp_left fun ⟨_, hphase⟩ => by rcases hphase with hp | hp <;> rw [hp] <;> exact nofun
  obtain ⟨n, hdrain⟩ := State.reportDown_drain (b := b) hlate hstage hother hreports c r
  rw [hdrain]
  unfold State.targetReports
  rw [State.isTarget_handover hstage b]
  split
  next hmine =>
    obtain ⟨rfl, hphase⟩ := hr.resolve_right (not_not.2 (of_decide_eq_true hmine))
    have hskips := State.drainWith_skips (v := u) (rs := [.cutToCooling b])
      (fun x hx => List.mem_singleton.1 hx ▸ State.ignores_cutToCooling hstage hphase b) [] (n + 2)
    exact hskips.trans (State.drainWith_nil (s := u.setReports []) rfl _)
  next => exact State.drainWith_nil (s := u.setReports []) rfl _

/-- A target's failure in RELEASE or POWER, of whose reports only the last one counts. -/
theorem State.reportDown_fails (hlate : u.late = none) (hstage : u.stage = .handover h)
    (hphase : h.phase = .power ∨ h.phase = .release)
    (hreports : u.reports = [] ∨ h.phase ≠ .release ∧ u.reports = [.rampDone])
    (htarget : h.target = .bay b) (why : FailReason) (c : LossCause) :
    ∃ n, (u.reportDown b c (some why)).drain = ((u.setReports []).targetFailed b why).drainWith (n + 2) := by
  have hclass : h.phase ≠ .classChange := by rcases hphase with hp | hp <;> rw [hp] <;> exact nofun
  have hquiet : h.phase ≠ .quiet := by rcases hphase with hp | hp <;> rw [hp] <;> exact nofun
  have hfails : u.targetReports b (some why) = [.failed b why] :=
    if_pos ((State.isTarget_handover hstage b).trans (decide_eq_true htarget))
  obtain ⟨n, hdrain⟩ := State.reportDown_drain (b := b) hlate hstage (.inl hquiet) hreports c (some why)
  rw [hfails] at hdrain
  exact ⟨n, hdrain.trans
    (State.report_drainWith (s := u.setReports []) rfl (State.mayWait_failed (s := u.setReports []) hstage hclass why) _)⟩

end

/-! ## A bay cut and told of (R118, R136) -/

/-- A bay cut to a state, with the record it then has and the notices told. -/
structure State.CutTold (s u : State) (b : Bay) (into : PowerState) (p : BayPower) (ns : List Notice) : Prop where
  bays : ∀ d : Bay, u.bay d = if d = b then p else s.bay d
  power : u.power = { s.power with bays := u.power.bays, warm := s.power.warm.filter fun k => decide (k ≠ b) }
  tells : (s.cutPower b into).Tells u ns
  frame : u = { s.cutPower b into with power := u.power, links := u.links }

section
variable {s u : State} {b : Bay} {into : PowerState} {p : BayPower} {ns : List Notice}

/-- A bay's record in the state its cut enters. -/
def BayPower.cutTo (p : BayPower) (into : PowerState) : BayPower :=
  { p with state := into, deferred := none, releasePending := false, timer := cutTimer into }

theorem State.cutTold (s : State) (b : Bay) (into : PowerState) :
    s.CutTold (s.cutPower b into) b into ((s.bay b).cutTo into) [] where
  bays d := by
    split
    next hd => rw [hd, State.cutPower_bay_same, BayPower.cutTo]
    next hd => exact State.cutPower_bay_other s b into hd
  power := by rw [State.cutPower_power]; rfl
  tells _ := rfl
  frame := rfl

namespace State.CutTold

theorem warmPosition (h : s.CutTold u b into p ns) : u.warmPosition b = none := by
  unfold State.warmPosition
  rw [positionIn_eq_none, h.power, List.mem_filter]
  simp

theorem notify (h : s.CutTold u b into p ns) (e : BayEvent) :
    s.CutTold (u.notifyBay e b) b into p (ns ++ [.bay e b p.state p.attempts none]) where
  bays := h.bays
  power := h.power
  tells := h.tells.trans (State.notifyBay_tells (u := u) rfl ((h.bays b).trans (if_pos rfl)) h.warmPosition)
  frame := congrArg (fun x : State => x.setLinks (u.notifyBay e b).links) h.frame

theorem setBay (h : s.CutTold u b into p ns) (q : BayPower) : s.CutTold (u.setBay b q) b into q ns where
  bays d := by
    split
    next hd => rw [hd, State.bay_setBay_same]
    next hd => rw [State.bay_setBay_other u q hd, h.bays, if_neg hd]
  power := congrArg (fun x : Power => { x with bays := (u.setBay b q).power.bays }) h.power
  tells := h.tells
  frame := congrArg (fun x : State => x.setPower (u.setBay b q).power) h.frame

section
variable (h : s.CutTold u b into p ns)
include h

theorem stage : u.stage = s.stage := by
  rw [h.frame]
  exact State.cutPower_stage s b into

theorem bay_same : u.bay b = p := (h.bays b).trans (if_pos rfl)

/-- The bay's filters and checker are DARK. -/
theorem loses (hpowered : (s.bay b).state.powered = true) : s.LosesPower u b p where
  bays := h.bays
  power := h.power
  filters := by
    have hcut := (State.losesPower_cutPower (into := into) hpowered).filters
    have hfilters : u.filters = (s.cutPower b into).filters := by rw [h.frame]
    simp only [State.filter] at hcut ⊢
    rwa [hfilters]
  checker := by
    have hcut := (State.losesPower_cutPower (into := into) hpowered).checker
    have hcheckers : u.checkers = (s.cutPower b into).checkers := by rw [h.frame]
    unfold State.checker at hcut ⊢
    rwa [hcheckers]

/-- The bay is out, whatever its role and units. -/
theorem out (hpowered : (s.bay b).state.powered = true) (hinto : into.powered = false) (hp : p.state = into)
    (hoff : into ≠ .off) : u.Out b where
  dark := by
    have hframe := h.frame
    exact State.Outlasts.dark_congr (by rw [hframe]) (by rw [hframe]) (by rw [hframe]) (by rw [hframe]) (by rw [hframe])
      (State.cutPower_dark hpowered hinto)
  unpowered := by rw [h.bay_same, hp]; exact hinto
  notOff := by rw [h.bay_same, hp]; exact hoff
  warm := by
    rw [h.power]
    simp

end

end State.CutTold

/-! ## Cuts by what they touch -/

theorem State.LosesPower.congr {t : State} (h : s.LosesPower u b p) (hpower : t.power = u.power)
    (hfilters : t.filters = u.filters) (hcheckers : t.checkers = u.checkers) : s.LosesPower t b p where
  bays d := (State.bay_congr hpower d).trans (h.bays d)
  power := by rw [hpower]; exact h.power
  filters := by
    have hdark := h.filters
    simp only [State.filter, hfilters] at hdark ⊢
    exact hdark
  checker := by
    unfold State.checker
    rw [hcheckers]
    exact h.checker

/-- The cut of a bay whose feeder is IDLE and which the gate does not charge. -/
theorem State.cutPower_uncharged (hpowered : (s.bay b).state.powered = true) (hidle : (s.feeder b).state = .idle)
    (hgate : s.gate.bay ≠ some b) (into : PowerState) : s.cutPower b into = { s.enterCut b into with
      filters := s.filters.set b s.filters[b].cut, routing := s.unrouted b
      checkers := s.checkers.set b (s.checker b).cut, monitor := s.blanked b
      reports := s.reports ++ s.fallReports b } := by
  rw [State.cutPower_powered hpowered, State.handOnCut_eq,
    State.creditLoss_uninvolved (s := s.enterCut b into) hidle hgate]
  rfl

theorem State.CutTold.uncharged (h : s.CutTold u b into p ns) (hpowered : (s.bay b).state.powered = true)
    (hidle : (s.feeder b).state = .idle) (hgate : s.gate.bay ≠ some b) : s.Tells u ns ∧ u = { s with
      power := u.power, filters := u.filters, routing := s.unrouted b, checkers := u.checkers, monitor := s.blanked b
      reports := s.reports ++ s.fallReports b, links := u.links } := by
  have hcut := State.cutPower_uncharged hpowered hidle hgate into
  have hlinks : (s.cutPower b into).links = s.links := (congrArg State.links hcut).trans rfl
  have hframe := h.frame.trans (congrArg (fun x : State => { x with power := u.power, links := u.links }) hcut)
  have hfilters : u.filters = s.filters.set b s.filters[b].cut := (congrArg State.filters hframe).trans rfl
  have hcheckers : u.checkers = s.checkers.set b (s.checker b).cut := (congrArg State.checkers hframe).trans rfl
  refine ⟨(State.tells_nil hlinks).trans h.tells, ?_⟩
  rw [hfilters, hcheckers]
  exact hframe

theorem State.unrouted_inactive (h : s.isActive b = false) : s.unrouted b = s.routing :=
  if_neg (by rw [h]; exact Bool.false_ne_true)

theorem State.fallReports_hidden (h : s.monitor.source ≠ .bay b) : s.fallReports b = [] := if_neg fun hboth => h hboth.1

theorem State.blanked_hidden (h : s.monitor.source ≠ .bay b) : s.blanked b = s.monitor := if_neg h

/-- A bay in no role, without units, charge or picture: the cut and its notices are all. -/
theorem State.CutTold.drain_idle (h : s.CutTold u b into p ns) (hs : s.Settled) (hpowered : (s.bay b).state.powered = true)
    (hrole : s.NoRole b) (hfree : s.Uninvolved b) (c : LossCause) (r : Option FailReason) :
    (u.reportDown b c r).drain = u ∧ s.Tells u ns ∧ u = { s with
      power := u.power, filters := u.filters, checkers := u.checkers, links := u.links } := by
  obtain ⟨hidle, hgate, hsource⟩ := hfree
  obtain ⟨hactive, _, _⟩ := id hrole
  obtain ⟨htells, hframe⟩ := h.uncharged hpowered hidle hgate
  rw [State.unrouted_inactive hactive, State.blanked_hidden hsource, State.fallReports_hidden hsource,
    List.append_nil] at hframe
  have hsettled : u.Settled := by
    rw [hframe]
    exact hs
  refine ⟨?_, htells, hframe⟩
  rw [State.reportDown_noRole (hrole.congr h.stage)]
  exact State.drain_settled u hsettled

/-- A bay in no role that the gate does not charge, whose feeder holds units: they leave it first. -/
theorem State.CutTold.drain_busy (h : s.CutTold u b into p ns) (hs : s.Settled) (hpowered : (s.bay b).state.powered = true)
    (hrole : s.NoRole b) (hgate : s.gate.bay ≠ some b) (hsource : s.monitor.source ≠ .bay b)
    (hbusy : (s.feeder b).state ≠ .idle) (hpending : p.releasePending = false) (c : LossCause) (r : Option FailReason) :
    ∃ t, (u.reportDown b c r).drain = t ∧ s.LosesPower t b p ∧ s.UnitsLeave t b
      ∧ ((∀ k, (s.feeder b).slot = some k → k.status ≠ .confirmedInTrail) → s.Tells t (s.returnNotices t b ++ ns))
      ∧ t = { s with
        power := t.power, store := t.store, audit := t.audit, feeders := t.feeders, pulses := t.pulses
        filters := t.filters, checkers := t.checkers, intake := t.intake, links := t.links } := by
  obtain ⟨hactive, _, _⟩ := id hrole
  obtain ⟨w, hw⟩ : ∃ w, w = s.enterCut b into := ⟨_, rfl⟩
  have hwbusy : (w.feeder b).state ≠ .idle := by rw [hw]; exact hbusy
  have hwgate : w.gate.bay ≠ some b := by rw [hw]; exact hgate
  have hfree (n : UnitNo) : w.gate.owns b n = false := Gate.owns_eq_false fun ⟨_, hbay, _⟩ => hwgate hbay
  have hcredit : w.creditLoss b = w.feederPowerLoss b := by
    have hleaves : w.gateLeaves b .powerLoss = w := if_neg hwgate
    unfold State.creditLoss
    rw [if_neg fun hboth => hwgate hboth.2, hleaves]
  have hemptied := State.feederPowerLoss_emptied hwbusy hfree
  have hleave := State.feederPowerLoss_unitsLeave hwbusy hfree
  have hreturns := State.feederPowerLoss_returns hwbusy hfree
  have hcut : s.cutPower b into = { w.creditLoss b with
      filters := w.filters.set b w.filters[b].cut, routing := w.unrouted b
      checkers := w.checkers.set b (w.checker b).cut, monitor := w.blanked b
      reports := (w.creditLoss b).reports ++ w.fallReports b } := by
    rw [State.cutPower_powered hpowered, ← hw]
    exact w.handOnCut_eq b
  rw [hcredit] at hcut
  obtain ⟨e, he⟩ : ∃ e, e = w.feederPowerLoss b := ⟨_, rfl⟩
  rw [← he] at hcut hemptied hleave hreturns
  have hroutes : w.unrouted b = s.routing := by rw [hw]; exact State.unrouted_inactive hactive
  have hblank : w.blanked b = s.monitor := by rw [hw]; exact State.blanked_hidden hsource
  have hfall : w.fallReports b = [] := by rw [hw]; exact State.fallReports_hidden hsource
  rw [hroutes, hblank, hfall, List.append_nil] at hcut
  have hereports : e.reports = [.feederIdle b] := by
    rw [hemptied.frame, hw]
    exact congrArg (· ++ [Report.feederIdle b]) hs.1
  have hlinks : (s.cutPower b into).links = e.links := (congrArg State.links hcut).trans rfl
  have hu : u = { s with
      power := u.power, store := e.store, audit := e.audit, feeders := e.feeders, pulses := e.pulses
      filters := w.filters.set b w.filters[b].cut, checkers := w.checkers.set b (w.checker b).cut
      intake := e.intake, links := u.links, reports := [.feederIdle b] } := by
    have hframe := h.frame.trans (congrArg (fun x : State => { x with power := u.power, links := u.links }) hcut)
    have hall := hframe.trans (congrArg (fun x : State => { x with
      filters := w.filters.set b w.filters[b].cut, routing := s.routing
      checkers := w.checkers.set b (w.checker b).cut, monitor := s.monitor, power := u.power, links := u.links })
      hemptied.frame)
    have hnone : s.reports ++ [Report.feederIdle b] = [.feederIdle b] := congrArg (· ++ [Report.feederIdle b]) hs.1
    rw [hw] at hall ⊢
    rw [← hnone]
    exact hall
  have hstore : u.store = e.store := by rw [hu]
  have haudit : u.audit = e.audit := by rw [hu]
  have hfeeders : u.feeders = e.feeders := by rw [hu]
  have hpulses : u.pulses = e.pulses := by rw [hu]
  have hintake : u.intake = e.intake := by rw [hu]
  have hfilters : u.filters = w.filters.set b w.filters[b].cut := by rw [hu]
  have hcheckers : u.checkers = w.checkers.set b (w.checker b).cut := by rw [hu]
  have hlate : u.late = none := by
    rw [hu]
    exact hs.2
  have hreports : u.reports = [.feederIdle b] := by rw [hu]
  have hshows : (u.setReports []).ShowsAs e := by
    have hflags : u.flags = e.flags := by
      rw [hu, hemptied.frame, hw]
      rfl
    have htables : u.tables = e.tables := by
      rw [hu, hemptied.frame, hw]
      rfl
    exact ⟨hintake, hstore, hflags, htables⟩
  refine ⟨u.setReports [], ?_, (h.loses hpowered).congr rfl rfl rfl, ?_, fun hplain => ?_, ?_⟩
  · rw [State.reportDown_noRole (hrole.congr h.stage)]
    exact State.drain_idle hlate (.inr hreports) (.inl (by rw [h.bay_same]; exact hpending))
  · subst hw
    exact
      { feeder := (State.feeder_congr hfeeders b).trans hleave.feeder
        others := fun d hd =>
          (congrArg Feeder.units (State.feeder_congr hfeeders d)).trans (hleave.others d hd)
        returned := fun hplain => by
          obtain ⟨hgiven, hsame⟩ := hleave.returned hplain
          exact ⟨hstore.trans hgiven, haudit.trans hsame⟩
        counted := fun k hslot hstatus => by
          obtain ⟨hgiven, hmoved⟩ := hleave.counted k hslot hstatus
          exact ⟨hstore.trans hgiven, haudit.trans hmoved⟩ }
  · obtain ⟨_, htells⟩ := hreturns (by rw [hw]; exact hplain)
    have hnotices : s.returnNotices (u.setReports []) b = w.returnNotices e b := by
      unfold State.returnNotices
      dsimp only
      rw [State.storeNotices_congr hshows, hw]
      rfl
    have hcuts : s.Tells (s.cutPower b into) (w.returnNotices e b) := fun l => by
      rw [State.link_congr hlinks, htells l, hw]
      rfl
    rw [hnotices]
    exact hcuts.trans h.tells
  · have hback : s.setReports [] = s := congrArg s.setReports hs.1.symm
    have hshape := (congrArg (State.setReports · []) hu).trans (congrArg (fun x : State => { x with
      power := u.power, store := e.store, audit := e.audit, feeders := e.feeders, pulses := e.pulses
      filters := w.filters.set b w.filters[b].cut, checkers := w.checkers.set b (w.checker b).cut
      intake := e.intake, links := u.links }) hback)
    rw [← hstore, ← haudit, ← hfeeders, ← hpulses, ← hintake, ← hfilters, ← hcheckers] at hshape
    exact hshape

end

end Sys2Proof.Machine
end

section
/-! Crashes: by the boot limit, the field gap or the fourth bad field in a row (R45, R118, R127, R135, R142, R157, R158,
R167, R172). -/

namespace Sys2Proof.Machine

section
variable {s v : State} {b : Bay} {i : Instr}

/-- Each of the three is a crash of the bay, but for the checker's own record. -/
theorem State.CrashesBy.crashes (h : s.CrashesBy b i) : (s.bay b).state.powered = true
    ∧ ∃ cs, exec i s = .next (({ s with checkers := cs } : State).crash b).drain := by
  rcases h with ⟨rfl, hboot⟩ | ⟨rfl, hlock, hrun⟩ | ⟨lines, length, rfl, hlock, hbegun, hthree, hrun, hbad⟩
  · exact ⟨by rw [hboot]; rfl, s.checkers, congrArg Host.Outcome.next (if_pos hboot)⟩
  · refine ⟨by rw [hrun]; rfl, ?_⟩
    rw [exec_fieldGapExpiry_locked hlock]
    exact ⟨_, congrArg (fun v : State => Host.Outcome.next v.drain) (State.lostReport_running (s := s.setChecker b _) hrun)⟩
  · refine ⟨by rw [hrun]; rfl, ?_⟩
    obtain ⟨c, hc⟩ : ∃ c, c = (s.checker b).field (s.profile b).general.lineClass lines length := ⟨_, rfl⟩
    have hlost : c.state = .lost := by
      rw [hc, Checker.field_locked hlock, hbad]
      exact congrArg Checker.state (if_pos (Nat.succ_le_succ hthree))
    rw [exec_fieldSyncPulse_field (by rw [hlock]; exact nofun) hbegun hc.symm,
      State.checkerReport_lost hlock (by rw [State.checker_setChecker_same]; exact hlost)]
    exact ⟨_, congrArg (fun v : State => Host.Outcome.next v.drain) (State.lostReport_running (s := s.setChecker b c) hrun)⟩

/-! ## What a crash leaves, by the release-pending mark and the attempts -/

theorem State.crash_pending (h : (v.bay b).releasePending = true) : ∃ u, v.crash b = u.reportDown b .lost none
    ∧ v.CutTold u b .cooling (v.bay b).cooled [.bay .crashed b .cooling (v.bay b).attempts none] :=
  ⟨_, if_pos h, (v.cutTold b .cooling).notify .crashed⟩

theorem State.crash_out (h : (v.bay b).releasePending = false) (hlast : (v.bay b).attempts = 0) :
    ∃ u, v.crash b = u.reportDown b .lost (some .faulted)
      ∧ v.CutTold u b .faulted ((v.bay b).out .faulted) [.bay .crashed b .faulted 0 none, .bay .faulted b .faulted 0 none] := by
  have htold := ((v.cutTold b .faulted).notify .crashed).notify .faulted
  refine ⟨_, (if_neg (by rw [h]; exact Bool.false_ne_true)).trans (if_pos hlast), ?_⟩
  rw [← hlast]
  exact htold

/-- The deferred request of a crash with an attempt left (R127). -/
theorem State.crash_again (h : (v.bay b).releasePending = false) (hmore : (v.bay b).attempts ≠ 0) :
    ∃ u, v.crash b = u.reportDown b .lost none
      ∧ v.CutTold u b .cooling
        { (v.bay b).cooled with attempts := (v.bay b).attempts - 1, deferred := some (v.crashDeferred b) }
        [.bay .crashed b .cooling ((v.bay b).attempts - 1) none] := by
  have hcut := v.cutTold b .cooling
  have hdeferred : (v.cutPower b .cooling).crashDeferred b = v.crashDeferred b := by
    unfold State.crashDeferred
    rw [State.isTarget_congr (State.cutPower_stage v b .cooling)]
  refine ⟨_, (if_neg (by rw [h]; exact Bool.false_ne_true)).trans (if_neg hmore), ?_⟩
  rw [hdeferred, hcut.bay_same]
  exact (hcut.setBay _).notify .crashed

end

/-! ## A bay in no role -/

theorem crashOfIdleBay : Claims.CrashOfIdleBay := by
  intro s b i hs hrole hidle hgate hsource hpending hcrash
  obtain ⟨_, _, htarget⟩ := id hrole
  obtain ⟨hpowered, cs, hexec⟩ := hcrash.crashes
  let v : State := { s with checkers := cs }
  have hfree : v.Uninvolved b := ⟨hidle, hgate, hsource⟩
  refine ⟨fun hmore => ?_, fun hlast => ?_⟩
  · obtain ⟨u, hcrashed, hcut⟩ := State.crash_again (v := v) hpending hmore
    obtain ⟨hdrain, htells, hframe⟩ := hcut.drain_idle hs hpowered hrole hfree .lost none
    have hnamed : v.crashDeferred b = .recovery := if_neg (by rw [show v.isTarget b = s.isTarget b from rfl, htarget]; exact nofun)
    rw [hcrashed, hdrain] at hexec
    have hlost := hcut.loses hpowered
    refine ⟨u, hexec, ?_, htells, fun d hd => (hcut.bays d).trans (if_neg hd), hlost.checker, hcut.power, ?_⟩
    · rw [hcut.bay_same, hnamed]
      rfl
    · rw [hframe]
  · obtain ⟨u, hcrashed, hcut⟩ := State.crash_out (v := v) hpending hlast
    obtain ⟨hdrain, htells, hframe⟩ := hcut.drain_idle hs hpowered hrole hfree .lost (some .faulted)
    rw [hcrashed, hdrain] at hexec
    have hlost := hcut.loses hpowered
    refine ⟨u, hexec, ?_, htells, fun d hd => (hcut.bays d).trans (if_neg hd), hlost.checker, hcut.power, ?_⟩
    · rw [hcut.bay_same]
      show ({ s.bay b with state := .faulted, deferred := none, releasePending := false, timer := none } : BayPower) = _
      rw [← hlast]
    · rw [hframe]

/-! ## A release-pending bay (R133) -/

theorem crashEndsReleasePending : Claims.CrashEndsReleasePending := by
  intro s b i hs hrole hgate hsource hpending hbusy hcrash
  obtain ⟨hpowered, cs, hexec⟩ := hcrash.crashes
  let v : State := { s with checkers := cs }
  obtain ⟨u, hcrashed, hcut⟩ := State.crash_pending (v := v) hpending
  obtain ⟨t, hdrain, hlost, hleave, htells, hframe⟩ := hcut.drain_busy hs hpowered hrole hgate hsource hbusy rfl .lost none
  rw [hcrashed, hdrain] at hexec
  exact ⟨t, hexec, ⟨hlost.bays, hlost.power, hlost.filters, hlost.checker⟩,
    ⟨hleave.feeder, hleave.others, hleave.returned, hleave.counted⟩, htells, hframe⟩

/-! ## Any bay -/

theorem crashTakesAnyBayDown : Claims.CrashTakesAnyBayDown := by
  intro s b i hs hcrash
  obtain ⟨hpowered, cs, hexec⟩ := hcrash.crashes
  let v : State := { s with checkers := cs }
  have hlasts {u : State} {into : PowerState} {p : BayPower} {ns : List Notice} {r : Option FailReason}
      (hcut : v.CutTold u b into p ns) (hinto : into.powered = false) (hp : p.state = into) (hoff : into ≠ .off) :
      (u.reportDown b .lost r).drain.Dark b ∧ p.Agrees ((u.reportDown b .lost r).drain.bay b) := by
    obtain ⟨hout, hagrees, _⟩ := (State.Outlasts.refl u).reportDown.drain (hcut.out hpowered hinto hp hoff)
    rw [hcut.bay_same] at hagrees
    exact ⟨hout.dark, hagrees⟩
  cases hpending : (s.bay b).releasePending with
  | true =>
    obtain ⟨u, hcrashed, hcut⟩ := State.crash_pending (v := v) hpending
    obtain ⟨hdark, hagrees⟩ := hlasts (r := none) hcut rfl rfl nofun
    rw [hcrashed] at hexec
    refine ⟨_, hexec, hdark, ?_, fun _ => ?_, nofun, nofun⟩
    · rw [hagrees.record]; rfl
    · rw [hagrees.record]; exact ⟨rfl, rfl⟩
  | false =>
    by_cases hlast : (s.bay b).attempts = 0
    · obtain ⟨u, hcrashed, hcut⟩ := State.crash_out (v := v) hpending hlast
      obtain ⟨hdark, hagrees⟩ := hlasts (r := some .faulted) hcut rfl rfl nofun
      rw [hcrashed] at hexec
      have hnone := hagrees.deferred nofun rfl
      refine ⟨_, hexec, hdark, ?_, nofun, fun _ hmore => absurd hlast hmore, fun _ _ => ?_⟩
      · rw [hagrees.record]; rfl
      · rw [hagrees.record, hnone]; rfl
    · obtain ⟨u, hcrashed, hcut⟩ := State.crash_again (v := v) hpending hlast
      obtain ⟨hdark, hagrees⟩ := hlasts (r := none) hcut rfl rfl nofun
      rw [hcrashed] at hexec
      refine ⟨_, hexec, hdark, ?_, nofun, fun _ _ => ?_, fun _ hnone => absurd hnone hlast⟩
      · rw [hagrees.record]; rfl
      · rw [hagrees.record]; exact ⟨rfl, rfl⟩

/-! ## The target of a handover (R127, R135, R167) -/

section
variable {s v u : State} {b : Bay} {into : PowerState} {p : BayPower} {ns : List Notice} {h : HandoverRecord}

/-- A bay of a handover cut without units or charge: the reports it leaves. -/
theorem State.CutTold.inHandover (hcut : v.CutTold u b into p ns) (hs : v.Settled)
    (hpowered : (v.bay b).state.powered = true) (hidle : (v.feeder b).state = .idle) (hgate : v.gate.bay ≠ some b)
    (hstage : v.stage = .handover h) : v.Tells u ns ∧ u.late = none ∧ u.stage = .handover h
      ∧ u.reports = v.fallReports b ∧ u.setReports [] = { v with
        power := u.power, filters := u.filters, checkers := u.checkers, monitor := v.blanked b, links := u.links } := by
  obtain ⟨htells, hframe⟩ := hcut.uncharged hpowered hidle hgate
  have hactive : v.isActive b = false := by
    unfold State.isActive
    rw [hstage]
    rfl
  rw [State.unrouted_inactive hactive] at hframe
  have hback : v.setReports [] = v := congrArg v.setReports hs.1.symm
  refine ⟨htells, ?_, hcut.stage.trans hstage, ?_, ?_⟩
  · rw [hframe]
    exact hs.2
  · rw [hframe, hs.1]
    rfl
  · exact (congrArg (State.setReports · []) hframe).trans (congrArg (fun x : State => { x with
      power := u.power, filters := u.filters, checkers := u.checkers, monitor := v.blanked b, links := u.links }) hback)

theorem State.fallReports_handover (hphase : h.phase ≠ .release ∨ ¬(v.monitor.source = .bay b ∧ v.monitor.audio = .falling)) :
    v.fallReports b = [] ∨ h.phase ≠ .release ∧ v.fallReports b = [.rampDone] := by
  unfold State.fallReports
  split
  next hfades => exact .inr ⟨hphase.resolve_right (not_not.2 hfades), rfl⟩
  next => exact .inl rfl

/-- A target cut in POWER, or in RELEASE off the monitor, fails: the handover turns to MENU (R135, R167). -/
theorem State.CutTold.failsTarget (hcut : v.CutTold u b into p ns) (hs : v.Settled)
    (hpowered : (v.bay b).state.powered = true) (hidle : (v.feeder b).state = .idle) (hgate : v.gate.bay ≠ some b)
    (hstage : v.stage = .handover h) (htarget : h.target = .bay b)
    (hphase : h.phase = .power ∨ h.phase = .release ∧ v.monitor.source ≠ .bay b) {why : FailReason}
    (hplain : h.phase = .power → s.PlainClass (v.blanked b) (h.failed b why)) (htables : v.tables = s.tables)
    (hpanel : v.panel = s.panel) (hrouting : v.routing = s.routing) (c : LossCause) :
    ∃ t, (u.reportDown b c (some why)).drain = t ∧ v.LosesPower t b p ∧ s.TurnsToMenu t (v.blanked b) h b why
      ∧ v.Tells t (ns ++ [.handoverFailed b why h.origin])
      ∧ t = { v with stage := t.stage, monitor := t.monitor, routing := t.routing, power := t.power, filters := t.filters
                     checkers := t.checkers, links := t.links } := by
  have heither : h.phase = .power ∨ h.phase = .release := hphase.imp_right And.left
  have hfall := State.fallReports_handover (h := h) (v := v) (b := b)
    (hphase.imp (fun hpower => by rw [hpower]; exact nofun) fun ⟨_, hsource⟩ hfades => hsource hfades.1)
  obtain ⟨htells, hlate, hustage, hreports, hframe⟩ := hcut.inHandover hs hpowered hidle hgate hstage
  obtain ⟨n, hdrain⟩ := State.reportDown_fails (b := b) hlate hustage heither (hreports.symm ▸ hfall) htarget why c
  obtain ⟨w, hw⟩ : ∃ w, w = u.setReports [] := ⟨_, rfl⟩
  have hlost := (hcut.loses hpowered).congr (t := w) (by rw [hw]; rfl) (by rw [hw]; rfl) (by rw [hw]; rfl)
  have hwtells : v.Tells w ns := by
    rw [hw]
    exact htells
  rw [← hw] at hdrain hframe
  have hmonitor : w.monitor = v.blanked b := by rw [hframe]
  obtain ⟨t, hfails, hturns, htold, htframe⟩ := State.targetFailed_turnsToMenu (s := s) (v := w) (why := why)
    (by rw [hframe]; exact hs.1) (by rw [hframe]; exact hstage) htarget heither
    (by rw [hmonitor]; exact hplain) (by rw [hframe]; exact htables) (by rw [hframe]; exact hpanel)
    (by rw [hframe]; exact hrouting) n
  rw [hmonitor] at hturns
  have htlost := hlost.congr (t := t) (by rw [htframe]) (by rw [htframe]) (by rw [htframe])
  have hall := htframe.trans (congrArg (fun x : State => { x with
    stage := t.stage, monitor := t.monitor, routing := t.routing, links := t.links }) hframe)
  have hpower : t.power = u.power := by rw [hall]
  have hfilters : t.filters = u.filters := by rw [hall]
  have hcheckers : t.checkers = u.checkers := by rw [hall]
  refine ⟨t, hdrain.trans hfails, htlost, hturns, hwtells.trans htold, ?_⟩
  rw [hpower, hfilters, hcheckers]
  exact hall

end

theorem crashOfTarget : Claims.CrashOfTarget := by
  intro s b h i hs hstage htarget hphase hidle hgate hpending hcrash
  obtain ⟨hpowered, cs, hexec⟩ := hcrash.crashes
  let v : State := { s with checkers := cs }
  refine ⟨fun hmore => ?_, fun hlast hplain => ?_⟩
  · obtain ⟨u, hcrashed, hcut⟩ := State.crash_again (v := v) hpending hmore
    have hnamed : v.crashDeferred b = .handover :=
      if_pos ((State.isTarget_handover (s := v) hstage b).trans (decide_eq_true htarget))
    rw [hnamed] at hcut
    have hfall := State.fallReports_handover (h := h) (v := v) (b := b)
      (hphase.imp (fun hpower => by rw [hpower]; exact nofun) fun ⟨_, hsource⟩ hfades => hsource hfades.1)
    obtain ⟨htells, hlate, hustage, hreports, hframe⟩ := hcut.inHandover hs hpowered hidle hgate hstage
    have hdrain := State.reportDown_ignored (b := b) hlate hustage (hreports.symm ▸ hfall)
      (.inl ⟨rfl, hphase.imp_right And.left⟩) .lost
    rw [hcrashed, hdrain] at hexec
    have hlost := (hcut.loses hpowered).congr (t := u.setReports []) rfl rfl rfl
    exact ⟨_, hexec, ⟨hlost.bays, hlost.power, hlost.filters, hlost.checker⟩, hcut.stage, congrArg State.monitor hframe,
      htells, hframe.trans (by rw [hframe])⟩
  · obtain ⟨u, hcrashed, hcut⟩ := State.crash_out (v := v) hpending hlast
    obtain ⟨t, hdrain, hlost, hturns, htells, hframe⟩ := hcut.failsTarget (s := s) hs hpowered hidle hgate hstage htarget
      hphase hplain rfl rfl rfl .lost
    rw [hcrashed, hdrain] at hexec
    exact ⟨t, hexec, ⟨hlost.bays, hlost.power, hlost.filters, hlost.checker⟩, hturns, htells, hframe⟩

/-- Settles O42: a crash as a cut with its notices, the reports behind it by the bay's role, and for any bay the fact that a
bay which is out stays out to the event's end. -/
theorem crashCoolsOrFaults : Obligations.CrashCoolsOrFaults :=
  ⟨crashOfIdleBay, crashOfTarget, crashEndsReleasePending, crashTakesAnyBayDown⟩

end Sys2Proof.Machine
end

section
/-! Handovers to MENU that begin from PLAY, and the loss of the active bay (R43, R44, R107, R110, R135, R148, R149, R156,
R157, R168, R171). -/

namespace Sys2Proof.Machine

/-! ## RELEASE without units and charge (R43, R44) -/

section
variable {s w : State} {b : Bay} {c : Cause}

theorem State.returnQueued_empty (h : (s.feeder b).queue = []) (goes : CoinUnit → Bool) : s.returnQueued b goes = s := by
  have hsame : { s.feeder b with queue := (s.feeder b).queue.filter fun k => !goes k } = s.feeder b := by
    rw [h, List.filter_nil, ← h]
  have hput : s.putFeeder b (s.feeder b) = s := (if_neg fun hboth => hboth.2 hboth.1).trans (s.setFeeder_self b)
  have hcount : s.store.countUnits b [] = 0 := List.length_eq_zero_iff.2 (List.filter_eq_nil_iff.2 fun x _ hin => by
    obtain ⟨n, hn, _⟩ := Token.inUnits_iff.1 hin
    exact absurd hn List.not_mem_nil)
  unfold State.returnQueued
  dsimp only
  rw [hsame, hput, h]
  exact State.returnUnits_none hcount

theorem State.releaseCredit_empty (hgate : s.gate.bay ≠ some b) (hqueue : (s.feeder b).queue = []) :
    s.releaseCredit b = s := by
  have hboth : s.bothReturn b = false := by simp [State.bothReturn, hgate]
  have hleaves : s.gateLeaves b .release = s := if_neg hgate
  have hpolicy : s.leavePolicy b = s := by
    unfold State.leavePolicy
    split
    · rfl
    · dsimp only
      rw [State.returnQueued_empty hqueue, hqueue]
      rfl
  unfold State.releaseCredit
  rw [hboth, hleaves, hpolicy]
  rfl

/-! ## A handover to MENU begins from PLAY (R156, R157) -/

/-- A handover to MENU begun from PLAY, before its ramp is asked for. -/
def State.turning (w : State) (b : Bay) (c : Cause) : State :=
  { w.notify (.stageBegun (.bay b) .menu c) with
    stage := .handover (.begun (.bay b) .menu c), power := { w.power with protectedSet := [] }
    routing := { w.routing with pulses := [] } }

theorem State.begin_turning (hstage : w.stage = .play b) (hgate : w.gate.bay ≠ some b) (hqueue : (w.feeder b).queue = []) :
    w.begin .menu c = (w.turning b c).rampDownRequest := by
  have horigin : w.beginOrigin = .bay b := by
    unfold State.beginOrigin State.activeBay
    rw [hstage]
  have hrelease : (w.turning b c).releaseCredit b = w.turning b c :=
    State.releaseCredit_empty (s := w.turning b c) hgate hqueue
  have hbegin : w.begin .menu c = State.rampDownRequest (State.releaseParts
      (((w.setRecord (.begun w.beginOrigin .menu c)).setProtected []).notify (.stageBegun w.beginOrigin .menu c))
      w.beginOrigin) := rfl
  rw [hbegin, horigin]
  exact congrArg State.rampDownRequest hrelease

theorem State.rampDownRequest_muted (h : w.monitor.audio = .muted) : w.rampDownRequest = w.report .rampDone := by
  unfold State.rampDownRequest
  rw [h]

/-- Begun with the audio MUTED, it is past RELEASE at once. -/
theorem State.begin_muted (hs : w.reports = []) (hstage : w.stage = .play b) (hgate : w.gate.bay ≠ some b)
    (hqueue : (w.feeder b).queue = []) (haudio : w.monitor.audio = .muted) (n : Nat) :
    (w.begin .menu c).drainWith (n + 1) = ((w.turning b c).startClass (.begun (.bay b) .menu c)).drainWith n := by
  rw [State.begin_turning hstage hgate hqueue, State.rampDownRequest_muted (w := w.turning b c) haudio,
    State.report_drainWith (s := w.turning b c) hs rfl]
  exact congrArg (State.drainWith · n) (State.rampDone_release (s := w.turning b c) rfl rfl)

/-- A handover to MENU that is in CLASS at once, behind a class step. -/
def State.turned (w : State) (b : Bay) (c : Cause) : State := (w.turning b c).classBegun (.begun (.bay b) .menu c)

theorem State.begin_turned (hs : w.reports = []) (hstage : w.stage = .play b) (hgate : w.gate.bay ≠ some b)
    (hqueue : (w.feeder b).queue = []) (haudio : w.monitor.audio = .muted)
    (hclass : w.monitor.lineClass ≠ w.tables.cabinet.system.menuClass) (hsettle : 0 < w.tables.cabinet.system.settle)
    (n : Nat) : (w.begin .menu c).drainWith (n + 2) = w.turned b c := by
  rw [State.begin_muted hs hstage hgate hqueue haudio]
  exact State.startClass_waits (s := w.turning b c) (r := .begun (.bay b) .menu c) hs hsettle
    (State.cutWaits_iff.2 (.inl hclass.symm)) n

theorem State.turned_stage (hclass : w.monitor.lineClass ≠ w.tables.cabinet.system.menuClass) :
    (w.turned b c).stage = .handover { HandoverRecord.begun (.bay b) .menu c with phase := .classChange } := by
  have hwaits : (w.turning b c).cutWaits w.monitor .menu = true := State.cutWaits_iff.2 (.inl hclass.symm)
  show Stage.handover { HandoverRecord.begun (.bay b) .menu c with
    phase := if (w.turning b c).cutWaits w.monitor .menu then .classChange else .quiet } = _
  rw [hwaits]
  rfl

theorem State.turned_routing (hclass : w.monitor.lineClass ≠ w.tables.cabinet.system.menuClass) :
    (w.turned b c).routing = { w.routing with pulses := [] } := by
  have hwaits : (w.turning b c).cutWaits w.monitor .menu = true := State.cutWaits_iff.2 (.inl hclass.symm)
  show (if (w.turning b c).cutWaits w.monitor .menu then { w.routing with pulses := [] } else _) = _
  rw [hwaits]
  rfl

theorem State.turned_tells (w : State) (b : Bay) (c : Cause) : w.Tells (w.turned b c) [.stageBegun (.bay b) .menu c] :=
  fun l => State.link_notify w _ l

theorem State.turned_settled (hs : w.Settled) : (w.turned b c).Settled := hs
theorem State.turned_bay (w : State) (b : Bay) (c : Cause) (d : Bay) : (w.turned b c).bay d = w.bay d := rfl
theorem State.turned_warm (w : State) (b : Bay) (c : Cause) : (w.turned b c).power.warm = w.power.warm := rfl
theorem State.turned_feeder (w : State) (b : Bay) (c : Cause) (d : Bay) : (w.turned b c).feeder d = w.feeder d := rfl
theorem State.turned_gate (w : State) (b : Bay) (c : Cause) : (w.turned b c).gate = w.gate := rfl
theorem State.turned_monitor (w : State) (b : Bay) (c : Cause) :
    (w.turned b c).monitor = w.cutRequested w.monitor .menu := rfl

theorem State.turned_frame (w : State) (b : Bay) (c : Cause) : w.turned b c = { w with
    stage := (w.turned b c).stage, monitor := w.cutRequested w.monitor .menu, routing := (w.turned b c).routing
    power := { w.power with protectedSet := [] }, links := (w.turned b c).links } := rfl

end

/-! ## The loss of the active bay (R107, R168, R171) -/

section
variable {s u : State} {b : Bay} {c : LossCause}

/-- The LOSS of the active bay, taken in the event that makes it or left for the next one (log entry 39). -/
theorem State.lossOfActive (hlate : u.late = none) (hreports : u.reports = [] ∨ u.reports = [.feederIdle b])
    (hstage : u.stage = .play b) (hpending : (u.bay b).releasePending = false) (hidle : (u.feeder b).state = .idle)
    (hgate : u.gate.bay ≠ some b) (haudio : u.monitor.audio = .muted)
    (hclass : u.monitor.lineClass ≠ u.tables.cabinet.system.menuClass) (hsettle : 0 < u.tables.cabinet.system.settle)
    (r : Option FailReason) :
    (u.reportDown b c r).drain = (u.drawn.setReports []).turned b (.loss c)
      ∨ (u.reportDown b c r).drain = (u.drawn.setReports []).setLate (some (.loss b c)) := by
  have hactive : u.isActive b = true := decide_eq_true hstage
  have htarget : u.isTarget b = false := by
    unfold State.isTarget State.handover
    rw [hstage]
  have hdown : u.reportDown b c r = u.setReports (u.reports ++ [.loss b c]) := by
    have hloss : u.lossReports b c = [.loss b c] := if_pos (by rw [hactive]; rfl)
    have hnone : u.targetReports b r = [] := if_neg (by rw [htarget]; exact Bool.false_ne_true)
    rw [State.reportDown_eq, hloss, hnone, List.append_nil]
  have hskip : ∀ x ∈ u.reports, u.Ignores x := fun x hx => by
    rcases hreports with hnone | hone
    · rw [hnone] at hx
      exact absurd hx List.not_mem_nil
    · rw [hone] at hx
      rw [List.mem_singleton.1 hx]
      exact fun rest => ⟨rfl, State.feederIdle_stays (s := u.setReports rest) (.inl hpending)⟩
  have hlen : u.reports.length ≤ 1 := by
    rcases hreports with hnone | hone
    · rw [hnone]; exact Nat.zero_le 1
    · rw [hone]; exact Nat.le_refl 1
  obtain ⟨n, hn⟩ : ∃ n, Config.reportFuel = n + 3 + u.reports.length := ⟨61 - u.reports.length, show 64 = _ by omega⟩
  have hdrain : (u.reportDown b c r).drain = ((u.setReports []).takeOrLeave (.loss b c)).drainWith (n + 2) := by
    rw [hdown]
    refine (State.drain_of_late_none (s := u.setReports (u.reports ++ [.loss b c])) hlate).trans ?_
    rw [hn, State.drainWith_skips hskip]
    exact State.drainWith_cons (s := u.setReports [.loss b c]) rfl _
  rw [hdrain]
  have htake : (u.setReports []).takeOrLeave (.loss b c) = if Config.firstActsFirst u.choices then
      (u.drawn.setReports []).bayLost b c else (u.drawn.setReports []).setLate (some (.loss b c)) := if_pos hactive
  rw [htake]
  let x := u.drawn.setReports []
  by_cases hfirst : Config.firstActsFirst u.choices = true
  · rw [if_pos hfirst]
    have hbegin : x.bayLost b c = x.begin .menu (.loss c) := by
      unfold State.bayLost
      rw [show x.stage = .play b from hstage]
      exact if_pos rfl
    obtain ⟨_, hqueue⟩ := (Feeder.idle_iff _).1 hidle
    refine .inl ((congrArg (State.drainWith · (n + 2)) hbegin).trans ?_)
    exact State.begin_turned (w := x) rfl hstage hgate hqueue haudio hclass hsettle n
  · rw [if_neg hfirst]
    exact .inr (State.drainWith_nil (s := x.setLate (some (.loss b c))) rfl _)

/-! ## What the cut of the active bay leaves -/

theorem State.cutPower_reports {into : PowerState} (hs : s.reports = []) (hpowered : (s.bay b).state.powered = true) :
    (s.cutPower b into).reports = s.fallReports b
      ∨ (s.cutPower b into).reports = .feederIdle b :: s.fallReports b := by
  have htold := (State.Departs.refl (b := b) (s.enterCut b into)).creditLoss.told
  rw [State.cutPower_powered hpowered, State.handOnCut_eq]
  rcases htold with hnone | ⟨_, _, hone⟩
  · refine .inl ?_
    show ((s.enterCut b into).creditLoss b).reports ++ s.fallReports b = _
    rw [hnone, show (s.enterCut b into).reports = [] from hs, List.nil_append]
  · refine .inr ?_
    show ((s.enterCut b into).creditLoss b).reports ++ s.fallReports b = _
    rw [hone, show (s.enterCut b into).reports = [] from hs]
    rfl

end

end Sys2Proof.Machine
end

section
/-! Trips: of a bay in no role, with units, of the active bay, of an origin and of any bay (R45, R116, R118, R125, R135,
R149, R151, R157, R168, R169). -/

namespace Sys2Proof.Machine

/-! ## The active bay cut in PLAY, whatever its units and its charge (R168) -/

/-- The active bay has lost its power, and its LOSS is taken or left for the next event. -/
structure State.LosesActive (v t : State) (b : Bay) (p : BayPower) (c : LossCause) (ns : List Notice) : Prop where
  bays : t.BaysAre fun d => if d = b then p else v.bay d
  warm : t.power.warm = v.power.warm.filter fun k => decide (k ≠ b)
  pulses : t.routing.pulses = []
  feeder : (t.feeder b).state = .idle
  gate : t.gate.bay ≠ some b
  outcome :
    (t.LossBegun b c
      ∧ ((v.feeder b).state = .idle → v.gate.bay ≠ some b → v.Tells t (ns ++ [.stageBegun (.bay b) .menu (.loss c)]))
      ∧ t.monitor = v.cutRequested (v.blanked b) .menu)
    ∨ (t.LossLeft b c ∧ ((v.feeder b).state = .idle → v.gate.bay ≠ some b → v.Tells t ns) ∧ t.monitor = v.blanked b)

section
variable {v u : State} {b : Bay} {into : PowerState} {p : BayPower} {ns : List Notice}

theorem State.blanked_shown (hsource : v.monitor.source = .bay b) :
    v.blanked b = { v.monitor with source := .blank, audio := .muted, gain := 0 } := if_pos hsource

theorem State.CutTold.losesActive (hcut : v.CutTold u b into p ns) (hs : v.Settled) (hstage : v.stage = .play b)
    (hpowered : (v.bay b).state.powered = true) (hinto : into.powered = false) (hsource : v.monitor.source = .bay b)
    (haudio : v.monitor.audio = .full) (hclass : v.monitor.lineClass ≠ v.tables.cabinet.system.menuClass)
    (hsettle : 0 < v.tables.cabinet.system.settle) (hpending : p.releasePending = false) (c : LossCause)
    (r : Option FailReason) : v.LosesActive (u.reportDown b c r).drain b p c ns := by
  have hframe := hcut.frame
  have hmonitor : u.monitor = v.blanked b := by
    rw [hframe]
    exact State.cutPower_monitor hpowered
  have htables : u.tables = v.tables := by
    rw [hframe]
    exact State.cutPower_tables v b into
  have hlate : u.late = none := by
    rw [hframe]
    exact (State.cutPower_late v b into).trans hs.2
  have hreports : u.reports = [] ∨ u.reports = [.feederIdle b] := by
    have hfall : v.fallReports b = [] := if_neg fun hboth => by rw [haudio] at hboth; exact absurd hboth.2 nofun
    have hcuts := State.cutPower_reports (into := into) hs.1 hpowered
    rw [hfall] at hcuts
    rw [hframe]
    exact hcuts
  have hpulses : u.routing.pulses = [] := by
    have hroutes : v.unrouted b = { v.routing with pulses := [] } := if_pos (decide_eq_true hstage)
    rw [hframe]
    show (v.cutPower b into).routing.pulses = []
    rw [State.cutPower_powered hpowered, State.handOnCut_eq]
    exact congrArg Routing.pulses hroutes
  have hidle : (u.feeder b).state = .idle := by
    have hcuts := State.cutPower_idle (into := into) hpowered
    rw [hframe]
    exact hcuts
  have hgate : u.gate.bay ≠ some b := by
    rw [hframe]
    exact State.cutPower_gate hpowered hinto
  have hblank := State.blanked_shown hsource
  have hmuted : u.monitor.audio = .muted := by rw [hmonitor, hblank]
  have huclass : u.monitor.lineClass ≠ u.tables.cabinet.system.menuClass := by
    rw [hmonitor, htables, hblank]
    exact hclass
  have htold (hfeeder : (v.feeder b).state = .idle) (hfree : v.gate.bay ≠ some b) : v.Tells u ns :=
    (hcut.uncharged hpowered hfeeder hfree).1
  have hwarm : u.power.warm = v.power.warm.filter fun k => decide (k ≠ b) := by rw [hcut.power]
  rcases State.lossOfActive hlate hreports (hcut.stage.trans hstage) (by rw [hcut.bay_same]; exact hpending) hidle hgate
    hmuted huclass (by rw [htables]; exact hsettle) (c := c) r with hbegun | hleft
  · obtain ⟨x, hx⟩ : ∃ x, x = u.drawn.setReports [] := ⟨_, rfl⟩
    have hxtables : x.tables = v.tables := by rw [hx]; exact htables
    have hxmonitor : x.monitor = v.blanked b := by rw [hx]; exact hmonitor
    have hxclass : x.monitor.lineClass ≠ x.tables.cabinet.system.menuClass := by rw [hx]; exact huclass
    have hxtold (hfeeder : (v.feeder b).state = .idle) (hfree : v.gate.bay ≠ some b) : v.Tells x ns := by
      rw [hx]
      exact htold hfeeder hfree
    have hxsettled : x.Settled := by
      rw [hx]
      exact ⟨rfl, hlate⟩
    rw [hbegun, ← hx]
    exact
      { bays := fun d => by
          rw [State.turned_bay, hx]
          exact hcut.bays d
        warm := by
          rw [State.turned_warm, ← hwarm, hx]
          rfl
        pulses := congrArg Routing.pulses (State.turned_routing hxclass)
        feeder := by
          rw [State.turned_feeder, hx]
          exact hidle
        gate := by
          rw [State.turned_gate, hx]
          exact hgate
        outcome := .inl ⟨⟨State.turned_settled hxsettled, State.turned_stage hxclass⟩,
          fun hfeeder hfree => (hxtold hfeeder hfree).trans (x.turned_tells b (.loss c)), by
            rw [State.turned_monitor, hxmonitor, State.cutRequested_congr hxtables]⟩ }
  · rw [hleft]
    exact
      { bays := hcut.bays
        warm := hwarm
        pulses := hpulses
        feeder := hidle
        gate := hgate
        outcome := .inr ⟨⟨hcut.stage.trans hstage, rfl⟩, htold, hmonitor⟩ }

end

/-! ## The trip as a cut that is told of (R125) -/

section
variable {s v : State} {b : Bay}

theorem exec_overcurrent_powered (h : (s.bay b).state.powered = true) : exec (.overcurrent b true) s = .next
    (({ s with pins := { s.pins with overcurrent := s.pins.overcurrent.set b true } } : State).trip b).drain :=
  congrArg Host.Outcome.next (if_pos (by rw [Bool.true_and]; exact h))

theorem State.trip_told (v : State) (b : Bay) : ∃ u, v.trip b = u.reportDown b .tripped (some .tripped)
    ∧ v.CutTold u b .tripped ((v.bay b).out .tripped) [.bay .tripped b .tripped (v.bay b).attempts none] :=
  ⟨_, rfl, (v.cutTold b .tripped).notify .tripped⟩

end

theorem overcurrentTripsIdleBay : Claims.OvercurrentTripsIdleBay := by
  intro s b active hs v
  refine ⟨fun hnone => ?_, fun hactive hpowered hrole hidle hgate hsource => ?_⟩
  · rcases hnone with rfl | hdown
    · rfl
    · exact exec_overcurrent_unpowered hdown active
  · subst hactive
    obtain ⟨u, htrips, hcut⟩ := v.trip_told b
    obtain ⟨hdrain, htells, hframe⟩ := hcut.drain_idle hs hpowered hrole ⟨hidle, hgate, hsource⟩ .tripped (some .tripped)
    have hexec := exec_overcurrent_powered hpowered
    rw [htrips, hdrain] at hexec
    exact ⟨u, hexec, hcut.bay_same, htells, fun d hd => (hcut.bays d).trans (if_neg hd), hcut.power, hframe⟩

theorem tripTakesAnyBayOut : Claims.TripTakesAnyBayOut := by
  intro s b hs hpowered
  obtain ⟨v, hv⟩ : ∃ v : State, v = { s with pins := { s.pins with overcurrent := s.pins.overcurrent.set b true } } := ⟨_, rfl⟩
  obtain ⟨u, htrips, hcut⟩ := v.trip_told b
  have hbay : v.bay b = s.bay b := by rw [hv]; rfl
  have hexec := exec_overcurrent_powered hpowered
  rw [← hv, htrips] at hexec
  have hlasts : State.Outlasts b u (u.reportDown b .tripped (some .tripped)).drain := (State.Outlasts.refl u).reportDown.drain
  obtain ⟨hout, hagrees, _⟩ := hlasts (hcut.out (by rw [hbay]; exact hpowered) rfl rfl nofun)
  rw [hcut.bay_same, hbay] at hagrees
  have hnone := hagrees.deferred nofun rfl
  refine ⟨_, hexec, ?_, hout.dark⟩
  rw [hagrees.record, hnone]
  rfl

theorem tripReturnsUnits : Claims.TripReturnsUnits := by
  intro s b hs hrole hpowered hbusy hgate hsource
  let v : State := { s with pins := { s.pins with overcurrent := s.pins.overcurrent.set b true } }
  obtain ⟨u, htrips, hcut⟩ := v.trip_told b
  obtain ⟨t, hdrain, hlost, hleave, htells, hframe⟩ :=
    hcut.drain_busy hs hpowered hrole hgate hsource hbusy rfl .tripped (some .tripped)
  have hexec := exec_overcurrent_powered hpowered
  rw [htrips, hdrain] at hexec
  exact ⟨t, hexec, ⟨hlost.bays, hlost.power, hlost.filters, hlost.checker⟩,
    ⟨hleave.feeder, hleave.others, hleave.returned, hleave.counted⟩, htells, hframe⟩

theorem tripOfActiveBayTurnsToMenu : Claims.TripOfActiveBayTurnsToMenu := by
  intro s b hs hstage hrun hsource haudio hclass hsettle tells
  have hpowered : (s.bay b).state.powered = true := by rw [hrun]; rfl
  let v : State := { s with pins := { s.pins with overcurrent := s.pins.overcurrent.set b true } }
  obtain ⟨u, htrips, hcut⟩ := v.trip_told b
  have hlost := hcut.losesActive hs hstage hpowered rfl hsource haudio hclass hsettle rfl .tripped (some .tripped)
  have hexec := exec_overcurrent_powered hpowered
  rw [htrips] at hexec
  exact ⟨_, hexec, hlost.bays, hlost.warm, hlost.pulses, hlost.outcome⟩

/-! ## An origin before its release (R135, R157, R169) -/

section
variable {s v u : State} {b : Bay} {h : HandoverRecord}

/-- A CLASS that waits for the settle timer begins without a report, if no ramp falls. -/
theorem State.startClass_quiet (hquiet : s.monitor.audio ≠ .falling) (hsettle : 0 < s.tables.cabinet.system.settle)
    (hwaits : s.cutWaits s.monitor h.target = true) : s.startClass h = s.classBegun h := by
  let w := s.setRecord { h with phase := .classChange }
  have hclass : w.targetClass h.target = s.targetClass h.target := State.targetClass_congr rfl _
  have hrequest : s.startClass h = w.cutRequest h.target := rfl
  rw [State.classBegun_waits hwaits, hrequest]
  by_cases hsame : s.targetClass h.target = s.monitor.lineClass
  · have hruns := (State.cutWaits_iff.1 hwaits).resolve_left (not_not.2 hsame)
    rw [State.cutRequest_waits (s := w) (hclass.trans hsame) hruns, State.cutRequested_waits hsame hruns]
    rfl
  · rw [State.cutRequest_steps (s := w) (fun hc => hsame (hclass.symm.trans hc)) hsettle,
      State.cutRequested_steps hsame,
      State.reportFall_quiet (s := w.setMonitor { w.monitor with cut := some h.target }) hquiet, ← hclass]
    rfl

/-- CLASS begun behind a report that then means nothing, with no ramp that falls. -/
theorem State.startClass_drains_behind {q : Report} (hs : s.reports = [q]) (hquiet : s.monitor.audio ≠ .falling)
    (hplain : s.PlainClass s.monitor h) (hsrc : s.cutSource h.target = h.target.source)
    (hskip : ∀ z : State, z.stage = .handover { h with phase := .classChange } → z.Ignores q) (n : Nat) :
    (s.startClass h).drainWith (n + 2) = (s.setReports []).classBegun h := by
  cases hwaits : s.cutWaits s.monitor h.target with
  | true =>
    have hstage : (s.classBegun h).stage = .handover { h with phase := .classChange } := by
      rw [State.classBegun_waits hwaits]
      rfl
    obtain ⟨hwait, htake⟩ := hskip _ hstage []
    rw [State.startClass_quiet hquiet hplain.1 hwaits, State.drainWith_cons (s := s.classBegun h) hs, State.takeOrLeave_now hwait, htake]
    exact State.drainWith_nil (s := (s.setReports []).classBegun h) rfl _
  | false =>
    obtain ⟨hwait, htake⟩ := hskip (s.cutting h) rfl [.cutDone h.target.source]
    have hreports : ((s.cutting h).report (.cutDone h.target.source)).reports = [q, .cutDone h.target.source] :=
      congrArg (· ++ [Report.cutDone h.target.source]) hs
    have hskipped : (((s.cutting h).report (.cutDone h.target.source)).setReports [.cutDone h.target.source]).takeOrLeave q
        = ((s.setReports []).cutting h).report (.cutDone h.target.source) := (State.takeOrLeave_now hwait).trans htake
    obtain ⟨_, hgain, hramp, _, _⟩ := hplain.2 hwaits
    rw [State.startClass_cuts hgain hramp hwaits hsrc, State.drainWith_cons hreports, hskipped,
      State.report_drainWith (s := (s.setReports []).cutting h) rfl rfl]
    exact (congrArg (State.drainWith · n) (State.cutting_cutDone (s := s.setReports []) hplain hwaits)).trans
      (State.drainWith_nil (s := (s.setReports []).classBegun h) rfl _)

/-- RELEASE ended by the cut of the origin that it still shows: the LOSS behind RAMP_DONE means nothing. -/
theorem State.fades_drain {c : LossCause} (hlate : u.late = none) (hstage : u.stage = .handover h)
    (hphase : h.phase = .release) (htarget : h.target ≠ .bay b) (hreports : u.reports = [.rampDone, .loss b c])
    (hquiet : u.monitor.audio ≠ .falling) (hrun : ∀ a, h.target = .bay a → (u.bay a).state = .running)
    (hplain : u.PlainClass u.monitor h) : u.drain = (u.setReports []).classBegun h := by
  let x := u.setReports [.loss b c]
  have hskip {r : HandoverRecord} (hr : r.target = h.target) (z : State) (hz : z.stage = .handover r) : z.Ignores (.loss b c) :=
    State.ignores_loss hz (.inr (hr ▸ htarget)) c
  have htake : u.drain = (x.afterRelease h).drainWith 63 := by
    rw [State.drain_of_late_none hlate]
    refine (State.drainWith_cons hreports 63).trans ?_
    rw [State.takeOrLeave_now (s := x) rfl]
    exact congrArg (State.drainWith · 63) (State.rampDone_release (s := x) hstage hphase)
  rw [htake]
  cases hto : h.target with
  | menu =>
    have hafter : x.afterRelease h = x.startClass h := by
      unfold State.afterRelease
      rw [hto]
    rw [hafter]
    exact State.startClass_drains_behind (s := x) rfl hquiet hplain (by rw [hto]; rfl) (hskip rfl) 61
  | bay a =>
    let q : HandoverRecord := { h with phase := .power }
    let y := u.setRecord q
    have hafter : x.afterRelease h = y.setReports [.loss b c, .ready a] := by
      have hpower : x.afterRelease h = (x.setRecord q).powerRequest a := by
        unfold State.afterRelease
        rw [hto]
        rfl
      exact hpower.trans (State.powerRequest_running (s := x.setRecord q) (hrun a hto))
    obtain ⟨hwait, htaken⟩ := hskip (r := q) rfl y rfl [.ready a]
    have hready : (y.setReports []).ready a = (y.setReports []).startClass q :=
      State.ready_power (s := y.setReports []) rfl rfl hto
    rw [hafter, State.drainWith_cons (s := y.setReports [.loss b c, .ready a]) rfl]
    refine (congrArg (State.drainWith · 62) ((State.takeOrLeave_now hwait).trans htaken)).trans ?_
    refine (State.report_drainWith (s := y.setReports []) rfl rfl 61).trans ?_
    refine (congrArg (State.drainWith · 61) hready).trans ?_
    have hsource : (y.setReports []).cutSource q.target = q.target.source := by
      show (y.setReports []).cutSource h.target = h.target.source
      rw [hto, State.cutSource_bay]
      exact if_pos (hrun a hto)
    exact State.startClass_drains (s := y.setReports []) (r := q) rfl hplain hsource 59

end

theorem tripOfOriginKeepsHandover : Claims.TripOfOriginKeepsHandover := by
  intro s b h hs hstage horigin htarget hpowered hidle hgate fades trips
  let v : State := { s with pins := { s.pins with overcurrent := s.pins.overcurrent.set b true } }
  obtain ⟨u, htrips, hcut⟩ := v.trip_told b
  obtain ⟨htells, hlate, hustage, hreports, hframe⟩ := hcut.inHandover hs hpowered hidle hgate hstage
  have hexec := exec_overcurrent_powered hpowered
  rw [htrips] at hexec
  obtain ⟨x, hx⟩ : ∃ x, x = u.setReports [] := ⟨_, rfl⟩
  have hlost := (hcut.loses hpowered).congr (t := x) (by rw [hx]; rfl) (by rw [hx]; rfl) (by rw [hx]; rfl)
  have hxtells : s.Tells x [.bay .tripped b .tripped (s.bay b).attempts none] := by
    rw [hx]
    exact htells
  rw [← hx] at hframe
  refine ⟨fun hstays => ?_, fun hphase hfades hrun hplain => ?_⟩
  · have hdrain := State.reportDown_ignored (b := b) (r := some .tripped) hlate hustage
      (hreports.symm ▸ State.fallReports_handover (v := v) hstays) (.inr htarget) .tripped
    rw [hdrain, ← hx] at hexec
    have hstage' : x.stage = s.stage := by rw [hframe]
    have hmonitor : x.monitor = s.blanked b := by rw [hframe]; rfl
    have hrouting : x.routing = s.routing := by rw [hframe]
    have hpower : x.power = u.power := by rw [hframe]
    have hfilters : x.filters = u.filters := by rw [hframe]
    have hcheckers : x.checkers = u.checkers := by rw [hframe]
    have hlinks : x.links = u.links := by rw [hframe]
    refine ⟨x, ⟨hexec, ⟨hlost.bays, hlost.power, hlost.filters, hlost.checker⟩, hxtells, ?_⟩, hstage', hmonitor, hrouting⟩
    rw [hstage', hmonitor, hrouting, hpower, hfilters, hcheckers, hlinks]
    exact hframe
  · have hfall : u.reports = [.rampDone] := hreports.trans (if_pos hfades)
    have hloss : u.lossReports b .tripped = [.loss b .tripped] := if_pos (by
      rw [State.isOrigin_congr (s := s) (t := u) (hustage.trans hstage.symm), horigin, Bool.or_true])
    have hnone : u.targetReports b (some .tripped) = [] :=
      if_neg (by rw [State.isTarget_handover hustage]; exact fun hmine => htarget (of_decide_eq_true hmine))
    let z := u.setReports [.rampDone, .loss b .tripped]
    have hdown : u.reportDown b .tripped (some .tripped) = z := by
      rw [State.reportDown_eq, hfall, hloss, hnone]
      rfl
    have hxz : z.setReports [] = x := hx.symm
    have hmonitor : x.monitor = s.blanked b := by rw [hframe]; rfl
    have htables : x.tables = s.tables := by rw [hframe]
    have hpanel : x.panel = s.panel := by rw [hframe]
    have hrouting : x.routing = s.routing := by rw [hframe]
    have hmuted : x.monitor.audio ≠ .falling := by
      rw [hmonitor, State.blanked_shown hfades.1]
      exact nofun
    have hruns (a : Bay) (ha : h.target = .bay a) : (x.bay a).state = .running := by
      rw [hlost.bays a, if_neg fun heq : a = b => htarget (heq ▸ ha)]
      exact hrun a ha
    have hplain' : x.PlainClass x.monitor h := by
      rw [hmonitor]
      exact hplain.congr htables hpanel
    have hdrain : z.drain = x.classBegun h := by
      have hfaded := State.fades_drain (u := z) (b := b) (c := .tripped) hlate hustage hphase htarget rfl (by rw [hx] at hmuted; exact hmuted)
        (by rw [hx] at hruns; exact hruns) (by rw [hx] at hplain'; exact hplain')
      rw [hfaded, hxz]
    rw [hdown, hdrain] at hexec
    have hpower : x.power = u.power := by rw [hframe]
    have hfilters : x.filters = u.filters := by rw [hframe]
    have hcheckers : x.checkers = u.checkers := by rw [hframe]
    have hlinks : x.links = u.links := by rw [hframe]
    rw [← hpower, ← hfilters, ← hcheckers, ← hlinks] at hframe
    refine ⟨x.classBegun h, ⟨hexec, ⟨hlost.bays, hlost.power, hlost.filters, hlost.checker⟩, hxtells, ?_⟩,
      State.classBegun_begins htables hrouting hmonitor⟩
    exact congrArg (fun y : State => { y with
      stage := (x.classBegun h).stage, monitor := (x.classBegun h).monitor, routing := (x.classBegun h).routing }) hframe

/-- Settles O44: a trip as a cut with its notice, the reports behind it by the bay's role, and for any bay the fact that a
bay which is out stays out to the event's end. -/
theorem overcurrentTripsPoweredBay : Obligations.OvercurrentTripsPoweredBay :=
  ⟨overcurrentTripsIdleBay, tripTakesAnyBayOut, tripReturnsUnits, tripOfActiveBayTurnsToMenu, tripOfOriginKeepsHandover⟩

end Sys2Proof.Machine
end

section
/-! CLEAR_FAULT and DISABLE_BAY (R45, R85, R118, R128, R129, R135, R149, R151, R167 to R169). -/

namespace Sys2Proof.Machine

/-! ## CLEAR_FAULT (R128) -/

section
variable {s : State} {b : Bay}

theorem State.askClear_state (h : (s.bay b).state ≠ .faulted) : s.askClear b = (s, .nak .state) := if_pos h

theorem State.askClear_faulted (h : (s.bay b).state = .faulted) :
    s.askClear b = ((s.backInOff s.flags b).notifyBay .cleared b, .ack []) := if_neg (not_not.2 h)

end

theorem clearFaultReturnsBay : Claims.ClearFaultReturnsBay := by
  intro s l bay htakes
  refine ⟨fun hrange => ?_, fun b hbay => ⟨fun hstate => ?_, fun hfaulted => ?_⟩⟩
  · exact htakes.refuses rfl rfl fun _ => State.withBay_outside hrange
  · exact htakes.refuses rfl rfl fun x =>
      (State.withBay_within hbay).trans (State.askClear_state (by rw [State.setLink_bay]; exact hstate))
  · have hask (x : LinkState) : (s.setLink l x).perform l (.clearFault bay)
        = (((s.setLink l x).backInOff s.flags b).notifyBay .cleared b, .ack []) := by
      rw [← State.setLink_flags s l x]
      exact (State.withBay_within hbay).trans (State.askClear_faulted (by rw [State.setLink_bay]; exact hfaulted))
    obtain ⟨t, hexec, -, hoff, hothers, hanswers, hframe⟩ := htakes.returnsBay (i := .clearFault l bay) rfl hask
    exact ⟨t, hexec, hoff, hothers, hanswers, hframe⟩

/-! ## A request that acts in ways that hang on nothing of the links (R188) -/

section
variable {s : State} {l : Link} {r : Request} {data : List Byte}

/-- A request acknowledged with an act of its own: the act on a state that differs in the links, then the reply. -/
theorem State.Takes.actsOn (h : s.Takes l r) {act : State → State}
    (hask : ∀ x : Links, (s.setLinks x).perform l r = (act (s.setLinks x), .ack data)) :
    ∃ (x : Links) (t : State), s.command l r = t ∧ t = { (act (s.setLinks x)).drain with links := t.links }
      ∧ (t.link l).replying = some (.ack r.typ data)
      ∧ ∀ ns, (s.setLinks x).Tells (act (s.setLinks x)).drain ns → s.Answers t l r data ns := by
  obtain ⟨x, hx⟩ := s.setPendingRequest_eq l r.typ
  have hperform : (s.setPendingRequest l r.typ).perform l r = (act (s.setLinks x), .ack data) := by rw [hx]; exact hask x
  have hreply : s.takeRequest l r = (act (s.setLinks x)).drain.reply l r.typ (.ack data) (s.afterReply l r) := by
    unfold State.takeRequest
    rw [hperform]
  refine ⟨x, s.takeRequest l r, State.command_takes h, ?_, ?_, fun ns htells => ?_⟩
  · rw [hreply]
    cases l <;> rfl
  · rw [hreply]
    exact (congrArg LinkState.replying (State.link_setLink_same _ l _)).trans (LinkState.replying_owes _ _ _ _)
  · exact (State.takeRequest_answers hperform fun m => by rw [hx]; exact htells m).1

end

/-! ## DISABLE_BAY (R129) -/

section
variable {s v u z : State} {b : Bay} {l : Link} {bay : Byte} {into : PowerState} {p : BayPower} {ns : List Notice}

theorem State.askDisable_disabled (h : (z.bay b).state = .disabled) : z.askDisable b = (z, .ack []) := if_pos h

theorem State.askDisable_other (h : (z.bay b).state ≠ .disabled) : z.askDisable b = (z.disable b, .ack []) := if_neg h

/-- A bay not DISABLED before is disabled in a state that differs in the links, and the request acknowledged. -/
theorem exec_disableBay (htakes : s.Takes l (.disableBay bay)) (hbay : bay.toNat = b.val)
    (h : (s.bay b).state ≠ .disabled) :
    ∃ (x : Links) (t : State), exec (.disableBay l bay) s = .next t
      ∧ t = { ((s.setLinks x).disable b).drain with links := t.links }
      ∧ (t.link l).replying = some (.ack (Request.disableBay bay).typ [])
      ∧ ∀ ns, (s.setLinks x).Tells ((s.setLinks x).disable b).drain ns → s.Answers t l (.disableBay bay) [] ns := by
  obtain ⟨x, t, hcommand, hframe, hreplying, hanswers⟩ := htakes.actsOn (act := (State.disable · b)) fun x =>
    (State.withBay_within hbay).trans (State.askDisable_other (z := s.setLinks x) h)
  exact ⟨x, t, congrArg Host.Outcome.next hcommand, hframe, hreplying, hanswers⟩

/-- The cut of a disable, told of: with its reports from a powered state, and with that of a target that holds a deferred
HANDOVER from an unpowered one. -/
theorem State.disable_told (z : State) (b : Bay) : ∃ u,
    (z.setEnabled b false).CutTold u b .disabled ((z.bay b).out .disabled)
      [.bay .disabled b .disabled (z.bay b).attempts none]
    ∧ ((z.bay b).state.powered = true → z.disable b = u.reportDown b .disabled (some .disabled))
    ∧ ((z.bay b).state.powered = false → (z.bay b).deferred = some .handover →
        z.disable b = u.reportTarget b (some .disabled))
    ∧ ((z.bay b).state.powered = false → u.NoRole b → z.disable b = u) := by
  let u := ((z.setEnabled b false).cutPower b .disabled).notifyBay .disabled b
  have hdisable : z.disable b = if (z.bay b).failsDisabled then
      (if (z.bay b).state.powered then u.reportLoss b .disabled else u).reportTarget b (some .disabled)
      else if (z.bay b).state.powered then u.reportLoss b .disabled else u := rfl
  refine ⟨u, ((z.setEnabled b false).cutTold b .disabled).notify .disabled, fun hpowered => ?_, fun hdown hdeferred => ?_,
    fun hdown hrole => ?_⟩
  · have hfails : (z.bay b).failsDisabled = true := by rw [BayPower.failsDisabled, hpowered]; rfl
    rw [hdisable, hfails, hpowered]
    rfl
  · have hfails : (z.bay b).failsDisabled = true := by rw [BayPower.failsDisabled, hdown, hdeferred]; rfl
    rw [hdisable, hfails, hdown]
    rfl
  · obtain ⟨_, _, htarget⟩ := hrole
    have hsame : u.reportTarget b (some .disabled) = u := if_neg (by rw [htarget]; exact Bool.false_ne_true)
    rw [hdisable, hdown]
    show (if (z.bay b).failsDisabled then u.reportTarget b (some .disabled) else u) = u
    rw [hsame]
    exact ite_self u

/-- The cut of an unpowered bay changes its power record and its place in the warm list only. -/
theorem State.CutTold.unpowered (h : v.CutTold u b into p ns) (hdown : (v.bay b).state.powered = false) :
    v.Tells u ns ∧ u = { v with power := u.power, links := u.links } := by
  have hcut := State.cutPower_unpowered (into := into) hdown
  have hlinks : (v.cutPower b into).links = v.links := by rw [hcut]; rfl
  exact ⟨(State.tells_nil hlinks).trans h.tells,
    h.frame.trans (congrArg (fun x : State => { x with power := u.power, links := u.links }) hcut)⟩

end

theorem disableTakesBayOut : Claims.DisableTakesBayOut := by
  intro s l bay htakes
  refine ⟨fun hrange => ?_, fun b hbay => ⟨fun hdisabled => ?_, fun hstate hrole hidle hgate hsource => ?_⟩⟩
  · exact htakes.refuses rfl rfl fun _ => State.withBay_outside hrange
  · exact htakes.reads rfl fun x =>
      (State.withBay_within hbay).trans (State.askDisable_disabled (by rw [State.setLink_bay]; exact hdisabled))
  · obtain ⟨x, t, hexec, hframe, _, hanswers⟩ := exec_disableBay htakes hbay hstate
    let z := s.setLinks x
    let v := z.setEnabled b false
    have hs : v.Settled := htakes.settled
    have hrole' : v.NoRole b := hrole
    obtain ⟨u, hcut, hpowers, _, hquiet⟩ := z.disable_told b
    have hdrain : (z.disable b).drain = u ∧ v.Tells u [.bay .disabled b .disabled (s.bay b).attempts none]
        ∧ u = { v with power := u.power, filters := u.filters, checkers := u.checkers, links := u.links } := by
      cases hpowered : (s.bay b).state.powered with
      | true =>
        rw [hpowers hpowered]
        exact hcut.drain_idle hs hpowered hrole' ⟨hidle, hgate, hsource⟩ .disabled (some .disabled)
      | false =>
        obtain ⟨htells, huframe⟩ := hcut.unpowered hpowered
        rw [hquiet hpowered (hrole'.congr hcut.stage)]
        refine ⟨State.drain_settled u (by rw [huframe]; exact hs), htells, huframe.trans (by rw [huframe])⟩
    obtain ⟨hdrained, htells, huframe⟩ := hdrain
    rw [hdrained] at hframe
    have hpower : t.power = u.power := by rw [hframe]
    have hbays (d : Bay) := (State.bay_congr hpower d).trans (hcut.bays d)
    refine ⟨t, hexec, ?_, (hbays b).trans (if_pos rfl), fun d hd => (hbays d).trans (if_neg hd), ?_,
      hanswers _ (by rw [hdrained]; exact htells), ?_⟩
    · rw [hframe, huframe]
      rfl
    · rw [hpower]
      exact hcut.power
    · rw [hframe, huframe]
      rfl

theorem disableTakesAnyBayOut : Claims.DisableTakesAnyBayOut := by
  intro s l bay b htakes hbay hpowered
  have hstate : (s.bay b).state ≠ .disabled := fun h => by rw [h] at hpowered; exact absurd hpowered Bool.false_ne_true
  obtain ⟨x, t, hexec, hframe, hreplying, _⟩ := exec_disableBay htakes hbay hstate
  let z := s.setLinks x
  obtain ⟨u, hcut, hpowers, _, _⟩ := z.disable_told b
  have hlasts : State.Outlasts b u (u.reportDown b .disabled (some .disabled)).drain := (State.Outlasts.refl u).reportDown.drain
  obtain ⟨hout, hagrees, hflags⟩ := hlasts (hcut.out hpowered rfl rfl nofun)
  rw [hcut.bay_same] at hagrees
  have hnone := hagrees.deferred nofun rfl
  have huflags : u.flags = { s.flags with enabled := s.flags.enabled.set b false } := by
    rw [hcut.frame]
    exact State.cutPower_flags (z.setEnabled b false) b .disabled
  rw [hpowers hpowered] at hframe
  obtain ⟨y, hy⟩ : ∃ y, y = (u.reportDown b .disabled (some .disabled)).drain := ⟨_, rfl⟩
  rw [← hy] at hframe hout hagrees hnone hflags
  have hdark := hout.dark
  have htdark : t.Dark b := State.Outlasts.dark_congr (s := y) (by rw [hframe]) (by rw [hframe]) (by rw [hframe])
    (by rw [hframe]) (by rw [hframe]) hdark
  have htbay : t.bay b = y.bay b := State.bay_congr (by rw [hframe]) b
  obtain ⟨hone, htwo⟩ := htdark.filters
  refine ⟨t, hexec, ?_, ?_, htdark.feeder, htdark.gate, htdark.monitor, htdark.checker, hone, htwo, hreplying⟩
  · rw [hframe]
    exact hflags.trans huflags
  · rw [htbay, hagrees.record, hnone]
    rfl

theorem disableReturnsUnits : Claims.DisableReturnsUnits := by
  intro s l bay b htakes hbay hpowered hbusy hrole hgate hsource
  have hstate : (s.bay b).state ≠ .disabled := fun h => by rw [h] at hpowered; exact absurd hpowered Bool.false_ne_true
  obtain ⟨x, t, hexec, hframe, _, hanswers⟩ := exec_disableBay htakes hbay hstate
  let z := s.setLinks x
  let v := z.setEnabled b false
  obtain ⟨u, hcut, hpowers, _, _⟩ := z.disable_told b
  obtain ⟨w, hdrain, hlost, hleave, htells, hwframe⟩ :=
    hcut.drain_busy (s := v) htakes.settled hpowered hrole hgate hsource hbusy rfl .disabled (some .disabled)
  rw [hpowers hpowered, hdrain] at hframe hanswers
  have htlost := hlost.congr (t := t) (by rw [hframe]) (by rw [hframe]) (by rw [hframe])
  have hfeeders : t.feeders = w.feeders := by rw [hframe]
  have hstore : t.store = w.store := by rw [hframe]
  have haudit : t.audit = w.audit := by rw [hframe]
  have hshows : t.ShowsAs w := ⟨by rw [hframe], hstore, by rw [hframe], by rw [hframe]⟩
  refine ⟨t, hexec, ⟨htlost.bays, htlost.power, htlost.filters, htlost.checker⟩, ?_, fun hplain => ?_, ?_⟩
  · exact
      { feeder := (State.feeder_congr hfeeders b).trans hleave.feeder
        others := fun d hd => (congrArg Feeder.units (State.feeder_congr hfeeders d)).trans (hleave.others d hd)
        returned := fun hplain => by
          rw [hstore, haudit]
          exact hleave.returned hplain
        counted := fun k hslot hstatus => by
          rw [hstore, haudit]
          exact hleave.counted k hslot hstatus }
  · have hnotices : s.returnNotices t b = v.returnNotices w b := by
      unfold State.returnNotices
      dsimp only
      rw [State.storeNotices_congr hshows]
      rfl
    rw [hnotices]
    exact hanswers _ (htells hplain)
  · have hall := hframe.trans (congrArg (fun y : State => y.setLinks t.links) hwframe)
    rw [hall]
    rfl

theorem disableOfActiveBayTurnsToMenu : Claims.DisableOfActiveBayTurnsToMenu := by
  intro s l bay b htakes hbay hstage hrun hsource haudio hclass hsettle off answers
  have hpowered : (s.bay b).state.powered = true := by rw [hrun]; rfl
  obtain ⟨x, t, hexec, hframe, _, hanswers⟩ := exec_disableBay htakes hbay (by rw [hrun]; exact nofun)
  let z := s.setLinks x
  let v := z.setEnabled b false
  obtain ⟨u, hcut, hpowers, _, _⟩ := z.disable_told b
  have hlost := hcut.losesActive (v := v) htakes.settled hstage hpowered rfl hsource haudio hclass hsettle rfl .disabled
    (some .disabled)
  rw [hpowers hpowered] at hframe hanswers
  obtain ⟨w, hw⟩ : ∃ w, w = (u.reportDown b .disabled (some .disabled)).drain := ⟨_, rfl⟩
  rw [← hw] at hframe hanswers hlost
  have hpower : t.power = w.power := by rw [hframe]
  have hrouting : t.routing = w.routing := by rw [hframe]
  have hmonitor : t.monitor = w.monitor := by rw [hframe]
  have htstage : t.stage = w.stage := by rw [hframe]
  have hlate : t.late = w.late := by rw [hframe]
  have hreports : t.reports = w.reports := by rw [hframe]
  have hblank : v.blanked b = off := State.blanked_shown hsource
  refine ⟨t, hexec, fun d hd => (State.bay_congr hpower d).trans ((hlost.bays d).trans (if_neg hd)), by
    rw [hrouting]; exact hlost.pulses, ?_⟩
  rcases hlost.outcome with ⟨⟨⟨hnone, hwlate⟩, hbegun⟩, htells, hshown⟩ | ⟨⟨hplay, hleft⟩, htells, hshown⟩
  · refine .inl ⟨⟨⟨hreports.trans hnone, hlate.trans hwlate⟩, htstage.trans hbegun⟩,
      fun hidle hgate => hanswers _ (htells hidle hgate), ?_⟩
    rw [hmonitor, hshown, hblank]
    exact State.cutRequested_steps hclass.symm
  · exact .inr ⟨⟨htstage.trans hplay, hlate.trans hleft⟩, fun hidle hgate => hanswers _ (htells hidle hgate), by
      rw [hmonitor, hshown, hblank]⟩

theorem disableInHandover : Claims.DisableInHandover := by
  intro s l bay b h htakes hbay hstage hphase hidle hgate haudio gone
  refine ⟨fun htarget horigin hsource hstate hheld hclass hsettle => ?_, fun horigin htarget hpowered => ?_⟩
  · obtain ⟨x, t, hexec, hframe, _, hanswers⟩ := exec_disableBay htakes hbay hstate
    let z := s.setLinks x
    let v := z.setEnabled b false
    have hs : v.Settled := htakes.settled
    obtain ⟨u, hcut, hpowers, hdeferred, _⟩ := z.disable_told b
    have hwaits : s.cutWaits s.monitor .menu = true := State.cutWaits_iff.2 (.inl hclass.symm)
    have hplain : s.PlainClass s.monitor (h.failed b .disabled) :=
      ⟨hsettle, fun hcuts => absurd (hwaits.symm.trans hcuts) nofun⟩
    have hblank : v.blanked b = s.monitor := State.blanked_hidden (s := v) hsource
    have hfails : ∃ w, (z.disable b).drain = w ∧ w.BaysAre (fun d => if d = b then gone else s.bay d)
        ∧ s.TurnsToMenu w s.monitor h b .disabled
        ∧ z.Tells w [.bay .disabled b .disabled (s.bay b).attempts none, .handoverFailed b .disabled h.origin] := by
      cases hpowered : (s.bay b).state.powered with
      | true =>
        obtain ⟨w, hdrain, hlost, hturns, htells, _⟩ := hcut.failsTarget (s := s) (v := v) (why := .disabled) hs hpowered
          hidle hgate hstage htarget (.inl hphase) (fun _ => by rw [hblank]; exact hplain) rfl rfl rfl .disabled
        rw [hblank] at hturns
        exact ⟨w, by rw [hpowers hpowered, hdrain], hlost.bays, hturns, htells⟩
      | false =>
        have hhandover := hheld.resolve_left (by rw [hpowered]; exact Bool.false_ne_true)
        obtain ⟨htells, huframe⟩ := hcut.unpowered hpowered
        have hmine : u.isTarget b = true :=
          (State.isTarget_handover (hcut.stage.trans hstage) b).trans (decide_eq_true htarget)
        have hreport : u.reportTarget b (some .disabled) = u.report (.failed b .disabled) := if_pos hmine
        have hmonitor : u.monitor = s.monitor := by rw [huframe]; rfl
        obtain ⟨w, hdrain, hturns, htold, hwframe⟩ := State.failed_turnsToMenu (s := s) (v := u) (why := .disabled)
          (by rw [huframe]; exact hs) (hcut.stage.trans hstage) htarget (.inl hphase)
          (fun _ => by rw [hmonitor]; exact hplain) (by rw [huframe]; rfl) (by rw [huframe]; rfl) (by rw [huframe]; rfl)
        rw [hmonitor] at hturns
        exact ⟨w, by rw [hdeferred hpowered hhandover, hreport, hdrain],
          fun d => (State.bay_congr (by rw [hwframe]) d).trans (hcut.bays d), hturns, htells.trans htold⟩
    obtain ⟨w, hdrain, hbays, hturns, htells⟩ := hfails
    rw [hdrain] at hframe hanswers
    have hbegins := hturns.power hphase
    have hwstage : w.stage = .handover { h.failed b .disabled with phase := .classChange } := by
      rw [hbegins.stage, if_pos (show s.cutWaits s.monitor (h.failed b .disabled).target = true from hwaits)]
    have hmonitor : w.monitor = s.cutRequested s.monitor .menu := hbegins.monitor
    rw [State.cutRequested_steps (s := s) (x := s.monitor) (k := .menu) hclass.symm] at hmonitor
    have htstage : t.stage = w.stage := by rw [hframe]
    have htmonitor : t.monitor = w.monitor := by rw [hframe]
    refine ⟨t, hexec, htstage.trans hwstage, fun d => (State.bay_congr (by rw [hframe]) d).trans (hbays d), ?_, ?_,
      hanswers _ htells⟩
    · rw [htmonitor, hmonitor]
    · rw [htmonitor, hmonitor]
  · have hstate : (s.bay b).state ≠ .disabled := fun h => by rw [h] at hpowered; exact absurd hpowered Bool.false_ne_true
    obtain ⟨x, t, hexec, hframe, _, hanswers⟩ := exec_disableBay htakes hbay hstate
    let z := s.setLinks x
    let v := z.setEnabled b false
    obtain ⟨u, hcut, hpowers, _, _⟩ := z.disable_told b
    obtain ⟨htells, hlate, hustage, hreports, huframe⟩ := hcut.inHandover (v := v) htakes.settled hpowered hidle hgate hstage
    have hdrain := State.reportDown_ignored (b := b) (r := some .disabled) hlate hustage
      (hreports.symm ▸ State.fallReports_handover (v := v) (.inl (by rw [hphase]; exact nofun))) (.inr htarget) .disabled
    rw [hpowers hpowered, hdrain] at hframe hanswers
    have htstage : t.stage = u.stage := by rw [hframe]; rfl
    have htmonitor : t.monitor = v.blanked b := by rw [hframe, huframe]
    refine ⟨t, hexec, (htstage.trans hustage).trans hstage.symm,
      fun d => (State.bay_congr (by rw [hframe]; rfl) d).trans (hcut.bays d), ?_, hanswers _ htells⟩
    rw [htmonitor]
    show (if s.monitor.source = .bay b then { s.monitor with source := .blank, audio := .muted, gain := 0 } else s.monitor) = _
    rw [← haudio]

/-- Settles O47: DISABLE_BAY as a cut with its notice and the reports behind it, by the bay's role, on a state that differs
in the links alone. -/
theorem clearFaultAndDisable : Obligations.ClearFaultAndDisable :=
  ⟨clearFaultReturnsBay, disableTakesBayOut, disableTakesAnyBayOut, disableReturnsUnits, disableOfActiveBayTurnsToMenu,
    disableInHandover⟩

end Sys2Proof.Machine
end

section
/-! Retargets: a former target left, a new one named, and the phase going on (R118, R131, R134, R150, R158, R164, R165). -/

namespace Sys2Proof.Machine

/-! ## The former target left (R134) -/

/-- A former target that no unit, no charge and no picture is of, left by a retarget. -/
structure State.LeavesTarget (s t : State) (a : Bay) : Prop where
  bays : t.BaysAre fun d => if d = a then s.left a else s.bay d
  power : t.power = { s.power with bays := t.power.bays, warm := s.leftWarm a }
  keeps : s.cutWhenLeft a = false → t.filters = s.filters ∧ t.checkers = s.checkers
  frame : t = { s with power := t.power, filters := t.filters, checkers := t.checkers }

section
variable {s t : State} {a : Bay}

theorem State.cutWhenLeft_eq_true : s.cutWhenLeft a = true ↔
    (s.bay a).state.powered = true ∧ (s.profile a).general.keepWarm = false := by
  rw [State.cutWhenLeft, Bool.and_eq_true, Bool.not_eq_true']

theorem State.retargetedAway_cut (h : s.cutWhenLeft a = true) : s.retargetedAway a = s.cutPower a .cooling := by
  obtain ⟨hpowered, hcold⟩ := State.cutWhenLeft_eq_true.1 h
  unfold State.retargetedAway
  dsimp only
  rw [hcold]
  cases hstate : (s.bay a).state <;> rw [hstate] at hpowered
  all_goals first | rfl | exact absurd hpowered Bool.false_ne_true

theorem State.retargetedAway_running (h : s.cutWhenLeft a = false) (hrun : (s.bay a).state = .running) :
    s.retargetedAway a = s.setWarm (a :: s.power.warm) := by
  have hwarm : (s.profile a).general.keepWarm = true := by
    by_contra hcold
    exact Bool.false_ne_true (h.symm.trans (State.cutWhenLeft_eq_true.2 ⟨by rw [hrun]; rfl, Bool.eq_false_iff.2 hcold⟩))
  unfold State.retargetedAway
  dsimp only
  rw [hrun, hwarm]
  rfl

theorem State.retargetedAway_cooling (hcool : (s.bay a).state = .cooling) : s.retargetedAway a = s.dropDeferred a := by
  unfold State.retargetedAway
  dsimp only
  rw [hcool]

theorem State.retargetedAway_other (h : s.cutWhenLeft a = false) (hrun : (s.bay a).state ≠ .running)
    (hcool : (s.bay a).state ≠ .cooling) : s.retargetedAway a = s := by
  have hwarm (hpowered : (s.bay a).state.powered = true) : (s.profile a).general.keepWarm = true := by
    by_contra hcold
    exact Bool.false_ne_true (h.symm.trans (State.cutWhenLeft_eq_true.2 ⟨hpowered, Bool.eq_false_iff.2 hcold⟩))
  unfold State.retargetedAway
  dsimp only
  cases hstate : (s.bay a).state with
  | running => exact absurd hstate hrun
  | cooling => exact absurd hstate hcool
  | starting => exact if_pos (hwarm (by rw [hstate]; rfl))
  | booting => exact if_pos (hwarm (by rw [hstate]; rfl))
  | off => rfl
  | tripped => rfl
  | faulted => rfl
  | disabled => rfl

theorem State.retargetedAway_leaves (hfree : s.Uninvolved a) (hactive : s.isActive a = false) :
    s.LeavesTarget (s.retargetedAway a) a := by
  cases hcut : s.cutWhenLeft a with
  | true =>
    obtain ⟨hpowered, _⟩ := State.cutWhenLeft_eq_true.1 hcut
    have hlost := State.losesPower_cutPower (into := .cooling) hpowered
    have hframe := State.cutPower_noRole hpowered hfree hactive .cooling
    obtain ⟨t, ht⟩ : ∃ t, t = s.cutPower a .cooling := ⟨_, rfl⟩
    rw [State.retargetedAway_cut hcut, ← ht]
    rw [← ht] at hlost hframe
    exact
      { bays := fun d => by
          rw [hlost.bays d, State.left, if_pos hcut]
          rfl
        power := by rw [State.leftWarm, if_pos hcut]; exact hlost.power
        keeps := fun hno => absurd (hcut.symm.trans hno) nofun
        frame := by rw [hframe]; rfl }
  | false =>
    have hnot : ¬s.cutWhenLeft a = true := by rw [hcut]; exact Bool.false_ne_true
    by_cases hrun : (s.bay a).state = .running
    · have hcool : (s.bay a).state ≠ .cooling := by rw [hrun]; exact nofun
      rw [State.retargetedAway_running hcut hrun]
      exact
        { bays := fun d => by
            rw [State.left, if_neg hnot, if_neg hcool]
            exact (ite_eq_right_iff.2 fun hd => by rw [hd]; rfl).symm
          power := by rw [State.leftWarm, if_neg hnot, if_pos hrun]; rfl
          keeps := fun _ => ⟨rfl, rfl⟩
          frame := rfl }
    · by_cases hcool : (s.bay a).state = .cooling
      · rw [State.retargetedAway_cooling hcool]
        exact
          { bays := fun d => by
              rw [State.left, if_neg hnot, if_pos hcool]
              show _ = if d = a then _ else _
              split
              next hd => rw [hd]; exact State.bay_setBay_same s a _
              next hd => exact State.bay_setBay_other s _ hd
            power := by rw [State.leftWarm, if_neg hnot, if_neg hrun]; rfl
            keeps := fun _ => ⟨rfl, rfl⟩
            frame := rfl }
      · rw [State.retargetedAway_other hcut hrun hcool]
        exact
          { bays := fun d => by
              rw [State.left, if_neg hnot, if_neg hcool]
              exact (ite_eq_right_iff.2 fun hd => by rw [hd]).symm
            power := by rw [State.leftWarm, if_neg hnot, if_neg hrun]
            keeps := fun _ => ⟨rfl, rfl⟩
            frame := rfl }

end

/-! ## The new target named (R131, R134, R164) -/

/-- A handover retargeted from a bay, before its phase goes on. -/
structure State.Retargeted (s t : State) (r : HandoverRecord) (a : Bay) (T : Target) (c : Cause) : Prop where
  stage : t.stage = .handover (r.turned T c)
  protectedSet : ∀ k : Bay, k ∈ t.power.protectedSet ↔ k ∈ s.power.protectedSet ∨ T = .bay k
  menu : T = .menu → t.power.protectedSet = s.power.protectedSet
  warm : t.power.warm = (s.leftWarm a).filter fun k => decide (T ≠ .bay k)
  bays : t.BaysAre fun d => if T = .bay d then s.named d else if d = a then s.left a else s.bay d
  keeps : s.cutWhenLeft a = false → t.filters = s.filters ∧ t.checkers = s.checkers
  tells : s.Tells t [.stageRetargeted r.origin T (.bay a) c r.phase]
  frame : t = { s with
    stage := t.stage, power := t.power, filters := t.filters, checkers := t.checkers, links := t.links }

section
variable {s t : State} {r : HandoverRecord} {a : Bay} {T : Target} {c : Cause}

theorem State.protect_mem (s : State) (T : Target) (k : Bay) :
    k ∈ (s.protect T).power.protectedSet ↔ k ∈ s.power.protectedSet ∨ T = .bay k := by
  cases T with
  | menu => simp [State.protect]
  | bay b =>
    have hcase : (s.protect (.bay b)).power.protectedSet =
        if b ∈ s.power.protectedSet then s.power.protectedSet else s.power.protectedSet ++ [b] := by
      unfold State.protect
      by_cases hb : b ∈ s.power.protectedSet
      · rw [if_pos hb]
        exact congrArg (fun x : State => x.power.protectedSet) (if_pos (List.contains_iff_mem.2 hb))
      · rw [if_neg hb]
        exact congrArg (fun x : State => x.power.protectedSet) (if_neg fun h => hb (List.contains_iff_mem.1 h))
    rw [hcase, Target.bay.injEq]
    split
    next hb => exact ⟨.inl, fun h => h.elim id fun e => e ▸ hb⟩
    next hb => simp [eq_comm]

theorem State.protect_frame (s : State) (T : Target) :
    s.protect T = s.setProtected (s.protect T).power.protectedSet := by
  cases T with
  | menu => rfl
  | bay b =>
    by_cases hb : s.power.protectedSet.contains b = true
    · have hsame : s.protect (.bay b) = s := if_pos hb
      rw [hsame]
      rfl
    · have hadds : s.protect (.bay b) = s.setProtected (s.power.protectedSet ++ [b]) := if_neg hb
      rw [hadds]
      rfl

theorem State.retarget_eq (htarget : r.target = .bay a) (horigin : r.origin ≠ .bay a) :
    s.retarget r T c = State.redirect ((((((s.setRecord (r.turned T c)).retargetedAway a).protect T).nameIfBay T)).notify
      (.stageRetargeted r.origin T (.bay a) c r.phase)) (r.turned T c) := by
  have hleave (x : State) : x.leaveTarget (.bay a) r.origin = x.retargetedAway a := if_neg fun h => horigin h.symm
  unfold State.retarget
  dsimp only
  rw [htarget, hleave]
  rfl

/-- A retarget up to its redirect. -/
theorem State.retargets (htarget : r.target = .bay a) (horigin : r.origin ≠ .bay a)
    (hT : T ≠ .bay a) (hfree : s.Uninvolved a) :
    ∃ t, s.retarget r T c = t.redirect (r.turned T c) ∧ s.Retargeted t r a T c := by
  let v := s.setRecord (r.turned T c)
  have hleft : v.LeavesTarget (v.retargetedAway a) a := State.retargetedAway_leaves (s := v) hfree rfl
  obtain ⟨x, hx⟩ : ∃ x, x = v.retargetedAway a := ⟨_, rfl⟩
  have heq := State.retarget_eq (s := s) (T := T) (c := c) htarget horigin
  rw [show (s.setRecord (r.turned T c)).retargetedAway a = x from hx.symm] at heq
  rw [← hx] at hleft
  have hxprotected : x.power.protectedSet = s.power.protectedSet := by
    rw [hleft.power]
    rfl
  have hxwarm : x.power.warm = s.leftWarm a := by rw [hleft.power]; rfl
  have hxframe := hleft.frame
  have hxbay (d : Bay) : x.bay d = if d = a then s.left a else s.bay d := hleft.bays d
  have hxprofile (d : Bay) : x.profile d = s.profile d := by rw [hxframe]; rfl
  let p := x.protect T
  have hp : p = x.setProtected p.power.protectedSet := x.protect_frame T
  have hpbay (d : Bay) : p.bay d = x.bay d := by rw [hp]; rfl
  let n := p.nameIfBay T
  have hn : n = p.setPower n.power := by cases T <;> rfl
  have hnbay (d : Bay) : n.bay d = if T = .bay d then s.named d else if d = a then s.left a else s.bay d := by
    have hother (hd : T ≠ .bay d) : n.bay d = p.bay d := by
      cases T with
      | menu => rfl
      | bay b => exact State.nameTarget_bay_other p true fun e => hd (e ▸ rfl)
    split
    next hd =>
      have hne : d ≠ a := fun e => hT (e ▸ hd)
      subst hd
      have hsame : n.bay d = { p.bay d with
          releasePending := false, attempts := if true then (p.profile d).general.attempts else (p.bay d).attempts } :=
        State.nameTarget_bay_same p d true
      have hpprofile : p.profile d = s.profile d := by rw [hp]; exact hxprofile d
      rw [hsame, hpprofile, hpbay, hxbay, if_neg hne]
      rfl
    next hd => rw [hother hd, hpbay, hxbay]
  have hnprotected : n.power.protectedSet = p.power.protectedSet := by cases T <;> rfl
  have hnwarm : n.power.warm = (s.leftWarm a).filter fun k => decide (T ≠ .bay k) := by
    rw [State.nameIfBay_warm, hp]
    exact congrArg (List.filter _) hxwarm
  have hnframe : n = { s with
      stage := .handover (r.turned T c), power := n.power, filters := x.filters, checkers := x.checkers } :=
    hn.trans (congrArg (State.setPower · n.power) (hp.trans (congrArg (State.setProtected · p.power.protectedSet) hxframe)))
  obtain ⟨y, hy⟩ : ∃ y, y = n := ⟨_, rfl⟩
  rw [← hy] at hnframe hnwarm hnprotected hnbay
  have hylinks : y.links = s.links := by rw [hnframe]
  have hystage : y.stage = .handover (r.turned T c) := by rw [hnframe]
  have hyfilters : y.filters = x.filters := by rw [hnframe]
  have hycheckers : y.checkers = x.checkers := by rw [hnframe]
  refine ⟨y.notify (.stageRetargeted r.origin T (.bay a) c r.phase), by rw [heq, hy], ?_⟩
  exact
    { stage := hystage
      protectedSet := fun k => by
        show k ∈ y.power.protectedSet ↔ _
        rw [hnprotected, State.protect_mem, hxprotected]
      menu := fun hmenu => by
        show y.power.protectedSet = _
        rw [hnprotected, ← hxprotected]
        show (x.protect T).power.protectedSet = _
        rw [hmenu]
        rfl
      warm := hnwarm
      bays := hnbay
      keeps := fun hkeep => by
        obtain ⟨hfilters, hcheckers⟩ := hleft.keeps hkeep
        exact ⟨hyfilters.trans hfilters, hycheckers.trans hcheckers⟩
      tells := fun l => (State.link_notify y _ l).trans (by rw [State.link_congr hylinks]; rfl)
      frame := by
        rw [← hyfilters, ← hycheckers, ← hystage] at hnframe
        exact congrArg (State.setLinks · (y.notify (.stageRetargeted r.origin T (.bay a) c r.phase)).links) hnframe }

/-! ## The phase goes on (R158, R159, R164) -/

theorem State.redirect_release (hphase : r.phase = .release) : s.redirect r = s := by
  unfold State.redirect
  rw [hphase]

theorem State.redirect_power (hphase : r.phase = .power) : s.redirect r = s.afterRelease r := by
  unfold State.redirect
  rw [hphase]

theorem State.redirect_class (hphase : r.phase = .classChange) : s.redirect r = s.withdrawCut.afterRelease r := by
  unfold State.redirect
  rw [hphase]

theorem State.afterRelease_menu (h : r.target = .menu) : s.afterRelease r = s.startClass r := by
  unfold State.afterRelease
  rw [h]

theorem State.afterRelease_bay {b : Bay} (h : r.target = .bay b) :
    s.afterRelease r = (s.setRecord { r with phase := .power }).powerRequest b := by
  have hstart : s.afterRelease r = s.startPower r b := by
    unfold State.afterRelease
    rw [h]
  exact hstart

/-- Towards MENU or a RUNNING bay the handover is in CLASS at once, and in QUIET where nothing is to be waited for. -/
theorem State.afterRelease_drains (hs : s.reports = []) (hplain : s.PlainCut r)
    (hrun : ∀ b, r.target = .bay b → (s.bay b).state = .running) (n : Nat) :
    (s.afterRelease r).drainWith (n + 3) = s.classBegun r := by
  cases hto : r.target with
  | menu =>
    rw [State.afterRelease_menu hto]
    exact hplain.drains hs (by rw [hto]; rfl) (n + 1)
  | bay b =>
    let q : HandoverRecord := { r with phase := .power }
    let y := s.setRecord q
    have hready : y.ready b = y.startClass q := State.ready_power (s := y) rfl rfl hto
    have hsource : y.cutSource q.target = q.target.source := by
      show y.cutSource r.target = r.target.source
      rw [hto, State.cutSource_bay]
      exact if_pos (hrun b hto)
    rw [State.afterRelease_bay hto, State.powerRequest_running (s := y) (hrun b hto),
      State.report_drainWith (s := y) hs rfl]
    refine (congrArg (State.drainWith · (n + 2)) hready).trans ?_
    exact State.PlainCut.drains (s := y) (r := q) hs hplain hsource n

end

end Sys2Proof.Machine
end

section
/-! The menu-hold timer and the quiet wait (R103, R109, R111 to R113, R148, R156, R162, R164 to R166, R170). -/

namespace Sys2Proof.Machine

/-! ## The menu switch (R103) -/

section
variable {s : State} {w : Switch} {e : Edge} {r : HandoverRecord} {b : Bay}

theorem State.dealSwitch_menuSwitch (hstage : s.stage ≠ .menu) (hmenu : s.tables.cabinet.panel.menu = w) :
    s.dealSwitch w e = s.menuSwitchEvent e := by
  cases hs : s.stage with
  | menu => exact absurd hs hstage
  | play b =>
    rw [State.dealSwitch_play hs]
    exact if_pos hmenu
  | handover r =>
    rw [State.dealSwitch_handover hs]
    exact if_pos hmenu

end

theorem menuHoldRunsWhilePressed : Claims.MenuHoldRunsWhilePressed := by
  intro s w hs hstage hsettled hmenu hmask
  have htake (e : Edge) : (s.setContact w (edgePresses e)).takeSwitch w e = ((s.noted w e).menuSwitchEvent e).quietCheck e :=
    (State.takeSwitch_unmasked (s := s.setContact w (edgePresses e)) hmask).trans
      (congrArg (State.quietCheck · e) (State.dealSwitch_menuSwitch (s := s.noted w e) hstage hmenu))
  refine ⟨fun hopen => ?_, fun hpressed hquiet => ?_⟩
  · let u := (s.noted w .press).menuSwitchEvent .press
    have hexec := exec_switchEvent (w := w) (e := .press) hsettled (by simp [hopen])
    rw [htake, State.quietCheck_stands (s := u) (.inl rfl), State.drain_settled u hs] at hexec
    exact ⟨u, hexec, (s.notes_noted w .press).of_panel rfl rfl, rfl, rfl⟩
  · let u := (s.noted w .release).menuSwitchEvent .release
    have hstands : u.quietCheck .release = u := State.quietCheck_stands (s := u) <| .inr <|
      hquiet.imp id fun ⟨k, hk, hne⟩ => ⟨k, ((s.notes_noted w .release).pressed k).2 (.inl ⟨hk, hne⟩)⟩
    have hexec := exec_switchEvent (w := w) (e := .release) hsettled (by simp [hpressed])
    rw [htake, hstands, State.drain_settled u hs] at hexec
    exact ⟨u, hexec, (s.notes_noted w .release).of_panel rfl rfl, rfl, rfl⟩

/-! ## A menu request (R156, R164 to R166) -/

section
variable {s w : State} {r : HandoverRecord} {b : Bay} {c : Cause}

theorem State.rampDownRequest_falls (haudio : s.monitor.audio = .full ∨ s.monitor.audio = .rising) (hgain : 0 < s.monitor.gain)
    (hramp : 0 < s.rampLength) :
    s.rampDownRequest = s.setMonitor { s.monitor with audio := .falling, ramp := s.rampLength } := by
  have hdown := Crosspoint.rampDown_falling hgain hramp
  unfold State.rampDownRequest
  dsimp only
  rw [hdown]
  rcases haudio with h | h <;> rw [h] <;> exact if_neg nofun

/-- A handover to MENU begun from PLAY with the audio up. -/
theorem State.begin_falls (hstage : w.stage = .play b) (hgate : w.gate.bay ≠ some b) (hqueue : (w.feeder b).queue = [])
    (haudio : w.monitor.audio = .full ∨ w.monitor.audio = .rising) (hgain : 0 < w.monitor.gain) (hramp : 0 < w.rampLength) :
    w.begin .menu c = (w.turning b c).setMonitor { w.monitor with audio := .falling, ramp := w.rampLength } := by
  rw [State.begin_turning hstage hgate hqueue]
  exact State.rampDownRequest_falls (s := w.turning b c) haudio hgain hramp

theorem exec_menuHoldExpiry_running (h : s.panel.menuHold.isSome = true) :
    exec .menuHoldExpiry s = .next s.stopMenuHold.menuRequest.drain := congrArg Host.Outcome.next (if_pos h)

theorem State.menuRequest_play (hstage : s.stage = .play b) : s.menuRequest = s.begin .menu .menuSwitch := by
  unfold State.menuRequest
  rw [hstage]

theorem State.menuRequest_already (hstage : s.stage = .handover r) (htarget : r.target = .menu) : s.menuRequest = s := by
  unfold State.menuRequest
  rw [hstage]
  dsimp only
  rw [htarget]

theorem State.menuRequest_quiet (hstage : s.stage = .handover r) (htarget : r.target = .bay b) (hphase : r.phase = .quiet) :
    s.menuRequest = s.setRecord r.askMenu := by
  unfold State.menuRequest
  rw [hstage]
  dsimp only
  rw [htarget]
  exact if_pos hphase

theorem State.menuRequest_retargets (hstage : s.stage = .handover r) (htarget : r.target = .bay b) (hphase : r.phase ≠ .quiet) :
    s.menuRequest = s.retarget r .menu .menuSwitch := by
  unfold State.menuRequest
  rw [hstage]
  dsimp only
  rw [htarget]
  exact if_neg hphase

end

theorem menuHoldLeadsToMenu : Claims.MenuHoldLeadsToMenu := by
  refine ⟨fun s hnone => ?_, fun s b hs hstage hhold haudio hgain hramp hgate hqueue => ?_, fun s r hs hstage hhold => ?_⟩
  · exact congrArg Host.Outcome.next (if_neg (by rw [hnone]; exact Bool.false_ne_true))
  · let v := s.stopMenuHold
    have hexec := exec_menuHoldExpiry_running hhold
    let t := (v.turning b .menuSwitch).setMonitor { s.monitor with audio := .falling, ramp := s.rampLength }
    have hbegin : v.menuRequest = t := (State.menuRequest_play (s := v) hstage).trans
      (State.begin_falls (w := v) hstage (by rw [show v.gate = Gate.fresh from hgate]; exact nofun) hqueue (.inl haudio) hgain hramp)
    rw [hbegin, State.drain_settled t hs] at hexec
    exact ⟨t, hexec, rfl, rfl, rfl, rfl, fun l => State.link_notify v _ l, rfl, rfl⟩
  · intro u
    let v := s.stopMenuHold
    have hexec := exec_menuHoldExpiry_running hhold
    refine ⟨fun htarget => ?_, fun a htarget hphase => ?_, fun a htarget hphase horigin hfree => ?_⟩
    · rw [State.menuRequest_already (s := v) hstage htarget, State.drain_settled v hs] at hexec
      exact hexec
    · rw [State.menuRequest_quiet (s := v) hstage htarget hphase, State.drain_settled (v.setRecord r.askMenu) hs] at hexec
      refine hexec.trans (congrArg (fun q : HandoverRecord => Host.Outcome.next (v.setRecord q)) ?_)
      unfold HandoverRecord.askMenu
      cases hfollow : r.followOn with
      | none => rfl
      | some f => cases f <;> simp only [← hfollow]
    · obtain ⟨t, hretarget, ht⟩ := State.retargets (s := v) (r := r) (T := .menu) (c := .menuSwitch) htarget horigin nofun hfree
      have hturned : (r.turned .menu .menuSwitch).phase = .release := hphase
      have hframe := ht.frame
      have hsettled : t.Settled := by
        rw [hframe]
        exact hs
      rw [State.menuRequest_retargets (s := v) hstage htarget (by rw [hphase]; exact nofun), hretarget,
        State.redirect_release hturned, State.drain_settled t hsettled] at hexec
      have hwarm : t.power.warm = s.leftWarm a := ht.warm.trans (List.filter_eq_self.2 fun k _ => rfl)
      have hprotected : t.power.protectedSet = s.power.protectedSet := ht.menu rfl
      refine ⟨t, hexec, ht.stage, fun d => (ht.bays d).trans (if_neg nofun), ?_, ht.keeps, ?_, hframe⟩
      · rw [← hwarm]
        exact congrArg (fun ps : List Bay => { t.power with protectedSet := ps }) hprotected
      · have htells := ht.tells
        rw [hphase] at htells
        exact htells

/-! ## The quiet wait ends (R111 to R113, R162) -/

section
variable {s x : State} {r : HandoverRecord} {w : Timer}

/-- A quiet wait that has expired, before its grant: every pressed switch is masked. -/
def State.expired (s : State) : State :=
  { s with
    panel := { s.panel with
      mask := uniteSwitches s.panel.mask s.panel.pressed
      menuHold := if s.panel.pressed.contains s.tables.cabinet.panel.menu then none else s.panel.menuHold }
    routing := { s.routing with quiet := none } }

theorem State.quietExpires_eq (s : State) : s.quietExpires = s.expired.report .quietGrant := rfl

theorem State.expired_mask (s : State) (k : Switch) :
    k ∈ s.expired.panel.mask ↔ k ∈ s.panel.mask ∨ k ∈ s.panel.pressed := mem_uniteSwitches

theorem State.expired_menuHold (s : State) : s.expired.panel.menuHold =
    if s.tables.cabinet.panel.menu ∈ s.panel.pressed then none else s.panel.menuHold := by
  show (if s.panel.pressed.contains s.tables.cabinet.panel.menu then none else s.panel.menuHold) = _
  by_cases h : s.tables.cabinet.panel.menu ∈ s.panel.pressed
  · rw [if_pos h, if_pos (List.contains_iff_mem.2 h)]
  · rw [if_neg h, if_neg fun hc => h (List.contains_iff_mem.1 hc)]

/-- A grant of the quiet wait, once its report is taken. -/
theorem State.quietGrant_drain (hs : x.Settled) (hstage : x.stage = .handover r) (hphase : r.phase = .quiet) :
    (x.report .quietGrant).drain = ((x.completed r.target r.cause).followOn r).drainWith 63 := by
  rw [State.report_drain hs rfl]
  exact congrArg (State.drainWith · 63) (State.quietGrant_handover hstage hphase)

theorem State.quietGrant_completes (hs : x.Settled) (hstage : x.stage = .handover r) (hphase : r.phase = .quiet)
    (hfollow : r.followOn = none ∨ r.target = .menu) : (x.report .quietGrant).drain = x.completed r.target r.cause := by
  have hreports : (x.completed r.target r.cause).reports = [] := by
    rw [(x.completes r.target r.cause).frame]
    exact hs.1
  rw [State.quietGrant_drain hs hstage hphase, State.followOn_none hfollow]
  exact State.drainWith_nil hreports 63

theorem exec_quietExpiry (h : s.routing.quiet = some w) :
    exec .quietExpiry s = .next (s.expired.report .quietGrant).drain :=
  congrArg Host.Outcome.next (if_pos (by rw [h]; rfl))

end

theorem quietExpiryCompletesHandover : Claims.QuietExpiryCompletesHandover := by
  refine ⟨fun s hnone => ?_, fun s r w hs hstage hphase hfollow hquiet => ?_⟩
  · exact congrArg Host.Outcome.next (if_neg (by rw [hnone]; exact Bool.false_ne_true))
  · have hexec := exec_quietExpiry hquiet
    rw [State.quietGrant_completes (x := s.expired) hs hstage hphase hfollow] at hexec
    obtain ⟨tstage, tbays, tpower, trouting, tpanel, ttells, tframe⟩ := s.expired.completes r.target r.cause
    obtain ⟨t, ht⟩ : ∃ t, t = s.expired.completed r.target r.cause := ⟨_, rfl⟩
    rw [← ht] at hexec tstage tbays tpower trouting tpanel ttells tframe
    refine ⟨t, hexec, tstage, fun k => ?_, ?_, ?_, ?_, ?_, tbays, ttells, tframe⟩
    · rw [tpanel]
      exact s.expired_mask k
    · have hmask : t.panel.mask = s.expired.panel.mask := by rw [tpanel]
      have hhold : (if r.target = .menu ∨ s.tables.cabinet.panel.menu ∈ s.panel.pressed then none else s.panel.menuHold)
          = if r.target = .menu then none else s.expired.panel.menuHold := by
        rw [s.expired_menuHold]
        by_cases hmenu : r.target = .menu <;> simp [hmenu]
      rw [hmask, hhold]
      exact tpanel
    · rw [trouting]
      rfl
    · rw [tpower]
    · rw [tpower]
      rfl

theorem emptyPanelCompletesHandover : Claims.EmptyPanelCompletesHandover := by
  intro s r w k hs hstage hphase hfollow hquiet hsettled hpressed hmenu
  let v := s.noted k .release
  let x := v.setRouting { s.routing with quiet := none }
  have hnotes : s.Notes v k .release := s.notes_noted k .release
  have hempty : v.panel.pressed = [] := List.eq_nil_iff_forall_not_mem.2 fun j hj => by
    rcases (hnotes.pressed j).1 hj with ⟨hj', hne⟩ | ⟨_, hedge⟩
    · rw [hpressed] at hj'
      exact hne (List.mem_singleton.1 hj')
    · exact absurd hedge nofun
  have hcheck : v.quietCheck .release = x.report .quietGrant :=
    if_pos ⟨rfl, by rw [show v.routing.quiet = some w from hquiet]; rfl, hempty⟩
  have hdeal : v.dealSwitch k .release = v := (State.dealSwitch_handover (s := v) hstage).trans (if_neg hmenu)
  let a := s.setContact k (edgePresses .release)
  have htake : a.takeSwitch k .release = x.report .quietGrant := by
    by_cases hmask : k ∈ s.panel.mask
    · exact (State.takeSwitch_masked (s := a) hmask).trans hcheck
    · exact (State.takeSwitch_unmasked (s := a) hmask).trans ((congrArg (State.quietCheck · .release) hdeal).trans hcheck)
  have hexec := exec_switchEvent (w := k) (e := .release) hsettled (by simp [hpressed])
  rw [htake, State.quietGrant_completes (x := x) hs hstage hphase hfollow] at hexec
  obtain ⟨tstage, tbays, tpower, trouting, tpanel, ttells, tframe⟩ := x.completes r.target r.cause
  obtain ⟨t, ht⟩ : ∃ t, t = x.completed r.target r.cause := ⟨_, rfl⟩
  rw [← ht] at hexec tstage tbays tpower trouting tpanel ttells tframe
  have hpins : t.pins = v.pins := by rw [tframe]; rfl
  refine ⟨t, hexec, tstage, hnotes.of_panel rfl (by rw [tpanel]; rfl), ?_, ?_, ?_, ?_, tbays, ttells, ?_⟩
  · rw [tpanel]
    rfl
  · rw [trouting]
    rfl
  · rw [tpower]
  · rw [tpower]
    rfl
  · rw [hpins]
    exact tframe

theorem quietRequestAnswered : Claims.QuietRequestAnswered := by
  intro s
  refine ⟨State.quietRequest_granted, fun hpressed hzero => ?_, State.quietRequest_waits⟩
  refine ⟨_, (if_neg hpressed).trans (if_pos hzero), s.expired_mask, ?_, rfl⟩
  rw [← s.expired_menuHold]
  rfl

end Sys2Proof.Machine
end

section
/-! Follow-ons: set by the loss of a target in QUIET, and begun at the completion (R148, R149, R151, R156, R157, R160 to R162,
R166, R168, R170). -/

namespace Sys2Proof.Machine

/-! ## A follow-on begun with the audio up (R156, R162) -/

section
variable {s x : State} {r : HandoverRecord} {b : Bay} {f : FollowOn}

theorem State.followOn_begins (htarget : r.target = .bay b) (hfollow : r.followOn = some f) :
    x.followOn r = x.begin .menu f.cause := by
  unfold State.followOn
  rw [htarget, hfollow]

theorem State.turning_tells (x : State) (b : Bay) (c : Cause) : x.Tells (x.turning b c) [.stageBegun (.bay b) .menu c] :=
  fun l => State.link_notify x _ l

theorem State.turning_frame (x : State) (b : Bay) (c : Cause) : x.turning b c = { x with
    stage := (x.turning b c).stage, routing := (x.turning b c).routing, power := (x.turning b c).power
    links := (x.turning b c).links } := rfl

/-- A state in which the bay has become active and the follow-on begins. -/
theorem State.expired_completes (s : State) (b : Bay) (c : Cause) : ∃ x, x = s.expired.completed (.bay b) c
    ∧ x.stage = .play b ∧ x.BaysAre (s.entered (.bay b)) ∧ x.power.warm = s.power.warm
    ∧ x.routing = { pulses := [], quiet := none } ∧ x.panel = s.expired.panel ∧ s.Tells x [.stageEntered (.bay b) c]
    ∧ x = { s with stage := x.stage, panel := x.panel, routing := x.routing, power := x.power, links := x.links } := by
  obtain ⟨tstage, tbays, tpower, trouting, tpanel, ttells, tframe⟩ := s.expired.completes (.bay b) c
  refine ⟨_, rfl, tstage, tbays, by rw [tpower]; rfl, by rw [trouting]; rfl, by rw [tpanel]; rfl, ttells, tframe⟩

end

theorem followOnBeginsAtCompletion : Claims.FollowOnBeginsAtCompletion := by
  intro s r b f w hs hstage hphase htarget hfollow hquiet hgate hqueue haudio hgain hramp c
  have hcause : f.cause = c := by cases f <;> rfl
  have hexec := exec_quietExpiry hquiet
  rw [State.quietGrant_drain (x := s.expired) hs hstage hphase, htarget,
    State.followOn_begins htarget hfollow, hcause] at hexec
  obtain ⟨x, hx, xstage, xbays, xwarm, xrouting, xpanel, xtells, xframe⟩ := s.expired_completes b r.cause
  rw [← hx] at hexec
  have hmonitor : x.monitor = s.monitor := by rw [xframe]
  have hlength : x.rampLength = s.rampLength := State.rampLength_congr (by rw [xframe])
  have hxgate : x.gate.bay ≠ some b := by
    rw [show x.gate = s.gate by rw [xframe], hgate]
    exact nofun
  have hxfeeder : x.feeder b = s.feeder b := State.feeder_congr (by rw [xframe]) b
  have hbegin := State.begin_falls (w := x) (c := c) xstage hxgate (by rw [hxfeeder]; exact hqueue)
    (by rw [hmonitor]; exact haudio) (by rw [hmonitor]; exact hgain) (by rw [hlength]; exact hramp)
  rw [hmonitor, hlength] at hbegin
  obtain ⟨y, hy⟩ : ∃ y, y = x.turning b c := ⟨_, rfl⟩
  have ystage : y.stage = .handover (.begun (.bay b) .menu c) := by rw [hy]; rfl
  have yrouting : y.routing = { x.routing with pulses := [] } := by rw [hy]; rfl
  have ypower : y.power = { x.power with protectedSet := [] } := by rw [hy]; rfl
  have ytells := x.turning_tells b c
  have yframe := x.turning_frame b c
  rw [← hy] at ytells yframe hbegin
  have yall := yframe.trans (congrArg (fun w : State => { w with
    stage := y.stage, routing := y.routing, power := y.power, links := y.links }) xframe)
  have ypanel : y.panel = x.panel := by rw [yframe]
  let t := y.setMonitor { s.monitor with audio := .falling, ramp := s.rampLength }
  have hreports : t.reports = [] := by
    show y.reports = []
    rw [yall]
    exact hs.1
  rw [hbegin, State.drainWith_nil (s := t) hreports] at hexec
  refine ⟨t, hexec, ystage, yrouting.trans (by rw [xrouting]), by rw [show t.power = y.power from rfl, ypower],
    by rw [show t.power = y.power from rfl, ypower]; exact xwarm, fun d => ?_, rfl, xtells.trans ytells, ?_⟩
  · have hbays : y.power.bays = x.power.bays := by rw [ypower]
    exact (congrArg (fun v : Vector BayPower 8 => v[d]) hbays).trans (xbays d)
  · rw [← ypanel] at yall
    exact congrArg (State.setMonitor · t.monitor) yall

/-! ## A follow-on begun with the audio MUTED (R149, R157, R160) -/

section
variable {s x : State} {r : HandoverRecord} {b : Bay} {c : Cause}

/-- An unpowered origin released at the cut-over (R132). -/
theorem State.releaseOrigin_unpowered (h : (s.bay b).state.powered = false) : s.releaseOrigin b =
    if (s.bay b).state = .cooling ∧ (s.profile b).general.keepWarm = false then s.dropDeferred b else s := by
  cases hstate : (s.bay b).state with
  | cooling =>
    rw [State.releaseOrigin_cooling hstate]
    cases (s.profile b).general.keepWarm <;> rfl
  | starting => rw [hstate] at h; exact absurd h Bool.noConfusion
  | booting => rw [hstate] at h; exact absurd h Bool.noConfusion
  | running => rw [hstate] at h; exact absurd h Bool.noConfusion
  | off => exact (State.releaseOrigin_other (.inl hstate)).trans (if_neg fun hb => nomatch hb.1).symm
  | tripped => exact (State.releaseOrigin_other (.inr (.inl hstate))).trans (if_neg fun hb => nomatch hb.1).symm
  | faulted => exact (State.releaseOrigin_other (.inr (.inr (.inl hstate)))).trans (if_neg fun hb => nomatch hb.1).symm
  | disabled => exact (State.releaseOrigin_other (.inr (.inr (.inr hstate)))).trans (if_neg fun hb => nomatch hb.1).symm

/-- A handover to MENU from an unpowered bay, its cut made at once, before the bay is released. -/
def State.overTurned (x : State) (b : Bay) (c : Cause) : State :=
  { x.notify (.stageBegun (.bay b) .menu c) with
    stage := .handover { HandoverRecord.begun (.bay b) .menu c with phase := .classChange, released := true }
    power := { x.power with protectedSet := [] }, routing := { x.routing with pulses := [] }
    monitor := x.cutRequested x.monitor .menu }

theorem State.cutting_reports (x : State) (r : HandoverRecord) : (x.cutting r).reports = x.reports := rfl
theorem State.turning_reports (x : State) (b : Bay) (c : Cause) : (x.turning b c).reports = x.reports := rfl
theorem State.overTurned_reports (x : State) (b : Bay) (c : Cause) : (x.overTurned b c).reports = x.reports := rfl

theorem State.cutting_turning (x : State) (b : Bay) (c : Cause) :
    ((x.turning b c).cutting (.begun (.bay b) .menu c)).setRecord
      { HandoverRecord.begun (.bay b) .menu c with phase := .classChange, released := true } = x.overTurned b c := rfl

/-- A handover to MENU that is past its cut-over at once, its unpowered origin released. -/
structure State.TurnsQuiet (x t : State) (b : Bay) (c : Cause) : Prop where
  stage : t.stage = .handover { HandoverRecord.begun (.bay b) .menu c with phase := .quiet, released := true }
  bays : ∀ d : Bay, t.bay d = if d = b ∧ (x.bay b).state = .cooling ∧ (x.profile b).general.keepWarm = false then
    { x.bay b with deferred := none } else x.bay d
  power : t.power = { x.power with bays := t.power.bays, protectedSet := [] }
  routing : t.routing = { pulses := [], quiet := some { count := 0, limit := x.tables.cabinet.panel.quiet } }
  monitor : t.monitor = x.cutRequested x.monitor .menu
  tells : x.Tells t [.stageBegun (.bay b) .menu c]
  frame : t = { x with
    stage := t.stage, routing := t.routing, power := t.power, monitor := t.monitor, links := t.links }

theorem State.overTurned_released (x : State) (b : Bay) (c : Cause) (h : (x.bay b).state.powered = false) :
    ∃ m, (x.overTurned b c).releaseOrigin b = m ∧ m = { x.overTurned b c with power := m.power }
      ∧ m.power = { x.power with bays := m.power.bays, protectedSet := [] }
      ∧ ∀ d : Bay, m.bay d = if d = b ∧ (x.bay b).state = .cooling ∧ (x.profile b).general.keepWarm = false then
        { x.bay b with deferred := none } else x.bay d := by
  obtain ⟨z, hz⟩ : ∃ z, z = x.overTurned b c := ⟨_, rfl⟩
  have hbay (d : Bay) : z.bay d = x.bay d := by rw [hz]; rfl
  have hprofile : z.profile b = x.profile b := by rw [hz]; rfl
  have hpower : z.power = { x.power with protectedSet := [] } := by rw [hz]; rfl
  rw [← hz, State.releaseOrigin_unpowered (by rw [hbay]; exact h), hbay, hprofile]
  by_cases hcond : (x.bay b).state = .cooling ∧ (x.profile b).general.keepWarm = false
  · rw [if_pos hcond]
    refine ⟨z.dropDeferred b, rfl, rfl, ?_, fun d => ?_⟩
    · exact congrArg (fun k : Power => { k with bays := (z.dropDeferred b).power.bays }) hpower
    · by_cases hd : d = b
      · rw [if_pos ⟨hd, hcond⟩, hd, State.dropDeferred, State.bay_setBay_same, hbay]
      · rw [if_neg fun hboth => hd hboth.1, State.dropDeferred, State.bay_setBay_other _ _ hd, hbay]
  · rw [if_neg hcond]
    refine ⟨z, rfl, rfl, ?_, fun d => ?_⟩
    · rw [hpower]
    · rw [if_neg fun hboth => hcond hboth.2, hbay]

theorem State.begin_turnsQuiet (hs : x.reports = []) (hstage : x.stage = .play b) (hgate : x.gate.bay ≠ some b)
    (hqueue : (x.feeder b).queue = []) (haudio : x.monitor.audio = .muted) (hdown : (x.bay b).state.powered = false)
    (hclass : x.monitor.lineClass = x.tables.cabinet.system.menuClass) (hsettle : x.monitor.settle = none)
    (hgain : x.monitor.gain < Config.gainFull) (hramp : 0 < x.rampLength) (hpressed : x.panel.pressed ≠ [])
    (hquiet : 0 < x.tables.cabinet.panel.quiet) (n : Nat) :
    ∃ t, (x.begin .menu c).drainWith (n + 2) = t ∧ x.TurnsQuiet t b c := by
  let q := HandoverRecord.begun (.bay b) .menu c
  let y := x.turning b c
  obtain ⟨z, hz⟩ : ∃ z, z = y.cutting q := ⟨_, rfl⟩
  have hwaits : y.cutWaits y.monitor q.target = false := Bool.eq_false_iff.2 fun h =>
    (State.cutWaits_iff.1 h).elim (fun hne => hne hclass.symm) fun hruns => by
      rw [show y.monitor.settle = none from hsettle] at hruns
      exact absurd hruns Bool.false_ne_true
  have hzstage : z.stage = .handover { q with phase := .classChange } := by rw [hz]; rfl
  have hzreports : z.reports = [] := by rw [hz, State.cutting_reports, State.turning_reports, hs]
  have hzover : z.setRecord { q with phase := .classChange, released := true } = x.overTurned b c := by rw [hz, ← State.cutting_turning]
  obtain ⟨m, hm, hmframe, hmpower, hmbays⟩ := State.overTurned_released x b c hdown
  obtain ⟨o, ho⟩ : ∃ o, o = x.overTurned b c := ⟨_, rfl⟩
  rw [← ho] at hmframe
  have hmstage : m.stage = .handover { q with phase := .classChange, released := true } := by rw [hmframe, ho]; rfl
  have hmpanel : m.panel = x.panel := by rw [hmframe, ho]; rfl
  have hmtables : m.tables = x.tables := by rw [hmframe, ho]; rfl
  have hmreports : m.reports = [] := by rw [hmframe, ho]; exact (x.overTurned_reports b c).trans hs
  have hmrouting : m.routing = { x.routing with pulses := [] } := by rw [hmframe, ho]; rfl
  have hmmonitor : m.monitor = x.cutRequested x.monitor .menu := by rw [hmframe, ho]; rfl
  have hmtells : x.Tells m [.stageBegun (.bay b) .menu c] := by
    rw [hmframe, ho]
    exact fun l => State.link_notify x _ l
  obtain ⟨k, hk⟩ : ∃ k, k = m.setRecord { q with phase := .quiet, released := true } := ⟨_, rfl⟩
  have hkpanel : k.panel = x.panel := by rw [hk]; exact hmpanel
  have hktables : k.tables = x.tables := by rw [hk]; exact hmtables
  have hkreports : k.reports = [] := by rw [hk]; exact hmreports
  have hkrouting : k.routing = { x.routing with pulses := [] } := by rw [hk]; exact hmrouting
  let t := k.setRouting { pulses := [], quiet := some { count := 0, limit := x.tables.cabinet.panel.quiet } }
  have hrelease : z.cutOverRelease { q with phase := .classChange } = m := by
    rw [State.cutOverRelease_leaves (s := z) (r := { q with phase := .classChange }) (a := b) rfl, ← hm]
    exact congrArg (State.releaseOrigin · b) hzover
  have hquietRequest : k.quietRequest = t := by
    rw [State.quietRequest_waits (by rw [hkpanel]; exact hpressed) (by rw [hktables]; exact hquiet), hkrouting, hktables]
    rfl
  have hdone : z.cutDone q.target.source = t := by
    rw [State.cutDone_cutOver hzstage rfl rfl, hrelease, State.setPhase_handover hmstage, ← hquietRequest, hk]
  refine ⟨t, ?_, ?_⟩
  · rw [State.begin_muted hs hstage hgate hqueue haudio (n + 1), State.startClass_cuts (s := y) (r := q) hgain hramp hwaits rfl,
      ← hz, State.report_drainWith hzreports rfl]
    exact (congrArg (State.drainWith · n) hdone).trans (State.drainWith_nil (s := t) hkreports n)
  · have hoframe : o = { x with
        stage := o.stage, routing := o.routing, power := o.power, monitor := o.monitor, links := o.links } := by
      rw [ho]
      rfl
    have hmall := hmframe.trans (congrArg (fun w : State => { w with power := m.power }) hoframe)
    have hkframe : k = { m with stage := k.stage } := by rw [hk]; rfl
    have hkall := hkframe.trans (congrArg (fun w : State => { w with stage := k.stage }) hmall)
    have hpower : m.power = k.power := by rw [hk]; rfl
    have hmonitor : o.monitor = k.monitor := by rw [hkall]
    have hlinks : o.links = k.links := by rw [hkall]
    have hklinks : k.links = m.links := by rw [hk]; rfl
    have hkmonitor : k.monitor = x.cutRequested x.monitor .menu := by rw [hk]; exact hmmonitor
    rw [hpower, hmonitor, hlinks] at hkall
    exact
      { stage := by rw [show t.stage = k.stage from rfl, hk]; rfl
        bays := fun d => (State.bay_congr hpower.symm d).trans (hmbays d)
        power := by rw [show t.power = k.power from rfl, ← hpower]; exact hmpower
        routing := rfl
        monitor := hkmonitor
        tells := fun l => (State.link_congr hklinks l).trans (hmtells l)
        frame := congrArg (State.setRouting · t.routing) hkall }

end

theorem lossFollowOnLeavesMutedBay : Claims.LossFollowOnLeavesMutedBay := by
  intro s r b c w hs hstage hphase htarget hfollow hquiet hdown hgate hqueue haudio q begun
  have hexec := exec_quietExpiry hquiet
  rw [State.quietGrant_drain (x := s.expired) hs hstage hphase, htarget, State.followOn_begins htarget hfollow,
    show FollowOn.cause (.loss c) = .loss c from rfl] at hexec
  obtain ⟨x, hx, xstage, xbays, xwarm, xrouting, xpanel, xtells, xframe⟩ := s.expired_completes b r.cause
  rw [← hx] at hexec
  have hxreports : x.reports = [] := by rw [xframe]; exact hs.1
  have hmonitor : x.monitor = s.monitor := by rw [xframe]
  have htables : x.tables = s.tables := by rw [xframe]
  have hxgate : x.gate.bay ≠ some b := by rw [show x.gate = s.gate by rw [xframe]]; exact hgate
  have hxqueue : (x.feeder b).queue = [] := by rw [State.feeder_congr (show x.feeders = s.feeders by rw [xframe])]; exact hqueue
  have hxaudio : x.monitor.audio = .muted := by rw [hmonitor]; exact haudio
  have hbegun {t : State} (ht : t = { x with
      stage := t.stage, routing := t.routing, power := t.power, monitor := t.monitor, links := t.links })
      (htells : x.Tells t [.stageBegun (.bay b) .menu (.loss c)]) (hprotected : t.power.protectedSet = [])
      (hwarm : t.power.warm = x.power.warm) : begun t := by
    have hpanel : t.panel = s.expired.panel := by rw [ht, ← xpanel]
    refine ⟨fun k => by rw [hpanel]; exact s.expired_mask k, ?_, hprotected, hwarm.trans xwarm, xtells.trans htells, ?_⟩
    · rw [hpanel, ← s.expired_menuHold]
      rfl
    · have hall := ht.trans (congrArg (fun y : State => { y with
        stage := t.stage, routing := t.routing, power := t.power, monitor := t.monitor, links := t.links }) xframe)
      rw [hpanel, ← xpanel]
      exact hall
  refine ⟨fun hclass hsettle => ?_, fun hclass hsettle hgain hramp hpressed hwait => ?_⟩
  · have hxclass : x.monitor.lineClass ≠ x.tables.cabinet.system.menuClass := by rw [hmonitor, htables]; exact hclass
    rw [State.begin_turned hxreports xstage hxgate hxqueue hxaudio hxclass (by rw [htables]; exact hsettle) 61] at hexec
    refine ⟨_, hexec, hbegun (x.turned_frame b (.loss c)) (x.turned_tells b (.loss c)) rfl (x.turned_warm b (.loss c)),
      State.turned_stage hxclass, fun d => (x.turned_bay b (.loss c) d).trans (xbays d), ?_, ?_⟩
    · rw [State.turned_routing hxclass, xrouting]
    · rw [State.turned_monitor, State.cutRequested_congr htables, hmonitor,
        State.cutRequested_steps (s := s) (x := s.monitor) (k := .menu) hclass.symm, ← haudio]
      rfl
  · have hxbay : x.bay b = s.entered (.bay b) b := xbays b
    have hxstate : (x.bay b).state = (s.bay b).state := by
      rw [hxbay, State.entered]
      split <;> rfl
    have hxprofile : x.profile b = s.profile b := by rw [State.profile, htables, State.profile]
    have hpanel : x.panel.pressed = s.panel.pressed := by rw [xpanel]; rfl
    have hlength : x.rampLength = s.rampLength := State.rampLength_congr htables
    have hxdown : (x.bay b).state.powered = false := by rw [hxstate]; exact hdown
    have hquiets := State.begin_turnsQuiet (c := .loss c) hxreports xstage hxgate hxqueue hxaudio hxdown
      (by rw [hmonitor, htables]; exact hclass) (by rw [hmonitor]; exact hsettle) (by rw [hmonitor]; exact hgain)
      (by rw [hlength]; exact hramp) (by rw [hpanel]; exact hpressed) (by rw [htables]; exact hwait) 61
    obtain ⟨t, hdrain, ht⟩ := hquiets
    rw [hdrain] at hexec
    have hwarm : t.power.warm = x.power.warm := by rw [ht.power]
    refine ⟨t, hexec, hbegun ht.frame ht.tells (by rw [ht.power]) hwarm, ht.stage, fun d => ?_, by rw [ht.routing, htables], ?_⟩
    · rw [ht.bays d, hxstate, hxprofile]
      by_cases hcond : d = b ∧ (s.bay b).state = .cooling ∧ (s.profile b).general.keepWarm = false
      · rw [if_pos hcond]
        refine Eq.trans ?_ (if_pos hcond).symm
        rw [hxbay, State.entered]
        split <;> rfl
      · rw [if_neg hcond]
        exact (xbays d).trans (if_neg hcond).symm
    · rw [ht.monitor, State.cutRequested_congr htables, hmonitor,
        State.cutRequested_cuts (s := s) (x := s.monitor) (k := .menu) hclass.symm hsettle]
      rfl

/-! ## The target lost in QUIET (R151, R170) -/

section
variable {v u : State} {b : Bay} {into : PowerState} {p : BayPower} {ns : List Notice} {r : HandoverRecord} {c : LossCause}

/-- The first loss stays. -/
theorem HandoverRecord.lose_lose (r : HandoverRecord) (c d : LossCause) : (r.lose c).lose d = r.lose c := by
  unfold HandoverRecord.lose
  cases hfollow : r.followOn with
  | none => rfl
  | some f =>
    cases f with
    | menuSwitch => rfl
    | loss c => simp only [hfollow]

theorem HandoverRecord.lose_phase (r : HandoverRecord) (c : LossCause) : (r.lose c).phase = r.phase := by
  unfold HandoverRecord.lose
  split <;> rfl

theorem HandoverRecord.lose_target (r : HandoverRecord) (c : LossCause) : (r.lose c).target = r.target := by
  unfold HandoverRecord.lose
  split <;> rfl

/-- Each of the reports of a target's loss in QUIET sets the follow-on. -/
theorem State.takeReport_loses {x : Report} (hstage : v.stage = .handover r) (hphase : r.phase = .quiet)
    (htarget : r.target = .bay b) (hx : x = .loss b c ∨ x = .cutToCooling b ∧ c = .lost ∨ ∃ why, x = .failed b why ∧ why.loss = c) :
    v.takeOrLeave x = v.setRecord (r.lose c) := by
  have hwait : v.mayWait x = false := by
    have hactive : v.isActive b = false := State.isActive_of_handover hstage b
    have hcut : v.isCutTarget b = false := by
      unfold State.isCutTarget
      rw [hstage]
      show (decide (r.phase = .classChange) && _) = false
      rw [hphase]
      rfl
    rcases hx with rfl | ⟨rfl, _⟩ | ⟨why, rfl, _⟩
    · exact hactive
    · exact hcut
    · exact hcut
  rw [State.takeOrLeave_now hwait]
  rcases hx with rfl | ⟨rfl, rfl⟩ | ⟨why, rfl, rfl⟩
  · show v.bayLost b c = _
    unfold State.bayLost
    rw [hstage]
    exact if_pos ⟨htarget, hphase⟩
  · show v.targetCools b = _
    unfold State.targetCools
    rw [hstage]
    refine (if_pos htarget).trans ?_
    rw [hphase]
  · show v.targetFailed b why = _
    unfold State.targetFailed
    rw [hstage]
    exact (if_pos htarget).trans (if_pos hphase)

/-- A power loss of the target in QUIET: the follow-on is set, and the handover stays in QUIET. -/
structure State.LosesInQuiet (v t : State) (b : Bay) (r : HandoverRecord) (c : LossCause) (p : BayPower) (ns : List Notice) :
    Prop where
  stage : t.stage = .handover (r.lose c)
  routing : t.routing = v.routing
  feeder : (t.feeder b).state = .idle
  gate : t.gate.bay ≠ some b
  others : v.KeepsUnits t b
  bays : t.BaysAre fun d => if d = b then p else v.bay d
  monitor : t.monitor = v.blanked b
  tells : (v.feeder b).state = .idle → v.gate.bay ≠ some b → v.Tells t ns

/-- The reports of the target's stop in QUIET, taken one after another. -/
theorem State.drainWith_loses (hstage : v.stage = .handover r) (hphase : r.phase = .quiet) (htarget : r.target = .bay b)
    {rs : List Report} (hrs : ∀ x ∈ rs, x = .loss b c ∨ x = .cutToCooling b ∧ c = .lost ∨ ∃ why, x = .failed b why ∧ why.loss = c)
    (hne : rs ≠ []) {n : Nat} (hn : rs.length ≤ n) :
    (v.setReports rs).drainWith n = (v.setRecord (r.lose c)).setReports [] := by
  induction rs generalizing v r n with
  | nil => exact absurd rfl hne
  | cons x rest ih =>
    cases n with
    | zero => exact absurd hn (Nat.not_succ_le_zero _)
    | succ n =>
      have htake : ((v.setReports (x :: rest)).setReports rest).takeOrLeave x = (v.setRecord (r.lose c)).setReports rest :=
        State.takeReport_loses (v := v.setReports rest) hstage hphase htarget (hrs x List.mem_cons_self)
      rw [State.drainWith_cons (s := v.setReports (x :: rest)) rfl, htake]
      cases rest with
      | nil => exact State.drainWith_nil (s := (v.setRecord (r.lose c)).setReports []) rfl n
      | cons y more =>
        have hmore := ih (v := v.setRecord (r.lose c)) (r := r.lose c) rfl ((r.lose_phase c).trans hphase)
          ((r.lose_target c).trans htarget) (fun z hz => hrs z (List.mem_cons_of_mem x hz)) (List.cons_ne_nil y more)
          (Nat.le_of_succ_le_succ hn)
        rw [HandoverRecord.lose_lose] at hmore
        exact hmore

theorem State.CutTold.losesInQuiet (hcut : v.CutTold u b into p ns) (hs : v.Settled) (hstage : v.stage = .handover r)
    (hphase : r.phase = .quiet) (htarget : r.target = .bay b) (hpowered : (v.bay b).state.powered = true)
    (hinto : into.powered = false) (hpending : p.releasePending = false) {why : Option FailReason}
    (hwhy : why.elim .lost FailReason.loss = c) : v.LosesInQuiet (u.reportDown b c why).drain b r c p ns := by
  have hframe := hcut.frame
  have hustage : u.stage = .handover r := hcut.stage.trans hstage
  have hlate : u.late = none := by
    rw [hframe]
    exact (State.cutPower_late v b into).trans hs.2
  have hskip : ∀ x ∈ u.reports, u.Ignores x := fun x hx => by
    have hreports : u.reports = (v.cutPower b into).reports := by rw [hframe]
    rw [hreports] at hx
    have hfall (hx : x ∈ v.fallReports b) : u.Ignores x := by
      unfold State.fallReports at hx
      split at hx
      · rw [List.mem_singleton.1 hx]
        exact State.ignores_rampDone hustage (by rw [hphase]; exact nofun)
      · exact absurd hx List.not_mem_nil
    rcases State.cutPower_reports (into := into) hs.1 hpowered with hnone | hone
    · rw [hnone] at hx
      exact hfall hx
    · rw [hone] at hx
      rcases List.mem_cons.1 hx with rfl | hx
      · exact fun rest => ⟨rfl, State.feederIdle_stays (s := u.setReports rest) (.inl (by
          show (u.bay b).releasePending = false
          rw [hcut.bay_same]
          exact hpending))⟩
      · exact hfall hx
  have hlen : u.reports.length ≤ 2 := by
    have hreports : u.reports = (v.cutPower b into).reports := by rw [hframe]
    have hfall : (v.fallReports b).length ≤ 1 := by
      unfold State.fallReports
      split
      · exact Nat.le_refl 1
      · exact Nat.zero_le 1
    rw [hreports]
    rcases State.cutPower_reports (into := into) hs.1 hpowered with hnone | hone
    · rw [hnone]; omega
    · rw [hone, List.length_cons]; omega
  have hmine : u.targetReports b why = [why.elim (.cutToCooling b) (.failed b)] :=
    if_pos ((State.isTarget_handover hustage b).trans (decide_eq_true htarget))
  have hrs : ∀ x ∈ u.lossReports b c ++ u.targetReports b why,
      x = .loss b c ∨ x = .cutToCooling b ∧ c = .lost ∨ ∃ why, x = .failed b why ∧ why.loss = c := fun x hx => by
    rcases List.mem_append.1 hx with hloss | htold
    · unfold State.lossReports at hloss
      split at hloss
      · exact .inl (List.mem_singleton.1 hloss)
      · exact absurd hloss List.not_mem_nil
    · rw [hmine] at htold
      rw [List.mem_singleton.1 htold, ← hwhy]
      cases why with
      | none => exact .inr (.inl ⟨rfl, rfl⟩)
      | some why => exact .inr (.inr ⟨why, rfl, rfl⟩)
  have hfew : (u.lossReports b c ++ u.targetReports b why).length ≤ 2 := by
    rw [hmine, List.length_append]
    unfold State.lossReports
    split
    · exact Nat.le_refl 2
    · exact Nat.le_succ 1
  have hdrain : (u.reportDown b c why).drain = (u.setRecord (r.lose c)).setReports [] := by
    rw [State.reportDown_eq]
    refine (State.drain_of_late_none (s := u.setReports (u.reports ++ (u.lossReports b c ++ u.targetReports b why))) hlate).trans ?_
    obtain ⟨n, hn⟩ : ∃ n, Config.reportFuel = n + 2 + u.reports.length := ⟨62 - u.reports.length, show 64 = _ by omega⟩
    rw [hn, State.drainWith_skips hskip]
    exact State.drainWith_loses hustage hphase htarget hrs (by rw [hmine]; exact List.append_ne_nil_of_right_ne_nil _ nofun)
      (hfew.trans (Nat.le_add_left 2 n))
  have hactive : v.isActive b = false := State.isActive_of_handover hstage b
  have hurouting : u.routing = v.routing := by
    rw [hframe]
    show (v.cutPower b into).routing = _
    rw [State.cutPower_powered hpowered, State.handOnCut_eq]
    exact State.unrouted_inactive (s := v) hactive
  have hfeeders : u.feeders = (v.cutPower b into).feeders := by rw [hframe]
  rw [hdrain]
  exact
    { stage := rfl
      routing := hurouting
      feeder := by
        show (u.feeder b).state = .idle
        rw [State.feeder_congr hfeeders]
        exact State.cutPower_idle hpowered
      gate := by
        show u.gate.bay ≠ some b
        rw [hframe]
        exact State.cutPower_gate hpowered hinto
      others := fun d hd => by
        show (u.feeder d).units = _
        rw [State.feeder_congr hfeeders, State.cutPower_powered hpowered, State.handOnCut_eq]
        exact (State.Departs.refl (b := b) (v.enterCut b into)).creditLoss.others d hd
      bays := hcut.bays
      monitor := by
        show u.monitor = _
        rw [hframe]
        exact State.cutPower_monitor hpowered
      tells := fun hidle hgate => (hcut.uncharged hpowered hidle hgate).1 }

end

theorem targetLossInQuietSetsFollowOn : Claims.TargetLossInQuietSetsFollowOn := by
  intro s r b hs hstage hphase htarget hrun lost tells off crashed
  have hpowered : (s.bay b).state.powered = true := by rw [hrun]; rfl
  have hlost {v t : State} {p : BayPower} {ns : List Notice} {c : LossCause} (h : v.LosesInQuiet t b r c p ns)
      (hrouting : v.routing = s.routing) (hfeeders : v.feeders = s.feeders) (hpower : v.power = s.power)
      (hmonitor : v.monitor = s.monitor) : lost t c p := by
    refine ⟨h.stage.trans (congrArg Stage.handover ?_), h.routing.trans hrouting, h.feeder, h.gate, fun d hd => ?_,
      fun d => ?_, ?_⟩
    · unfold HandoverRecord.lose
      cases hfollow : r.followOn with
      | none => rfl
      | some f => cases f <;> simp only [← hfollow]
    · rw [h.others d hd, State.feeder_congr hfeeders]
    · refine (h.bays d).trans ?_
      show (if d = b then p else v.bay d) = if d = b then p else s.bay d
      rw [State.bay_congr hpower]
    · rw [h.monitor, State.blanked, hmonitor]
  have hgap (hlock : (s.checker b).state = .locked) :
      ∃ cs, exec (.fieldGapExpiry b) s = .next (({ s with checkers := cs } : State).crash b).drain :=
    (State.CrashesBy.crashes (.inr (.inl ⟨rfl, hlock, hrun⟩))).2
  refine ⟨?_, fun hlock hpending hmore => ?_, fun hlock hpending hlast => ?_, fun l bay htakes hbay => ?_⟩
  · let v : State := { s with pins := { s.pins with overcurrent := s.pins.overcurrent.set b true } }
    obtain ⟨u, htrips, hcut⟩ := v.trip_told b
    have hexec := exec_overcurrent_powered hpowered
    rw [htrips] at hexec
    have hloses := hcut.losesInQuiet (c := .tripped) (why := some .tripped) hs hstage hphase htarget hpowered rfl rfl rfl
    exact ⟨_, hexec, hlost hloses rfl rfl rfl rfl, hloses.tells⟩
  · obtain ⟨cs, hexec⟩ := hgap hlock
    let v : State := { s with checkers := cs }
    obtain ⟨u, hcrashed, hcut⟩ := State.crash_again (v := v) hpending hmore
    have hnamed : v.crashDeferred b = .handover :=
      if_pos ((State.isTarget_handover (s := v) hstage b).trans (decide_eq_true htarget))
    rw [hnamed] at hcut
    rw [hcrashed] at hexec
    have hloses := hcut.losesInQuiet (c := .lost) (why := none) hs hstage hphase htarget hpowered rfl rfl rfl
    exact ⟨_, hexec, hlost hloses rfl rfl rfl rfl, hloses.tells⟩
  · obtain ⟨cs, hexec⟩ := hgap hlock
    let v : State := { s with checkers := cs }
    obtain ⟨u, hcrashed, hcut⟩ := State.crash_out (v := v) hpending hlast
    rw [hcrashed] at hexec
    have hloses := hcut.losesInQuiet (c := FailReason.loss .faulted) (why := some .faulted) hs hstage hphase htarget hpowered rfl rfl rfl
    exact ⟨_, hexec, hlost hloses rfl rfl rfl rfl, hloses.tells⟩
  · obtain ⟨x, t, hexec, hframe, _, hanswers⟩ := exec_disableBay htakes hbay (by rw [hrun]; exact nofun)
    let z := s.setLinks x
    obtain ⟨u, hcut, hpowers, _, _⟩ := z.disable_told b
    rw [hpowers hpowered] at hframe hanswers
    have hloses := hcut.losesInQuiet (v := z.setEnabled b false) (c := .disabled) (why := some .disabled) htakes.settled hstage hphase htarget
      hpowered rfl rfl rfl
    have hdown : lost (u.reportDown b .disabled (some .disabled)).drain .disabled ((z.bay b).out .disabled) :=
      hlost hloses rfl rfl rfl rfl
    obtain ⟨w, hw⟩ : ∃ w, w = (u.reportDown b .disabled (some .disabled)).drain := ⟨_, rfl⟩
    rw [← hw] at hdown hframe hloses hanswers
    refine ⟨t, hexec, ?_, fun hidle hgate => hanswers _ (hloses.tells hidle hgate)⟩
    rw [hframe]
    exact hdown

/-- Settles O40: the menu switch and its hold, a quiet wait by its ends, and follow-ons from their setting to their begin. -/
theorem menuHoldAndQuietWait : Obligations.MenuHoldAndQuietWait :=
  ⟨menuHoldRunsWhilePressed, menuHoldLeadsToMenu, quietExpiryCompletesHandover, emptyPanelCompletesHandover,
    followOnBeginsAtCompletion, targetLossInQuietSetsFollowOn, lossFollowOnLeavesMutedBay, quietRequestAnswered⟩

end Sys2Proof.Machine
end

section
/-! The LOSS of the active bay, taken in the event that makes it or behind the next one (R107, R127, R135, R163, R168, R169,
R171). -/

namespace Sys2Proof.Machine

theorem lossOfActiveBayTurnsToMenu : Claims.LossOfActiveBayTurnsToMenu := by
  intro s b hs hstage hrun hlock hmore hpending hsource haudio hcut hclass hsettle
  obtain ⟨hpowered, cs, hexec⟩ := State.CrashesBy.crashes (.inr (.inl ⟨rfl, hlock, hrun⟩))
  let v : State := { s with checkers := cs }
  obtain ⟨u, hcrashed, htold⟩ := State.crash_again (v := v) hpending hmore
  have hlost := htold.losesActive hs hstage hpowered rfl hsource haudio hclass hsettle rfl .lost none
  have htarget : ¬v.isTarget b = true := by
    unfold State.isTarget State.handover
    rw [show v.stage = .play b from hstage]
    exact Bool.false_ne_true
  have hnamed : v.crashDeferred b = .recovery := if_neg htarget
  have hblank : v.blanked b = { s.monitor with source := .blank, audio := .muted, gain := 0 } := State.blanked_shown hsource
  rw [hcrashed] at hexec
  rw [hnamed] at hlost
  obtain ⟨t, ht⟩ : ∃ t, t = (u.reportDown b .lost none).drain := ⟨_, rfl⟩
  rw [← ht] at hexec hlost
  have hbay := (hlost.bays b).trans (if_pos rfl)
  refine ⟨t, hexec, by rw [hbay]; rfl, by rw [hbay], hlost.feeder, hlost.gate, hlost.pulses, ?_⟩
  rcases hlost.outcome with ⟨hbegun, _, hmonitor⟩ | ⟨hleft, _, hmonitor⟩
  · have hsteps : v.cutRequested (v.blanked b) .menu = { s.monitor with
        source := .blank, audio := .muted, gain := 0, cut := some .menu
        lineClass := s.tables.cabinet.system.menuClass
        settle := some { count := 0, limit := s.tables.cabinet.system.settle } } := by
      rw [hblank]
      exact State.cutRequested_steps (s := v) (k := .menu) hclass.symm
    rw [hmonitor, hsteps]
    exact ⟨rfl, rfl, .inl ⟨hbegun, rfl, rfl, rfl⟩⟩
  · rw [hmonitor, hblank]
    exact ⟨rfl, rfl, .inr ⟨hleft, hcut, rfl, rfl⟩⟩

/-! ## The LOSS left by an event (R107, R171, log entry 39) -/

/-- A state in which a handover to MENU begins at once, and in which the LOSS of the active bay waits. -/
structure State.LostLate (x : State) (b : Bay) (c : LossCause) : Prop where
  reports : x.reports = []
  left : x.LossLeft b c
  audio : x.monitor.audio = .muted
  classes : x.monitor.lineClass ≠ x.tables.cabinet.system.menuClass
  settle : 0 < x.tables.cabinet.system.settle
  queue : (x.feeder b).queue = []
  gate : x.gate.bay ≠ some b

/-- The handover to MENU that an event has begun in such a state. -/
def State.TurnsLate (s t : State) (b : Bay) (k : Cause) : Prop :=
  t.Settled ∧ t.stage = .handover { HandoverRecord.begun (.bay b) .menu k with phase := .classChange }
    ∧ t.routing.pulses = [] ∧ t.power.bays = s.power.bays ∧ t.store = s.store

section
variable {s x t : State} {b : Bay} {c : LossCause}

theorem State.LostLate.congr (h : s.LostLate b c)
    (hx : x = { s with pins := x.pins, panel := x.panel, links := x.links }) : x.LostLate b c where
  reports := by rw [hx]; exact h.reports
  left := by rw [hx]; exact h.left
  audio := by rw [hx]; exact h.audio
  classes := by rw [hx]; exact h.classes
  settle := by rw [hx]; exact h.settle
  queue := by rw [hx]; exact h.queue
  gate := by rw [hx]; exact h.gate

theorem State.LostLate.turns (h : x.LostLate b c) {k : Cause}
    (ht : t = { (x.setLate none).turned b k with links := t.links }) : x.TurnsLate t b k := by
  have hstage := State.turned_stage (w := x.setLate none) (b := b) (c := k) h.classes
  have hrouting := State.turned_routing (w := x.setLate none) (b := b) (c := k) h.classes
  have hframe := (x.setLate none).turned_frame b k
  obtain ⟨y, hy⟩ : ∃ y, y = (x.setLate none).turned b k := ⟨_, rfl⟩
  rw [← hy] at ht hstage hrouting hframe
  refine ⟨⟨?_, ?_⟩, ?_, ?_, ?_, ?_⟩
  · rw [ht, hframe]
    exact h.reports
  · rw [ht, hframe]
    rfl
  · rw [ht]
    exact hstage
  · rw [ht]
    exact congrArg Routing.pulses hrouting
  · rw [ht, hframe]
    rfl
  · rw [ht, hframe]
    rfl

/-- The LOSS that waits is taken at the end of an event that has begun nothing. -/
theorem State.LostLate.drain_eq (h : x.LostLate b c) : x.drain = (x.setLate none).turned b (.loss c) := by
  have htake : x.takeLate = (x.setLate none).begin .menu (.loss c) := by
    have hlost : (x.setLate none).bayLost b c = (x.setLate none).begin .menu (.loss c) := by
      unfold State.bayLost
      rw [show (x.setLate none).stage = .play b from h.left.1]
      exact if_pos rfl
    unfold State.takeLate
    rw [h.left.2]
    exact hlost
  unfold State.drain
  rw [htake]
  exact State.begin_turned (w := x.setLate none) h.reports h.left.1 h.gate h.queue h.audio h.classes h.settle 62

/-- Behind the beginning of a handover the LOSS is that of its origin, and means nothing. -/
theorem State.LostLate.begin_drain (h : x.LostLate b c) (k : Cause) :
    (x.begin .menu k).drain = (x.setLate none).turned b k := by
  have hbegin {w : State} (hstage : w.stage = .play b) (hgate : w.gate.bay ≠ some b) (hqueue : (w.feeder b).queue = [])
      (haudio : w.monitor.audio = .muted) : w.begin .menu k = (w.turning b k).report .rampDone :=
    (State.begin_turning hstage hgate hqueue).trans (State.rampDownRequest_muted (w := w.turning b k) haudio)
  have htake : (x.begin .menu k).takeLate = (x.setLate none).begin .menu k := by
    let y := ((x.setLate none).turning b k).report .rampDone
    have hskip : y.bayLost b c = y := by
      unfold State.bayLost
      rw [show y.stage = .handover (.begun (.bay b) .menu k) from rfl]
      exact if_neg fun hboth => nomatch hboth.1
    have hlate : ((x.turning b k).report .rampDone).late = some (.loss b c) := h.left.2
    rw [hbegin h.left.1 h.gate h.queue h.audio, hbegin (w := x.setLate none) h.left.1 h.gate h.queue h.audio]
    unfold State.takeLate
    rw [hlate]
    exact hskip
  unfold State.drain
  rw [htake]
  exact State.begin_turned (w := x.setLate none) h.reports h.left.1 h.gate h.queue h.audio h.classes h.settle 62

/-! ## SELECT of a lost bay, and of MENU (R163) -/

/-- A request that its link takes, whatever reports wait: its act, the end of the event, then the reply. -/
theorem State.command_replies {l : Link} {r : Request} {a : Answer} {act : State → State} (hfree : (s.link l).busy = false)
    (hwf : r.wf = true) (hlevel : s.holdsLevel l r = true)
    (hperform : ∀ k : Links, (s.setLinks k).perform l r = (act (s.setLinks k), a)) :
    ∃ (k : Links) (t : State), s.command l r = t ∧ t = { (act (s.setLinks k)).drain with links := t.links }
      ∧ (t.link l).replying = some (a.reply r.typ) := by
  obtain ⟨k, hk⟩ := s.setPendingRequest_eq l r.typ
  have hreply : s.takeRequest l r = (act (s.setLinks k)).drain.reply l r.typ a (s.afterReply l r) := by
    unfold State.takeRequest
    rw [hk, hperform]
  refine ⟨k, s.takeRequest l r, s.command_taken l r hfree hwf hlevel, ?_, ?_⟩
  · rw [hreply]
    cases l <;> rfl
  · rw [hreply]
    exact (congrArg LinkState.replying (State.link_setLink_same _ l _)).trans (LinkState.replying_owes _ _ _ _)

theorem targetArg_bay {x : Byte} (h : x.toNat = b.val) : targetArg x = some (.bay b) := by
  have hmenu : x ≠ 0x08 := fun heq => by
    have hlt := b.isLt
    rw [← h, heq] at hlt
    exact absurd hlt (by decide)
  rw [targetArg, if_neg hmenu, bayArg_within h]
  rfl

/-! ## Switch events of a bay that is not RUNNING (R68, R106, R107) -/

theorem State.startPress_stopped (h : s.isRunning b = false) (w : Switch) : s.startPress b w = s := by
  unfold State.startPress
  dsimp only
  split
  · rfl
  · rfl
  · exact if_pos (by rw [h]; rfl)

theorem State.startRoutePulses_stopped (h : s.isRunning b = false) (w : Switch) : s.startRoutePulses b w = s :=
  if_neg (by rw [h]; exact Bool.false_ne_true)

/-- The menu switch moves the panel alone; a start switch and a route drive nothing. -/
theorem State.playEvent_stopped (hstage : s.stage = .play b) (h : s.isRunning b = false) (w : Switch) (e : Edge) :
    ∃ p, s.playEvent b w e = s.setPanel p := by
  have hsame : s = s.setPanel s.panel := rfl
  have hgate : s.gateTakes w = none ∨ s.gateTakes w = some b := by
    unfold State.gateTakes State.activeBay
    rw [hstage]
    dsimp only
    split
    · exact .inr rfl
    · exact .inl rfl
  unfold State.playEvent
  split
  · cases e <;> exact ⟨_, rfl⟩
  · rcases hgate with hnone | hmine
    · rw [hnone]
      cases e with
      | press => exact ⟨s.panel, State.startRoutePulses_stopped h w⟩
      | release => exact ⟨s.panel, rfl⟩
    · rw [hmine]
      cases e with
      | press => exact ⟨s.panel, State.startPress_stopped h w⟩
      | release => exact ⟨s.panel, rfl⟩

theorem State.takeSwitch_stopped (hstage : s.stage = .play b) (h : s.isRunning b = false) (hquiet : s.routing.quiet = none)
    (w : Switch) (e : Edge) : ∃ p, s.takeSwitch w e = s.setPanel p := by
  have hcheck (p : Panel) : (s.setPanel p).quietCheck e = s.setPanel p :=
    State.quietCheck_stands (s := s.setPanel p) (.inr (.inl hquiet))
  by_cases hmask : w ∈ s.panel.mask
  · exact ⟨_, (State.takeSwitch_masked hmask).trans (hcheck _)⟩
  · obtain ⟨p, hp⟩ := State.playEvent_stopped (s := s.notePress w e) hstage h w e
    refine ⟨p, (State.takeSwitch_unmasked hmask).trans ?_⟩
    rw [State.dealSwitch_play (s := s.notePress w e) hstage, hp]
    exact hcheck p

end

theorem leftLossTakenBehindNextEvent : Claims.LeftLossTakenBehindNextEvent := by
  intro s b c hreports hleft hdown haudio hclass hsettle hqueue hgate turned
  have hs : s.LostLate b c := ⟨hreports, hleft, haudio, hclass, hsettle, hqueue, hgate⟩
  have hbusy {x : State} (hx : x = { s with pins := x.pins, panel := x.panel, links := x.links }) {t : State} {k : Cause}
      (ht : t = { (x.setLate none).turned b k with links := t.links }) : turned t k := by
    obtain ⟨hsettled, hstage, hpulses, hbays, hstore⟩ := (hs.congr hx).turns ht
    have hpower : x.power = s.power := by rw [hx]
    have hxstore : x.store = s.store := by rw [hx]
    exact ⟨hsettled, hstage, hpulses, hbays.trans (congrArg Power.bays hpower), hstore.trans hxstore⟩
  have hloses {x : State} (hx : x = { s with pins := x.pins, panel := x.panel, links := x.links }) :
      x.drain = (x.setLate none).turned b (.loss c) := (hs.congr hx).drain_eq
  have hbegins {x : State} (hx : x = { s with pins := x.pins, panel := x.panel, links := x.links }) (k : Cause) :
      (x.begin .menu k).drain = (x.setLate none).turned b k := (hs.congr hx).begin_drain k
  refine ⟨hbusy (x := s) rfl (by rw [hloses (x := s) rfl]), fun l x hfree => ⟨fun hx => ?_, fun hx => ?_⟩, fun hhold => ?_,
    fun w e hsettled hw hpulses hquiet => ?_⟩
  · have harg := targetArg_bay hx
    have hrefused (a : Answer) (hask : ∀ k : Links, (s.setLinks k).askSelect l (.bay b) = (s.setLinks k, a)) :
        ∃ t, exec (.select l x) s = .next t ∧ turned t (.loss c)
          ∧ (t.link l).replying = some (a.reply (Request.select x).typ) := by
      obtain ⟨k, t, hcommand, hframe, hreplying⟩ := State.command_replies (r := .select x) (act := id) (a := a) hfree rfl rfl
        fun k => (State.askSelectByte_within harg).trans (hask k)
      refine ⟨t, congrArg Host.Outcome.next hcommand, hbusy (x := s.setLinks k) rfl ?_, hreplying⟩
      rw [← hloses (x := s.setLinks k) rfl]
      exact hframe
    by_cases hbarred : s.Barred b
    · obtain ⟨t, hexec, hturned, hreplying⟩ := hrefused (.nak .state) fun k =>
        State.askSelect_barred (s := s.setLinks k) (State.unselectable_iff.2 ⟨b, rfl, hbarred⟩)
      refine ⟨t, hexec, hturned, fun _ => hreplying, fun hcool => ?_⟩
      rcases hbarred with h | h | h <;> exact absurd (h.symm.trans hcool) nofun
    · have hfree' (k : Links) : (s.setLinks k).unselectable (.bay b) = false := Bool.eq_false_iff.2 fun h => by
        obtain ⟨d, hd, hdbarred⟩ := State.unselectable_iff.1 h
        exact hbarred (Target.bay.inj hd ▸ hdbarred)
      obtain ⟨t, hexec, hturned, hreplying⟩ := hrefused (.nak .already) fun k =>
        (State.askSelect_play (s := s.setLinks k) (hfree' k) hleft.1).trans (if_pos rfl)
      refine ⟨t, hexec, hturned, fun h => absurd ?_ hbarred, fun _ => hreplying⟩
      rcases h with h | h | h
      · exact .inr (.inr h)
      · exact .inr (.inl h)
      · exact .inl h
  · have hfree' (k : Links) : (s.setLinks k).unselectable .menu = false := rfl
    obtain ⟨k, t, hcommand, hframe, hreplying⟩ := State.command_replies (r := .select x) (a := .ack [])
      (act := (State.begin · .menu (.select l))) hfree rfl rfl fun k => by
        refine (State.askSelectByte_within (s := s.setLinks k) (t := .menu) (by rw [hx]; rfl)).trans ?_
        exact (State.askSelect_play (s := s.setLinks k) (hfree' k) hleft.1).trans (if_neg nofun)
    refine ⟨t, congrArg Host.Outcome.next hcommand, hbusy (x := s.setLinks k) rfl ?_, hreplying⟩
    rw [← hbegins (x := s.setLinks k) rfl]
    exact hframe
  · have hexec := exec_menuHoldExpiry_running hhold
    rw [State.menuRequest_play (s := s.stopMenuHold) hleft.1, hbegins (x := s.stopMenuHold) rfl] at hexec
    exact ⟨_, hexec, hbusy (x := s.stopMenuHold) rfl rfl⟩
  · have hexec := exec_switchEvent hsettled hw
    have hstopped : s.isRunning b = false := decide_eq_false fun hrun => by
      rw [hrun] at hdown
      exact Bool.noConfusion hdown
    obtain ⟨p, hp⟩ := State.takeSwitch_stopped (s := s.setContact w (edgePresses e)) hleft.1 hstopped hquiet w e
    let x := (s.setContact w (edgePresses e)).setPanel p
    rw [hp, hloses (x := x) rfl] at hexec
    exact ⟨_, hexec, hbusy (x := x) rfl rfl, rfl⟩

end Sys2Proof.Machine
end

section
/-! Losses of a handover's target in POWER and in CLASS (R125, R135, R150, R152, R159, R167, R172). -/

namespace Sys2Proof.Machine

theorem targetTripTurnsToMenu : Claims.TargetTripTurnsToMenu := by
  intro s b h hs hstage hphase htarget horigin hstate hidle hgate hsource hclass hsettle haudio
  have hpowered : (s.bay b).state.powered = true := by rcases hstate with h | h <;> rw [h] <;> rfl
  let v : State := { s with pins := { s.pins with overcurrent := s.pins.overcurrent.set b true } }
  obtain ⟨u, htrips, hcut⟩ := v.trip_told b
  have hwaits : s.cutWaits s.monitor .menu = true := State.cutWaits_iff.2 (.inl hclass.symm)
  have hblank : v.blanked b = s.monitor := State.blanked_hidden (s := v) (by
    rw [show v.monitor.source = .menu from hsource]
    exact nofun)
  obtain ⟨t, hdrain, hlost, hturns, htells, _⟩ := hcut.failsTarget (s := s) (why := .tripped) hs hpowered hidle hgate hstage
    htarget (.inl hphase) (fun _ => ⟨hsettle, fun hcuts => by
      rw [hblank] at hcuts
      exact absurd (hwaits.symm.trans hcuts) nofun⟩) rfl rfl rfl .tripped
  have hexec := exec_overcurrent_powered hpowered
  rw [htrips, hdrain] at hexec
  have hbegins := hturns.power hphase
  rw [hblank] at hbegins
  have hmonitor : t.monitor = s.cutRequested s.monitor .menu := hbegins.monitor
  rw [State.cutRequested_steps (s := s) (x := s.monitor) (k := .menu) hclass.symm] at hmonitor
  rw [horigin] at htells
  refine ⟨t, hexec, ?_, by rw [hlost.bays b, if_pos rfl]; rfl, fun d hd => (hlost.bays d).trans (if_neg hd), by rw [hmonitor],
    by rw [hmonitor], htells⟩
  rw [hbegins.stage, if_pos (show s.cutWaits s.monitor (h.failed b .tripped).target = true from hwaits)]
  rfl

/-! ## A target lost in CLASS (R150, R152, R159, log entry 39) -/

section
variable {s u : State} {b : Bay} {h : HandoverRecord}

theorem State.targetCools_class (hstage : s.stage = .handover h) (hphase : h.phase = .classChange) (htarget : h.target = .bay b) :
    s.targetCools b = s.withdrawCut.setRecord { h with phase := .power } := by
  unfold State.targetCools
  rw [hstage]
  refine (if_pos htarget).trans ?_
  rw [hphase]

/-- The report of a target's cut in CLASS, taken in the event that makes it or left for the next one. -/
theorem State.cutToCooling_drain (hlate : u.late = none) (hreports : u.reports = []) (hstage : u.stage = .handover h)
    (hphase : h.phase = .classChange) (htarget : h.target = .bay b) :
    (u.report (.cutToCooling b)).drain = (u.drawn.withdrawCut).setRecord { h with phase := .power }
      ∨ (u.report (.cutToCooling b)).drain = u.drawn.setLate (some (.cutToCooling b)) := by
  have hmay : u.mayWait (.cutToCooling b) = true := by
    show u.isCutTarget b = true
    unfold State.isCutTarget
    rw [hstage]
    show (decide (h.phase = .classChange) && decide (h.target = .bay b)) = true
    rw [hphase, htarget, decide_eq_true rfl, decide_eq_true rfl]
    rfl
  have hempty : (u.report (.cutToCooling b)).setReports [] = u := by
    rw [← hreports]
    rfl
  have htake : (u.report (.cutToCooling b)).drain = (u.takeOrLeave (.cutToCooling b)).drainWith 63 := by
    have hcons := State.drainWith_cons (s := u.report (.cutToCooling b)) (congrArg (· ++ [Report.cutToCooling b]) hreports) 63
    rw [hempty] at hcons
    exact (State.drain_of_late_none (s := u.report (.cutToCooling b)) hlate).trans hcons
  have heither : u.takeOrLeave (.cutToCooling b) = if Config.firstActsFirst u.choices then u.drawn.targetCools b
      else u.drawn.setLate (some (.cutToCooling b)) := if_pos hmay
  rw [htake, heither]
  by_cases hfirst : Config.firstActsFirst u.choices = true
  · rw [if_pos hfirst, State.targetCools_class (s := u.drawn) hstage hphase htarget]
    exact .inl (State.drainWith_nil (s := (u.drawn.withdrawCut).setRecord { h with phase := .power }) hreports 63)
  · rw [if_neg hfirst]
    exact .inr (State.drainWith_nil (s := u.drawn.setLate (some (.cutToCooling b))) hreports 63)

theorem State.drainWith_blanked (hreports : u.reports = [.cutDone .blank]) :
    u.drainWith Config.reportFuel = u.setReports [] := by
  refine (State.drainWith_cons hreports 63).trans ?_
  rw [State.takeOrLeave_now (s := u.setReports []) rfl]
  refine (congrArg (State.drainWith · 63) (State.cutDone_blank (s := u.setReports []))).trans ?_
  exact State.drainWith_nil (s := u.setReports []) rfl 63

/-- The crosspoint after a cut to BLANK at the end of the settle timer. -/
def Crosspoint.cutBlank (x : Crosspoint) : Crosspoint :=
  { x with settle := none, cut := none, source := .blank, audio := .muted, gain := 0 }

/-- The cut to BLANK that a stopped settle timer makes, behind a report that an earlier event has left. -/
theorem exec_settleExpiry_late {q : Report} (hlate : s.late = some q) (hcut : s.monitor.cut = some (.bay b))
    (hruns : s.monitor.settle.isSome = true) (hstopped : (s.bay b).state ≠ .running) (hfall : s.monitor.audio ≠ .falling) :
    exec .settleExpiry s = .next ((((s.setMonitor s.monitor.cutBlank).report (.cutDone .blank)).setLate none).takeReport
      q |>.drainWith Config.reportFuel) := by
  let v := s.setMonitor { s.monitor with settle := none }
  have hsource : v.cutSource (.bay b) = .blank :=
    (State.cutSource_bay (s := v) b).trans (if_neg hstopped)
  have htake (x : State) (hx : x.late = some q) : x.drain = ((x.setLate none).takeReport q).drainWith Config.reportFuel := by
    unfold State.drain State.takeLate
    rw [hx]
  rw [exec_settleExpiry_running hruns, State.settleStops_cut hcut, State.makeCut_blank (s := v) hsource hfall]
  exact congrArg Host.Outcome.next (htake _ hlate)

/-- The state that this cut leaves, its own report behind the one that is taken. -/
theorem State.cutBlank_late (s : State) (hreports : s.reports = []) :
    ∃ y, y = ((s.setMonitor s.monitor.cutBlank).report (.cutDone .blank)).setLate none ∧ y.reports = [.cutDone .blank]
      ∧ y.stage = s.stage
      ∧ y = { s with reports := [.cutDone .blank], late := none, monitor := s.monitor.cutBlank } := by
  have hone : (s.reports ++ [Report.cutDone .blank]) = [.cutDone .blank] := by rw [hreports]; rfl
  refine ⟨_, rfl, hone, rfl, ?_⟩
  exact congrArg (fun rs : List Report => { s with reports := rs, late := none, monitor := s.monitor.cutBlank }) hone

/-- A failed target in CLASS whose cut has been made to BLANK: the cut to MENU is requested. -/
theorem State.targetFailed_class {why : FailReason} (hstage : u.stage = .handover h) (hphase : h.phase = .classChange)
    (htarget : h.target = .bay b) (hmuted : u.monitor.audio = .muted) (hcut : u.monitor.cut = none)
    (hclass : u.monitor.lineClass ≠ u.tables.cabinet.system.menuClass) (hsettle : 0 < u.tables.cabinet.system.settle) :
    u.targetFailed b why = ((u.setRecord (h.failed b why)).notify (.handoverFailed b why h.origin)).setMonitor
      { u.monitor with
        source := .blank, audio := .muted, gain := 0, cut := some .menu
        lineClass := u.tables.cabinet.system.menuClass
        settle := some { count := 0, limit := u.tables.cabinet.system.settle } } := by
  let w := (u.setRecord (h.failed b why)).notify (.handoverFailed b why h.origin)
  have hturn : u.targetFailed b why = w.redirect (h.failed b why) := by
    unfold State.targetFailed
    rw [hstage]
    exact (if_pos htarget).trans (if_neg (by rw [hphase]; exact nofun))
  have hwithdrawn : w.withdrawCut = w := by
    have hmonitor : ({ w.monitor with cut := none } : Crosspoint) = w.monitor := by
      rw [← show w.monitor.cut = none from hcut]
    unfold State.withdrawCut
    rw [hmonitor]
    rfl
  have hwaits : w.cutWaits w.monitor (h.failed b why).target = true := State.cutWaits_iff.2 (.inl hclass.symm)
  have hrecord : ({ h.failed b why with phase := .classChange } : HandoverRecord) = h.failed b why := by
    rw [← hphase]
    rfl
  have hsteps := State.cutRequested_steps (s := w) (x := w.monitor) (k := .menu) hclass.symm
  rw [hturn, State.redirect_class (r := h.failed b why) hphase, hwithdrawn, State.afterRelease_menu rfl,
    State.startClass_quiet (s := w) (by rw [show w.monitor.audio = .muted from hmuted]; exact nofun) hsettle hwaits,
    State.classBegun_waits hwaits, hrecord]
  exact congrArg w.setMonitor hsteps

theorem exec_settleExpiry_cools (hreports : s.reports = []) (hstage : s.stage = .handover h) (hphase : h.phase = .classChange)
    (htarget : h.target = .bay b) (hstopped : (s.bay b).state ≠ .running) (hcut : s.monitor.cut = some (.bay b))
    (hruns : s.monitor.settle.isSome = true) (hfall : s.monitor.audio ≠ .falling) (hlate : s.late = some (.cutToCooling b)) :
    exec .settleExpiry s = .next
      { s with late := none, stage := .handover { h with phase := .power }, monitor := s.monitor.cutBlank } := by
  have hexec := exec_settleExpiry_late hlate hcut hruns hstopped hfall
  obtain ⟨y, hy, hyreports, hystage, hyframe⟩ := s.cutBlank_late hreports
  rw [← hy, show y.takeReport (.cutToCooling b) = y.withdrawCut.setRecord { h with phase := .power } from
    State.targetCools_class (hystage.trans hstage) hphase htarget] at hexec
  obtain ⟨z, hz⟩ : ∃ z, z = y.withdrawCut.setRecord { h with phase := .power } := ⟨_, rfl⟩
  rw [← hz, State.drainWith_blanked (u := z) (by rw [hz]; exact hyreports)] at hexec
  have hframe := congrArg (fun x : State => (x.withdrawCut.setRecord { h with phase := .power }).setReports []) hyframe
  refine hexec.trans (congrArg Host.Outcome.next ?_)
  rw [hz]
  refine hframe.trans ?_
  show _ = { s with late := none, stage := .handover { h with phase := .power }, monitor := s.monitor.cutBlank }
  exact congrArg (fun rs : List Report => { s with
    reports := rs, late := none, stage := .handover { h with phase := .power }, monitor := s.monitor.cutBlank }) hreports.symm

theorem exec_settleExpiry_fails {why : FailReason} (hreports : s.reports = []) (hstage : s.stage = .handover h)
    (hphase : h.phase = .classChange) (htarget : h.target = .bay b) (hstopped : (s.bay b).state ≠ .running)
    (hcut : s.monitor.cut = some (.bay b)) (hruns : s.monitor.settle.isSome = true) (hfall : s.monitor.audio ≠ .falling)
    (hlate : s.late = some (.failed b why)) (hclass : s.monitor.lineClass ≠ s.tables.cabinet.system.menuClass)
    (hsettle : 0 < s.tables.cabinet.system.settle) :
    ∃ t, exec .settleExpiry s = .next t ∧ t.late = none ∧ t.stage = .handover (h.failed b why)
      ∧ t.monitor = { s.monitor.cutBlank with
          cut := some .menu, lineClass := s.tables.cabinet.system.menuClass
          settle := some { count := 0, limit := s.tables.cabinet.system.settle } }
      ∧ s.Tells t [.handoverFailed b why h.origin]
      ∧ t = { s with late := none, stage := t.stage, monitor := t.monitor, links := t.links } := by
  have hexec := exec_settleExpiry_late hlate hcut hruns hstopped hfall
  obtain ⟨y, hy, hyreports, hystage, hyframe⟩ := s.cutBlank_late hreports
  have hymonitor : y.monitor = s.monitor.cutBlank := by rw [hyframe]
  have hytables : y.tables = s.tables := by rw [hyframe]
  have hylinks : y.links = s.links := by rw [hyframe]
  have hfails := State.targetFailed_class (u := y) (why := why) (hystage.trans hstage) hphase htarget (by rw [hymonitor]; rfl)
    (by rw [hymonitor]; rfl) (by rw [hymonitor, hytables]; exact hclass) (by rw [hytables]; exact hsettle)
  rw [hymonitor, hytables] at hfails
  obtain ⟨x, hx⟩ : ∃ x, x = (y.setRecord (h.failed b why)).notify (.handoverFailed b why h.origin) := ⟨_, rfl⟩
  obtain ⟨m, hm⟩ : ∃ m : Crosspoint, m = { s.monitor.cutBlank with
    source := .blank, audio := .muted, gain := 0, cut := some .menu
    lineClass := s.tables.cabinet.system.menuClass
    settle := some { count := 0, limit := s.tables.cabinet.system.settle } } := ⟨_, rfl⟩
  rw [← hx, ← hm] at hfails
  have hxtells : s.Tells x [.handoverFailed b why h.origin] := fun l => by
    rw [hx]
    exact (State.link_notify (y.setRecord (h.failed b why)) _ l).trans (congrArg (LinkState.told · _) (State.link_congr hylinks l))
  have hxframe : x = { y with stage := .handover (h.failed b why), links := x.links } := by rw [hx]; rfl
  have hall := hxframe.trans (congrArg (fun w : State => { w with
    stage := .handover (h.failed b why), links := x.links }) hyframe)
  have hxreports : x.reports = [.cutDone .blank] := by rw [hall]
  rw [← hy, show y.takeReport (.failed b why) = x.setMonitor m from hfails,
    State.drainWith_blanked (u := x.setMonitor m) hxreports] at hexec
  refine ⟨(x.setMonitor m).setReports [], hexec, ?_, ?_, hm, hxtells, ?_⟩
  · show x.late = none
    rw [hall]
  · show x.stage = _
    rw [hall]
  · have hstage' : x.stage = .handover (h.failed b why) := by rw [hall]
    rw [← hstage'] at hall
    exact (congrArg (fun w : State => (w.setMonitor m).setReports []) hall).trans (congrArg (fun rs : List Report => { s with
      reports := rs, late := none, stage := x.stage, monitor := m, links := x.links }) hreports.symm)

end

theorem targetLossInClass : Claims.TargetLossInClass := by
  constructor
  · intro s h b hs hstage hphase htarget horigin hrun hlock hmore hpending hfree
    obtain ⟨hidle, hgate, hsource⟩ := hfree
    obtain ⟨hpowered, cs, hexec⟩ := State.CrashesBy.crashes (.inr (.inl ⟨rfl, hlock, hrun⟩))
    let v : State := { s with checkers := cs }
    obtain ⟨u, hcrashed, htold⟩ := State.crash_again (v := v) hpending hmore
    have hmine : decide (h.target = .bay b) = true := decide_eq_true htarget
    have hnamed : v.crashDeferred b = .handover := if_pos ((State.isTarget_handover (s := v) hstage b).trans hmine)
    rw [hnamed] at htold
    obtain ⟨htells, hlate, hustage, hureports, hframe⟩ := htold.inHandover hs hpowered hidle hgate hstage
    have hquiet : u.reports = [] := hureports.trans (if_neg fun hfades => hsource hfades.1)
    have hmonitor : u.monitor = s.monitor := by
      have hblank : v.blanked b = s.monitor := State.blanked_hidden (s := v) hsource
      rw [← hblank]
      exact congrArg State.monitor hframe
    have hnone : u.lossReports b .lost = [] := if_neg (by
      rw [State.isActive_of_handover hustage b, State.isOrigin_of_handover hustage b, decide_eq_false horigin]
      exact Bool.false_ne_true)
    have htold' : u.targetReports b none = [.cutToCooling b] := if_pos ((State.isTarget_handover hustage b).trans hmine)
    have hdown : u.reportDown b .lost none = u.report (.cutToCooling b) := by
      rw [State.reportDown_eq, hnone, htold']
      rfl
    rw [hcrashed, hdown] at hexec
    rcases State.cutToCooling_drain hlate hquiet hustage hphase htarget with hdrain | hdrain
    · rw [hdrain] at hexec
      refine ⟨_, hexec, htold.bays, htells, .inl ⟨rfl, hlate, ?_⟩⟩
      show ({ u.monitor with cut := none } : Crosspoint) = _
      rw [hmonitor]
    · rw [hdrain] at hexec
      exact ⟨_, hexec, htold.bays, htells, .inr ⟨hustage.trans hstage.symm, rfl, hmonitor⟩⟩
  · intro s h b hreports hstage hphase htarget hstopped hcut hruns hfall blanked
    exact ⟨exec_settleExpiry_cools hreports hstage hphase htarget hstopped hcut hruns hfall,
      fun why hlate hclass hsettle _ =>
        exec_settleExpiry_fails hreports hstage hphase htarget hstopped hcut hruns hfall hlate hclass hsettle⟩

/-- Settles O53: the loss of the active bay as its cut told of, a loss that waits by the next event, and a failed target by
the phase. -/
theorem lossesTurnToMenu : Obligations.LossesTurnToMenu :=
  ⟨lossOfActiveBayTurnsToMenu, leftLossTakenBehindNextEvent, targetTripTurnsToMenu, targetLossInClass⟩

end Sys2Proof.Machine
end

section
/-! RELEASE of a bay with units and a charge (R11, R43, R44, R74, R75). -/

namespace Sys2Proof.Machine

/-! ## Returns one after another (R11) -/

theorem TokenStore.giveBack_giveBack {x : TokenStore} {a : Bay} {ms ns ks : List UnitNo} (h : ∀ n, n ∈ ks ↔ n ∈ ms ∨ n ∈ ns) :
    (x.giveBack a ms).giveBack a ns = x.giveBack a ks := by
  have htoken (k : Token) : (if (if k.inUnits a ms then { k with place := .pool } else k).inUnits a ns then
      { (if k.inUnits a ms then { k with place := .pool } else k) with place := .pool }
      else if k.inUnits a ms then { k with place := .pool } else k)
      = if k.inUnits a ks then { k with place := .pool } else k := by
    have hiff : k.inUnits a ks = true ↔ k.inUnits a ms = true ∨ k.inUnits a ns = true := by
      simp only [Token.inUnits_iff, h, or_and_right, exists_or]
    by_cases hms : k.inUnits a ms = true
    · rw [if_pos hms, if_pos (hiff.2 (.inl hms))]
      exact if_neg Bool.false_ne_true
    · rw [if_neg hms]
      by_cases hns : k.inUnits a ns = true
      · rw [if_pos hns, if_pos (hiff.2 (.inr hns))]
      · rw [if_neg hns, if_neg fun hks => (hiff.1 hks).elim hms hns]
  have harrival : ((x.giveBack a ms).giveBack a ns).arrival = (x.giveBack a ks).arrival :=
    List.map_map.trans (List.map_congr_left fun k _ => htoken k)
  exact congrArg (fun ts : List Token => { x with arrival := ts }) harrival

theorem TokenStore.countUnits_nil (x : TokenStore) (a : Bay) : x.countUnits a [] = 0 :=
  List.length_eq_zero_iff.2 (List.filter_eq_nil_iff.2 fun _ _ hin => by
    obtain ⟨k, hk, _⟩ := Token.inUnits_iff.1 hin
    exact absurd hk List.not_mem_nil)

/-- The numbers of the queued units that a return takes. -/
def State.goneNumbers (s : State) (a : Bay) (goes : CoinUnit → Bool) : List UnitNo :=
  ((s.feeder a).queue.filter goes).map CoinUnit.number

/-- Queued units of a bay have been returned to the pool, with at most `n` reports that its feeder is IDLE; the gate may have
moved. -/
structure State.Returns (s t : State) (a : Bay) (goes : CoinUnit → Bool) (n : Nat) : Prop where
  feeder : t.feeder a = { s.feeder a with queue := (s.feeder a).queue.filter fun k => !goes k }
  others : ∀ d : Bay, d ≠ a → t.feeder d = s.feeder d
  store : t.store = s.store.giveBack a (s.goneNumbers a goes)
  reports : ∃ rs : List Report, t.reports = s.reports ++ rs ∧ rs.length ≤ n ∧ ∀ x ∈ rs, x = .feederIdle a
  frame : t = { s with
    feeders := t.feeders, store := t.store, intake := t.intake, gate := t.gate, links := t.links, reports := t.reports
    choices := t.choices }

section
variable {s t u v : State} {a : Bay} {goes gone : CoinUnit → Bool} {m n : Nat}

theorem State.Returns.of_frame (h : t = { s with gate := t.gate, links := t.links, choices := t.choices }) :
    s.Returns t a (fun _ => false) 0 where
  feeder := by
    rw [State.feeder_congr (show t.feeders = s.feeders by rw [h])]
    exact congrArg (fun q : List CoinUnit => { s.feeder a with queue := q }) (List.filter_true _).symm
  others d _ := State.feeder_congr (by rw [h]) d
  store := by
    rw [State.goneNumbers, List.filter_false, show t.store = s.store by rw [h]]
    exact (TokenStore.giveBack_none (s.store.countUnits_nil a)).symm
  reports := ⟨[], by rw [List.append_nil, h], Nat.le_refl 0, fun _ hx => absurd hx List.not_mem_nil⟩
  frame := by rw [h]

theorem State.Returns.trans (h : s.Returns t a goes m) (h' : t.Returns u a gone n) :
    s.Returns u a (fun k => goes k || gone k) (m + n) where
  feeder := by
    rw [h'.feeder, h.feeder]
    have hqueue : (((s.feeder a).queue.filter fun k => !goes k).filter fun k => !gone k)
        = (s.feeder a).queue.filter fun k => !(goes k || gone k) := by
      rw [List.filter_filter]
      exact List.filter_congr fun k _ => by cases goes k <;> cases gone k <;> rfl
    exact congrArg (fun q : List CoinUnit => { s.feeder a with queue := q }) hqueue
  others d hd := (h'.others d hd).trans (h.others d hd)
  store := by
    rw [h'.store, h.store]
    refine TokenStore.giveBack_giveBack fun x => ?_
    have hqueue : (t.feeder a).queue = (s.feeder a).queue.filter fun k => !goes k := congrArg Feeder.queue h.feeder
    unfold State.goneNumbers
    rw [hqueue]
    simp only [List.mem_map, List.mem_filter, ← exists_or, Bool.or_eq_true, Bool.not_eq_true']
    refine exists_congr fun k => ?_
    cases goes k <;> simp
  reports := by
    obtain ⟨rs, hrs, hlen, hall⟩ := h.reports
    obtain ⟨qs, hqs, hlen', hall'⟩ := h'.reports
    refine ⟨rs ++ qs, by rw [hqs, hrs, List.append_assoc], ?_, fun x hx => ?_⟩
    · rw [List.length_append]
      exact Nat.add_le_add hlen hlen'
    · exact (List.mem_append.1 hx).elim (hall x) (hall' x)
  frame := h'.frame.trans (congrArg (fun x : State => { x with
    feeders := u.feeders, store := u.store, intake := u.intake, gate := u.gate, links := u.links, reports := u.reports
    choices := u.choices }) h.frame)

theorem State.Returns.congr (h : s.Returns t a goes n) (heq : ∀ k, goes k = gone k) (hle : n ≤ m) : s.Returns t a gone m := by
  obtain ⟨rs, hrs, hlen, hall⟩ := h.reports
  rw [funext heq] at h
  exact ⟨h.feeder, h.others, h.store, ⟨rs, hrs, hlen.trans hle, hall⟩, h.frame⟩

theorem State.returnQueued_returns (s : State) (a : Bay) (goes : CoinUnit → Bool) :
    s.Returns (s.returnQueued a goes) a goes 1 ∧ (s.returnQueued a goes).gate = s.gate
      ∧ s.Tells (s.returnQueued a goes) (s.givenBackNotices (s.returnQueued a goes) a (s.goneNumbers a goes)) := by
  let f : Feeder := { s.feeder a with queue := (s.feeder a).queue.filter fun k => !goes k }
  obtain ⟨x, hx⟩ : ∃ x, x = s.putFeeder a f := ⟨_, rfl⟩
  have hput : ∃ rs : List Report, x = (s.setFeeder a f).setReports (s.reports ++ rs) ∧ rs.length ≤ 1
      ∧ ∀ y ∈ rs, y = .feederIdle a := by
    rw [hx]
    unfold State.putFeeder
    split
    · exact ⟨[.feederIdle a], rfl, Nat.le_refl 1, fun y hy => List.mem_singleton.1 hy⟩
    · exact ⟨[], (congrArg (s.setFeeder a f).setReports (List.append_nil s.reports).symm : _), Nat.zero_le 1,
        fun y hy => absurd hy List.not_mem_nil⟩
  obtain ⟨rs, hframe, hlen, hall⟩ := hput
  have hback := x.givesBack a (s.goneNumbers a goes)
  obtain ⟨w, hw⟩ : ∃ w, w = x.returnUnits a (s.goneNumbers a goes) := ⟨_, rfl⟩
  have hreturn : s.returnQueued a goes = w := by
    rw [hw, hx]
    rfl
  rw [← hw] at hback
  have hwframe := hback.frame.trans (congrArg (fun y : State => { y with
    store := w.store, intake := w.intake, links := w.links }) hframe)
  have hstore : x.store = s.store := by rw [hframe]; rfl
  have hintake : x.intake = s.intake := by rw [hframe]; rfl
  have hlinks : x.links = s.links := by rw [hframe]; rfl
  have hfeeders : w.feeders = (s.setFeeder a f).feeders := by rw [hwframe]; rfl
  have hreports : w.reports = s.reports ++ rs := by rw [hwframe]; rfl
  rw [hreturn]
  refine ⟨⟨?_, fun d hd => ?_, by rw [hback.store, hstore], ⟨rs, hreports, hlen, hall⟩, ?_⟩, by rw [hwframe]; rfl, fun l => ?_⟩
  · rw [State.feeder_congr hfeeders]
    exact State.feeder_setFeeder_same _ _ _
  · rw [State.feeder_congr hfeeders]
    exact State.feeder_setFeeder_other _ _ hd
  · rw [← hreports] at hwframe
    rw [hfeeders, show w.gate = s.gate by rw [hwframe]; rfl, show w.choices = s.choices by rw [hwframe]; rfl]
    exact hwframe
  · have hnotices : x.givenBackNotices w a (s.goneNumbers a goes) = s.givenBackNotices w a (s.goneNumbers a goes) := by
      unfold State.givenBackNotices State.storeNotices State.closureNotices
      rw [hstore, hintake]
    have htells := hback.tells l
    rw [hnotices, State.link_congr hlinks] at htells
    exact htells

/-! ## A charge that ends without a carry (R74, R75) -/

theorem State.abandon_returns (h : s.carryKept a = false) (cause : AbandonCause) :
    s.Returns (s.abandon a cause) a s.gate.charged 1 ∧ (s.abandon a cause).gate = Gate.fresh
      ∧ s.Tells (s.abandon a cause) (s.givenBackNotices (s.abandon a cause) a (s.goneNumbers a s.gate.charged)
        ++ [.gateAbandoned a s.gate.switch cause s.gate.owed s.gate.confirmed 0]) := by
  obtain ⟨hreturns, _, htells⟩ := s.returnQueued_returns a s.gate.charged
  obtain ⟨x, hx⟩ : ∃ x, x = s.returnQueued a s.gate.charged := ⟨_, rfl⟩
  rw [← hx] at hreturns htells
  have hcarry : s.carryAfter a = 0 := if_neg (by rw [h]; exact Bool.false_ne_true)
  let y := (x.setGate Gate.fresh).notify (.gateAbandoned a s.gate.switch cause s.gate.owed s.gate.confirmed 0)
  have hy : s.abandon a cause = y := by
    have habandon : s.abandon a cause = ((s.returnQueued a s.gate.charged).setGate (Gate.idleWith a (s.carryAfter a))).notify
        (.gateAbandoned a s.gate.switch cause s.gate.owed s.gate.confirmed (s.carryAfter a)) := rfl
    rw [habandon, hcarry, ← hx]
    rfl
  have hframe : x.Returns y a (fun _ => false) 0 := State.Returns.of_frame rfl
  have hnotices : s.givenBackNotices y a (s.goneNumbers a s.gate.charged)
      = s.givenBackNotices x a (s.goneNumbers a s.gate.charged) := by
    unfold State.givenBackNotices
    rw [State.storeNotices_congr (t := y) (u := x) ⟨rfl, rfl, rfl, rfl⟩]
  rw [hy]
  refine ⟨(hreturns.trans hframe).congr (fun k => Bool.or_false _) (Nat.le_refl 1), rfl, ?_⟩
  rw [hnotices]
  exact htells.trans fun l => State.link_notify (x.setGate Gate.fresh) _ l

/-- The gate has not moved, or has been reset. -/
def State.GateRests (s t : State) : Prop :=
  t = { s with gate := t.gate, links := t.links } ∧ (t.gate = s.gate ∨ t.gate = Gate.fresh)

theorem State.abandon_rests (h : s.carryKept a = false) (hqueue : (s.feeder a).queue = []) (cause : AbandonCause) :
    s.GateRests (s.abandon a cause) := by
  have hcarry : s.carryAfter a = 0 := if_neg (by rw [h]; exact Bool.false_ne_true)
  have habandon : s.abandon a cause = ((s.returnQueued a s.gate.charged).setGate (Gate.idleWith a (s.carryAfter a))).notify
      (.gateAbandoned a s.gate.switch cause s.gate.owed s.gate.confirmed (s.carryAfter a)) := rfl
  rw [State.returnQueued_empty hqueue, hcarry] at habandon
  rw [habandon]
  exact ⟨rfl, .inr rfl⟩

theorem State.handOutcome_rests (h : s.carryKept a = false) (hqueue : (s.feeder a).queue = []) (k : CoinUnit) :
    s.GateRests (s.handOutcome a k .returned) := by
  have hsame : s.GateRests s := ⟨rfl, .inl rfl⟩
  unfold State.handOutcome State.gateOutcome
  split
  · split
    · exact State.abandon_rests h hqueue .returned
    · exact hsame
  · exact hsame

theorem State.handReturned_rests (ks : List CoinUnit) : ∀ {s : State}, s.carryKept a = false → (s.feeder a).queue = [] →
    s.GateRests (s.handReturned a ks) := by
  induction ks with
  | nil => exact fun _ _ => ⟨rfl, .inl rfl⟩
  | cons k ks ih =>
    intro s h hqueue
    obtain ⟨hframe, hgate⟩ := State.handOutcome_rests h hqueue k
    obtain ⟨x, hx⟩ : ∃ x, x = s.handOutcome a k .returned := ⟨_, rfl⟩
    rw [← hx] at hframe hgate
    have hstep : s.handReturned a (k :: ks) = x.handReturned a ks := by rw [hx]; rfl
    obtain ⟨hframe', hgate'⟩ := ih (s := x) (by rw [hframe]; exact h) (by rw [hframe]; exact hqueue)
    rw [hstep]
    refine ⟨hframe'.trans (congrArg (fun y : State => { y with
      gate := (x.handReturned a ks).gate, links := (x.handReturned a ks).links }) hframe), ?_⟩
    rcases hgate' with hsame | hfresh
    · rcases hgate with hs | hf
      · exact .inl (hsame.trans hs)
      · exact .inr (hsame.trans hf)
    · exact .inr hfresh

/-! ## RELEASE (R43, R44) -/

/-- A charge of a bay is open. -/
def State.pays (s : State) (a : Bay) : Bool := decide (s.gate.state = .paying) && decide (s.gate.bay = some a)

theorem State.handReturned_idle (h : s.pays a = false) (ks : List CoinUnit) : s.handReturned a ks = s := by
  have howns (n : UnitNo) : s.gate.owns a n = false := by
    show (s.pays a && _) = false
    rw [h]
    rfl
  induction ks with
  | nil => rfl
  | cons k ks ih =>
    unfold State.handReturned at ih ⊢
    rw [List.foldl_cons, State.handOutcome_ignored (.inr (howns k.number))]
    exact ih

theorem State.gateLeaves_idle (h : s.pays a = false) (cause : AbandonCause) :
    s.gateLeaves a cause = s.setGate (if s.gate.bay = some a then Gate.fresh else s.gate) := by
  unfold State.gateLeaves
  by_cases hbay : s.gate.bay = some a
  · rw [if_pos hbay, if_pos hbay]
    cases hstate : s.gate.state with
    | paying =>
      have hpays : s.pays a = true := by
        unfold State.pays
        rw [hstate, hbay, decide_eq_true rfl, decide_eq_true rfl]
        rfl
      exact absurd (h.symm.trans hpays) Bool.false_ne_true
    | firing => rfl
    | idle => rfl
  · rw [if_neg hbay, if_neg hbay]
    rfl

theorem State.gateLeaves_pays (h : s.pays a = true) (cause : AbandonCause) : s.gateLeaves a cause = s.abandon a cause := by
  obtain ⟨hstate, hbay⟩ := Bool.and_eq_true_iff.1 h
  unfold State.gateLeaves
  rw [if_pos (of_decide_eq_true hbay), of_decide_eq_true hstate]

theorem State.leavePolicy_keep (h : (s.profile a).coin.leavePolicy = .keep) : s.leavePolicy a = s := by
  unfold State.leavePolicy
  rw [h]

theorem State.leavePolicy_giveBack (h : (s.profile a).coin.leavePolicy = .giveBack) :
    s.leavePolicy a = (s.returnQueued a fun _ => true).handReturned a (s.feeder a).queue := by
  unfold State.leavePolicy
  rw [h]

theorem State.Returns.profile (h : s.Returns t a goes n) : t.profile a = s.profile a := by rw [h.frame]; rfl

theorem State.Returns.carryKept (h : s.Returns t a goes n) (hs : s.carryKept a = false) : t.carryKept a = false := by
  rw [h.frame]
  exact hs

/-- The leave policy RETURN, whatever the gate does with the outcomes. -/
theorem State.leavePolicy_returns (h : s.carryKept a = false) (hpolicy : (s.profile a).coin.leavePolicy = .giveBack) :
    ∃ w, s.leavePolicy a = w ∧ s.Returns w a (fun _ => true) 1 ∧ (w.gate = s.gate ∨ w.gate = Gate.fresh)
      ∧ (s.pays a = false → w.gate = s.gate
        ∧ s.Tells w (s.givenBackNotices w a (s.goneNumbers a fun _ => true))) := by
  obtain ⟨hreturns, hgate, htells⟩ := s.returnQueued_returns a fun _ => true
  obtain ⟨x, hx⟩ : ∃ x, x = s.returnQueued a fun _ => true := ⟨_, rfl⟩
  have hleave := State.leavePolicy_giveBack hpolicy
  rw [← hx] at hreturns hgate htells hleave
  have hqueue : (x.feeder a).queue = [] := by
    rw [hreturns.feeder]
    exact List.filter_false _
  obtain ⟨hframe, hrests⟩ := State.handReturned_rests (s.feeder a).queue (hreturns.carryKept h) hqueue
  rw [← hleave] at hframe hrests
  have hsame : x.Returns (s.leavePolicy a) a (fun _ => false) 0 := State.Returns.of_frame (by
    have hchoices : (s.leavePolicy a).choices = x.choices := by rw [hframe]
    rw [hchoices]
    exact hframe)
  refine ⟨s.leavePolicy a, rfl, (hreturns.trans hsame).congr (fun _ => rfl) (Nat.le_refl 1), ?_, fun hidle => ?_⟩
  · exact hrests.imp_left fun hkept => hkept.trans hgate
  · have hpays : x.pays a = false := by
      unfold State.pays at hidle ⊢
      rw [hgate]
      exact hidle
    rw [hleave, State.handReturned_idle hpays]
    exact ⟨hgate, htells⟩

/-- The queued units that RELEASE returns: all, or those of an open charge (R43, R74). -/
def State.leaves (s : State) (a : Bay) (k : CoinUnit) : Bool :=
  decide ((s.profile a).coin.leavePolicy = .giveBack) || (s.pays a && s.gate.charged k)

theorem State.pays_bay (h : s.pays a = true) : s.gate.bay = some a := by
  obtain ⟨_, hbay⟩ := Bool.and_eq_true_iff.1 h
  exact of_decide_eq_true hbay

theorem State.pays_fresh (h : s.gate = Gate.fresh) : s.pays a = false := by
  unfold State.pays
  rw [h]
  rfl

/-- A charge abandoned and the leave policy RETURN, in either order. -/
theorem State.bothReturn_returns (h : s.carryKept a = false) (hpolicy : (s.profile a).coin.leavePolicy = .giveBack)
    (hpays : s.pays a = true) : s.Returns (s.releaseCredit a) a (fun _ => true) 2 ∧ (s.releaseCredit a).gate = Gate.fresh := by
  let x := s.drawn
  have hdrawn : s.Returns x a (fun _ => false) 0 := State.Returns.of_frame rfl
  have hboth : s.bothReturn a = true := by
    show (s.pays a && _) = true
    rw [hpays, hpolicy]
    rfl
  have horders : s.releaseCredit a = if Config.firstActsFirst s.choices then (x.gateLeaves a .release).leavePolicy a
      else (x.leavePolicy a).gateLeaves a .release := if_pos hboth
  rw [horders]
  by_cases hfirst : Config.firstActsFirst s.choices = true
  · rw [if_pos hfirst]
    obtain ⟨hreturns, hgate, _⟩ := State.abandon_returns (s := x) (a := a) h .release
    have hleave := State.gateLeaves_pays (s := x) (a := a) hpays .release
    rw [← hleave] at hreturns hgate
    obtain ⟨y, hy⟩ : ∃ y, y = x.gateLeaves a .release := ⟨_, rfl⟩
    rw [← hy] at hreturns hgate ⊢
    obtain ⟨w, hw, hall, _, hidle⟩ := State.leavePolicy_returns (s := y) (hreturns.carryKept h)
      (by rw [hreturns.profile]; exact hpolicy)
    rw [hw]
    exact ⟨((hdrawn.trans hreturns).trans hall).congr (fun _ => Bool.or_true _) (Nat.le_refl 2),
      (hidle (State.pays_fresh hgate)).1.trans hgate⟩
  · rw [if_neg hfirst]
    obtain ⟨y, hy, hall, hgate, _⟩ := State.leavePolicy_returns (s := x) (a := a) h hpolicy
    rw [hy]
    cases hstill : y.pays a with
    | true =>
      obtain ⟨hreturns, hfresh, _⟩ := State.abandon_returns (hall.carryKept h) .release
      rw [State.gateLeaves_pays hstill]
      exact ⟨((hdrawn.trans hall).trans hreturns).congr (fun _ => rfl) (Nat.le_refl 2), hfresh⟩
    | false =>
      have hfresh : y.gate = Gate.fresh := hgate.resolve_left fun hsame => by
        unfold State.pays at hstill hpays
        rw [hsame] at hstill
        exact absurd (hstill.symm.trans hpays) Bool.false_ne_true
      rw [State.gateLeaves_idle hstill, hfresh]
      have hreset : y.Returns (y.setGate Gate.fresh) a (fun _ => false) 0 := State.Returns.of_frame rfl
      exact ⟨((hdrawn.trans hall).trans hreset).congr (fun _ => rfl) (Nat.le_succ 1), rfl⟩

theorem State.releaseCredit_one (h : ¬(s.pays a = true ∧ (s.profile a).coin.leavePolicy = .giveBack)) :
    s.releaseCredit a = (s.gateLeaves a .release).leavePolicy a := if_neg fun hboth => by
  obtain ⟨hpays, hpolicy⟩ := Bool.and_eq_true_iff.1 hboth
  exact h ⟨hpays, of_decide_eq_true hpolicy⟩

theorem State.releaseCredit_returns (h : s.carryKept a = false) : ∃ w, s.releaseCredit a = w ∧ s.Returns w a (s.leaves a) 2
    ∧ w.gate = (if s.gate.bay = some a then Gate.fresh else s.gate)
    ∧ (¬(s.pays a = true ∧ (s.profile a).coin.leavePolicy = .giveBack) →
      s.Tells w (s.givenBackNotices w a (s.goneNumbers a (s.leaves a))
        ++ if s.pays a = true then [.gateAbandoned a s.gate.switch .release s.gate.owed s.gate.confirmed 0] else [])) := by
  by_cases hboth : s.pays a = true ∧ (s.profile a).coin.leavePolicy = .giveBack
  · obtain ⟨hpays, hpolicy⟩ := hboth
    obtain ⟨hreturns, hgate⟩ := State.bothReturn_returns h hpolicy hpays
    refine ⟨_, rfl, hreturns.congr (fun k => ?_) (Nat.le_refl 2), ?_, fun hnot => absurd ⟨hpays, hpolicy⟩ hnot⟩
    · unfold State.leaves
      rw [hpolicy]
      rfl
    · rw [hgate, if_pos (State.pays_bay hpays)]
  · have hone := State.releaseCredit_one hboth
    cases hpays : s.pays a with
    | true =>
      have hkeep : (s.profile a).coin.leavePolicy = .keep := by
        cases hpolicy : (s.profile a).coin.leavePolicy with
        | keep => rfl
        | giveBack => exact absurd ⟨hpays, hpolicy⟩ hboth
      obtain ⟨hreturns, hgate, htells⟩ := State.abandon_returns h .release
      have hgoes (k : CoinUnit) : s.gate.charged k = s.leaves a k := by
        unfold State.leaves
        rw [hkeep, hpays]
        rfl
      have hleave : (s.gateLeaves a .release).leavePolicy a = s.abandon a .release := by
        rw [State.gateLeaves_pays hpays]
        exact State.leavePolicy_keep (by rw [hreturns.profile]; exact hkeep)
      rw [hone, hleave]
      refine ⟨_, rfl, hreturns.congr hgoes (Nat.le_succ 1), by rw [hgate, if_pos (State.pays_bay hpays)], fun _ => ?_⟩
      rw [if_pos rfl, ← funext hgoes]
      exact htells
    | false =>
      let y := s.setGate (if s.gate.bay = some a then Gate.fresh else s.gate)
      have hypays : y.pays a = false := by
        show (decide ((if s.gate.bay = some a then Gate.fresh else s.gate).state = .paying)
          && decide ((if s.gate.bay = some a then Gate.fresh else s.gate).bay = some a)) = false
        by_cases hbay : s.gate.bay = some a
        · rw [if_pos hbay]; rfl
        · rw [if_neg hbay]
          exact hpays
      have hreset : s.Returns y a (fun _ => false) 0 := State.Returns.of_frame rfl
      rw [hone, State.gateLeaves_idle hpays, if_neg Bool.false_ne_true]
      cases hpolicy : (s.profile a).coin.leavePolicy with
      | keep =>
        have hgoes (k : CoinUnit) : false = s.leaves a k := by
          unfold State.leaves
          rw [hpolicy, hpays]
          rfl
        rw [State.leavePolicy_keep (s := y) hpolicy]
        refine ⟨_, rfl, hreset.congr hgoes (Nat.zero_le 2), rfl, fun _ => ?_⟩
        have hnone : s.store.countUnits a (s.goneNumbers a (s.leaves a)) = 0 := by
          rw [← funext hgoes, State.goneNumbers, List.filter_false]
          exact s.store.countUnits_nil a
        rw [State.givenBackNotices, if_pos hnone]
        exact fun l => rfl
      | giveBack =>
        obtain ⟨w, hw, hall, _, hidle⟩ := State.leavePolicy_returns (s := y) (a := a) h hpolicy
        obtain ⟨hgate, htells⟩ := hidle hypays
        have hgoes (k : CoinUnit) : (false || true) = s.leaves a k := by
          unfold State.leaves
          rw [hpolicy]
          rfl
        rw [hw]
        refine ⟨w, rfl, (hreset.trans hall).congr hgoes (Nat.le_succ 1), hgate, fun _ => ?_⟩
        rw [List.append_nil, ← funext hgoes]
        exact htells

end

end Sys2Proof.Machine
end

section
/-! SELECT begins a handover, from MENU and from PLAY (R43, R44, R74, R75, R110, R128, R131, R148, R156, R157, R163). -/

namespace Sys2Proof.Machine

/-! ## A SELECT that is taken -/

section
variable {s t u w z : State} {l : Link} {x : Byte} {T : Target} {o : Target} {c : Cause} {a b : Bay}

/-- A SELECT acknowledged with an act of its own: the act on a state that differs in the links, and its links set. -/
theorem State.Takes.selects (h : s.Takes l (.select x)) (harg : targetArg x = some T) {act : State → State}
    (hask : ∀ k : Links, (s.setLinks k).askSelect l T = (act (s.setLinks k), .ack [])) :
    ∃ k q : Links, exec (.select l x) s = .next ((act (s.setLinks k)).drain.setLinks q)
      ∧ ∀ ns, (s.setLinks k).Tells (act (s.setLinks k)).drain ns →
        s.Answers ((act (s.setLinks k)).drain.setLinks q) l (.select x) [] ns := by
  obtain ⟨k, t, hcommand, hframe, _, hanswers⟩ := h.actsOn (act := act) fun k =>
    (State.askSelectByte_within harg).trans (hask k)
  have hset : t = (act (s.setLinks k)).drain.setLinks t.links := hframe
  refine ⟨k, t.links, ?_, ?_⟩
  · rw [← hset]
    exact congrArg Host.Outcome.next hcommand
  · rw [← hset]
    exact hanswers

theorem State.selectable (h : ∀ b, T = .bay b → ¬s.Barred b) : s.unselectable T = false := Bool.eq_false_iff.2 fun hbarred => by
  obtain ⟨b, hb, hstate⟩ := State.unselectable_iff.1 hbarred
  exact h b hb hstate

/-! ## A handover begins (R156) -/

theorem State.nameIfBay_named (z : State) (T : Target) (d : Bay) :
    (z.nameIfBay T).bay d = if T = .bay d then z.named d else z.bay d := by
  cases T with
  | menu => exact (if_neg nofun).symm
  | bay b =>
    by_cases hd : d = b
    · rw [hd, if_pos rfl]
      exact z.nameTarget_bay_same b true
    · rw [if_neg fun heq => hd (Target.bay.inj heq).symm]
      exact z.nameTarget_bay_other true hd

/-- A handover begun, before the parts of RELEASE. -/
def State.setOut (s : State) (o T : Target) (c : Cause) : State :=
  (((s.setRecord (.begun o T c)).setProtected T.bay?.toList).nameIfBay T).notify (.stageBegun o T c)

/-- What a handover that begins has set out, before the parts of RELEASE (R156). -/
structure State.SetsOut (s t : State) (o T : Target) (c : Cause) : Prop where
  stage : t.stage = .handover (.begun o T c)
  power : t.power = { bays := t.power.bays, protectedSet := T.bay?.toList
                      warm := s.power.warm.filter fun k => decide (T ≠ .bay k) }
  bays : t.BaysAre fun d => if T = .bay d then s.named d else s.bay d
  tells : s.Tells t [.stageBegun o T c]
  frame : t = { s with stage := t.stage, power := t.power, links := t.links }

theorem State.setsOut (s : State) (o T : Target) (c : Cause) : s.SetsOut (s.setOut o T c) o T c := by
  let y := (s.setRecord (.begun o T c)).setProtected T.bay?.toList
  obtain ⟨n, hn⟩ : ∃ n, n = y.nameIfBay T := ⟨_, rfl⟩
  have hframe : n = y.setPower n.power := by
    rw [hn]
    cases T <;> rfl
  have hwarm : n.power.warm = s.power.warm.filter fun k => decide (T ≠ .bay k) := by
    rw [hn]
    exact y.nameIfBay_warm T
  have hprotected : n.power.protectedSet = T.bay?.toList := by
    rw [hn]
    cases T <;> rfl
  have hbays (d : Bay) : n.bay d = if T = .bay d then s.named d else s.bay d := by
    rw [hn]
    exact y.nameIfBay_named T d
  have hstage : n.stage = .handover (.begun o T c) := by rw [hframe]; rfl
  have hlinks : n.links = s.links := by rw [hframe]; rfl
  have hopened : s.setOut o T c = n.notify (.stageBegun o T c) := by rw [hn]; rfl
  have htold : (n.notify (.stageBegun o T c)) = { n with links := (n.notify (.stageBegun o T c)).links } := rfl
  obtain ⟨t, ht⟩ : ∃ t, t = n.notify (.stageBegun o T c) := ⟨_, rfl⟩
  rw [hopened, ← ht]
  rw [← ht] at htold
  have hpower : t.power = n.power := by rw [htold]
  have hnall : n = { s with stage := n.stage, power := n.power } := by
    rw [hstage]
    exact hframe
  exact
    { stage := by rw [htold]; exact hstage
      power := by rw [hpower, ← hwarm, ← hprotected]
      bays := fun d => (State.bay_congr hpower d).trans (hbays d)
      tells := fun m => by
        rw [ht]
        exact (State.link_notify n _ m).trans (congrArg (LinkState.told · _) (State.link_congr hlinks m))
      frame := by
        have hall := htold.trans (congrArg (fun y : State => { y with links := t.links }) hnall)
        rw [hpower, show t.stage = n.stage by rw [htold]]
        exact hall }

theorem State.begin_menu (hstage : s.stage = .menu) : s.begin T c = (s.setOut .menu T c).rampDownRequest := by
  have horigin : s.beginOrigin = .menu := by
    unfold State.beginOrigin State.activeBay
    rw [hstage]
  have hbegin : s.begin T c = ((s.setOut s.beginOrigin T c).releaseParts s.beginOrigin).rampDownRequest := rfl
  rw [hbegin, horigin]
  rfl

theorem State.begin_play (hstage : s.stage = .play a) :
    s.begin T c = ((s.setOut (.bay a) T c).stopRoutePulses.releaseCredit a).rampDownRequest := by
  have horigin : s.beginOrigin = .bay a := by
    unfold State.beginOrigin State.activeBay
    rw [hstage]
  have hbegin : s.begin T c = ((s.setOut s.beginOrigin T c).releaseParts s.beginOrigin).rampDownRequest := rfl
  rw [hbegin, horigin]
  rfl

end

theorem selectBeginsHandover : Claims.SelectBeginsHandover := by
  intro s l x b htakes hx hstage hdisabled hfaulted htripped haudio hgain hramp
  have hfree : ∀ d, Target.bay b = .bay d → ¬s.Barred d := fun d hd hbarred => by
    cases hd
    rcases hbarred with h | h | h
    · exact hdisabled h
    · exact hfaulted h
    · exact htripped h
  obtain ⟨k, q, hexec, hanswers⟩ := htakes.selects (targetArg_bay hx) (act := (State.begin · (.bay b) (.select l))) fun k =>
    (State.askSelect_menu (s := s.setLinks k) (State.selectable (s := s.setLinks k) hfree) hstage).trans (if_neg nofun)
  let z := s.setLinks k
  have hopens := z.setsOut .menu (.bay b) (.select l)
  have hbegin : z.begin (.bay b) (.select l) = _ := State.begin_menu hstage
  obtain ⟨w, hw⟩ : ∃ w, w = z.setOut .menu (.bay b) (.select l) := ⟨_, rfl⟩
  rw [← hw] at hopens hbegin
  have hframe := hopens.frame
  have hmonitor : w.monitor = s.monitor := by rw [hframe]; rfl
  have hlength : w.rampLength = s.rampLength := State.rampLength_congr (by rw [hframe]; rfl)
  have hsettled : w.Settled := by
    rw [hframe]
    exact htakes.settled
  let u := w.setMonitor { s.monitor with audio := .falling, ramp := s.rampLength }
  have hdrain : (z.begin (.bay b) (.select l)).drain = u := by
    rw [hbegin, State.rampDownRequest_falls (by rw [hmonitor]; exact .inl haudio) (by rw [hmonitor]; exact hgain)
      (by rw [hlength]; exact hramp), hmonitor, hlength]
    exact State.drain_settled u hsettled
  rw [hdrain] at hexec hanswers
  have hothers (d : Bay) (hd : d ≠ b) : w.bay d = s.bay d :=
    (hopens.bays d).trans (if_neg fun heq => hd (Target.bay.inj heq).symm)
  refine ⟨u.setLinks q, hexec, hopens.stage, congrArg Power.protectedSet hopens.power, ?_,
    (hopens.bays b).trans (if_pos rfl), hothers, rfl, hanswers _ hopens.tells, ?_⟩
  · refine (congrArg Power.warm hopens.power).trans (List.filter_congr fun d _ => ?_)
    exact decide_eq_decide.2 ⟨fun h heq => h (heq ▸ rfl), fun h heq => h (Target.bay.inj heq).symm⟩
  · exact congrArg (fun y : State => (y.setMonitor { s.monitor with audio := .falling, ramp := s.rampLength }).setLinks q) hframe

/-! ## RELEASE of the active bay (R43, R44, R74, R110) -/

section
variable {u : State} {a : Bay}

/-- Reports that the feeder of a bay without a release pending is IDLE mean nothing. -/
theorem State.drain_idles (hlate : u.late = none) (hreports : ∀ x ∈ u.reports, x = .feederIdle a) (hlen : u.reports.length ≤ 2)
    (hpending : (u.bay a).releasePending = false) : u.drain = u.setReports [] := by
  have hskip : ∀ x ∈ u.reports, u.Ignores x := fun x hx => by
    rw [hreports x hx]
    exact fun rest => ⟨rfl, State.feederIdle_stays (s := u.setReports rest) (.inl hpending)⟩
  obtain ⟨n, hn⟩ : ∃ n, Config.reportFuel = n + u.reports.length := ⟨64 - u.reports.length, show 64 = _ by omega⟩
  have hskips := State.drainWith_skips hskip [] n
  rw [List.append_nil] at hskips
  rw [State.drain_of_late_none hlate, hn]
  exact hskips.trans (State.drainWith_nil (s := u.setReports []) rfl n)

end

theorem selectLeavesPlay : Claims.SelectLeavesPlay := by
  intro s l x a T htakes harg hstage hT hfree hpending haudio hgain hramp paying all goes ns moved
  obtain ⟨k, q, hexec, hanswers⟩ := htakes.selects harg (act := (State.begin · T (.select l))) fun k =>
    (State.askSelect_play (s := s.setLinks k) (State.selectable (s := s.setLinks k) hfree) hstage).trans (if_neg hT)
  let z := s.setLinks k
  have hopens := z.setsOut (.bay a) T (.select l)
  have hbegin : z.begin T (.select l) = _ := State.begin_play hstage
  obtain ⟨y, hy⟩ : ∃ y, y = z.setOut (.bay a) T (.select l) := ⟨_, rfl⟩
  rw [← hy] at hopens hbegin
  have hyframe := hopens.frame
  let v := y.stopRoutePulses
  have hvframe : v = { s with
      stage := y.stage, routing := { s.routing with pulses := [] }, power := y.power, links := y.links } :=
    have hyrouting : y.routing = s.routing := by rw [hyframe]; rfl
    (congrArg (fun g : Routing => y.setRouting { g with pulses := [] }) hyrouting).trans
      (congrArg (fun p : State => p.setRouting { s.routing with pulses := [] }) hyframe)
  have hnotkept : v.carryKept a = false := by
    have hidle : v.isActive a = false := State.isActive_of_handover (s := v) hopens.stage a
    unfold State.carryKept
    rw [hidle]
    rfl
  obtain ⟨w, hw, hreturns, hwgate, hwtells⟩ := State.releaseCredit_returns hnotkept
  have hvgate : v.gate = s.gate := by rw [hvframe]
  have hvstore : v.store = s.store := by rw [hvframe]
  have hvfeeder (d : Bay) : v.feeder d = s.feeder d := State.feeder_congr (by rw [hvframe]) d
  have hvprofile : v.profile a = s.profile a := by rw [hvframe]; rfl
  have hpays : v.pays a = decide paying := by
    unfold State.pays
    rw [hvgate]
    exact (Bool.decide_and _ _).symm
  have hgoes : v.leaves a = goes := funext fun x => by
    unfold State.leaves
    rw [hpays, hvprofile, hvgate]
    exact congrArg (decide all || ·) (Bool.and_assoc _ _ _).symm
  have hns : v.goneNumbers a (v.leaves a) = ns := by
    unfold State.goneNumbers
    rw [hvfeeder, hgoes]
  have hwframe := hreturns.frame.trans (congrArg (fun p : State => { p with
    feeders := w.feeders, store := w.store, intake := w.intake, gate := w.gate, links := w.links, reports := w.reports
    choices := w.choices }) hvframe)
  have hmonitor : w.monitor = s.monitor := by rw [hwframe]
  have hlength : w.rampLength = s.rampLength := State.rampLength_congr (by rw [hwframe])
  have hpower : w.power = y.power := by rw [hwframe]
  have hbays (d : Bay) : w.bay d = if T = .bay d then s.named d else s.bay d :=
    (State.bay_congr hpower d).trans (hopens.bays d)
  let m : Crosspoint := { s.monitor with audio := .falling, ramp := s.rampLength }
  let u := w.setMonitor m
  have hdrain : (z.begin T (.select l)).drain = u.setReports [] := by
    obtain ⟨rs, hrs, hlen, hidle⟩ := hreturns.reports
    have hwreports : w.reports = rs := hrs.trans (by
      rw [show v.reports = s.reports by rw [hvframe], htakes.settled.1]
      rfl)
    have hlate : w.late = none := by
      rw [hwframe]
      exact htakes.settled.2
    rw [hbegin]
    refine Eq.trans ?_ (State.drain_idles (u := u) (a := a) hlate (by rw [← hwreports] at hidle; exact hidle)
      (by rw [← hwreports] at hlen; exact hlen) (by
        show (w.bay a).releasePending = false
        rw [hbays, if_neg hT]
        exact hpending))
    rw [show y.stopRoutePulses.releaseCredit a = w from hw, State.rampDownRequest_falls (by rw [hmonitor]; exact .inl haudio)
      (by rw [hmonitor]; exact hgain) (by rw [hlength]; exact hramp), hmonitor, hlength]
  rw [hdrain] at hexec hanswers
  let t := (u.setReports []).setLinks q
  have hshows : t.ShowsAs w := ⟨rfl, rfl, rfl, rfl⟩
  refine ⟨t, hexec, ?_, ?_, rfl, ?_, hbays, ?_, ?_, fun d hd => ?_, ?_, ?_, fun hone => ?_, ?_⟩
  · show w.stage = _
    rw [hwframe]
    exact hopens.stage
  · show w.routing = _
    rw [hwframe]
  · show w.power = { bays := w.power.bays, protectedSet := _, warm := _ }
    rw [hpower]
    exact hopens.power
  · show w.gate = _
    rw [hwgate, hvgate]
  · show w.feeder a = _
    rw [hreturns.feeder, hvfeeder, hgoes]
  · exact (hreturns.others d hd).trans (hvfeeder d)
  · show w.store = _
    rw [hreturns.store, hvstore, hns]
  · show w.audit = _
    rw [hwframe]
  · have htold := hwtells fun hboth => hone ⟨of_decide_eq_true (hpays.symm.trans hboth.1), (congrArg (·.coin.leavePolicy) hvprofile).symm.trans hboth.2⟩
    have hback : v.givenBackNotices w a ns = if moved = 0 then [] else s.storeNotices t .giveBack moved (some a) := by
      unfold State.givenBackNotices
      rw [State.storeNotices_congr hshows]
      unfold State.storeNotices State.closureNotices
      rw [hvstore, show v.intake = s.intake by rw [hvframe]]
    have hends : (if v.pays a = true then
        [Notice.gateAbandoned a v.gate.switch .release v.gate.owed v.gate.confirmed 0] else [])
        = if paying then [.gateAbandoned a s.gate.switch .release s.gate.owed s.gate.confirmed 0] else [] := by
      rw [hpays, hvgate]
      exact ite_congr (decide_eq_true_eq) (fun _ => rfl) fun _ => rfl
    rw [hns, hback, hends] at htold
    exact hanswers _ (State.Tells.trans (t := v) hopens.tells htold)
  · have hstage' : y.stage = w.stage := by rw [hwframe]
    have hrouting : ({ s.routing with pulses := [] } : Routing) = w.routing := by rw [hwframe]
    rw [hstage', hrouting, ← hpower] at hwframe
    have hall := congrArg (fun p : State => ((p.setMonitor m).setReports []).setLinks q) hwframe
    refine hall.trans ?_
    exact congrArg (fun rs : List Report => { s with
      stage := w.stage, routing := w.routing, monitor := m, power := w.power, gate := w.gate, feeders := w.feeders
      store := w.store, intake := w.intake, links := q, choices := w.choices, reports := rs }) htakes.settled.1.symm

end Sys2Proof.Machine
end

section
/-! SELECT retargets a handover in progress, or collapses it (R111, R117, R121, R134, R149, R150, R158, R160, R164, R165). -/

namespace Sys2Proof.Machine

section
variable {s t : State} {l : Link} {x : Byte} {T : Target} {r : HandoverRecord} {c : Cause} {a b : Bay}

/-- A SELECT of another target than the current one, before the phase goes on. -/
theorem State.Takes.retargetsTo (h : s.Takes l (.select x)) (harg : targetArg x = some T) (hstage : s.stage = .handover r)
    (hphase : r.phase ≠ .quiet) (htarget : r.target = .bay a) (horigin : r.origin ≠ .bay a) (hT : T ≠ .bay a)
    (hselect : s.unselectable T = false) (hlive : s.deadOrigin r T = false) (hfree : s.Uninvolved a) :
    ∃ (k q : Links) (t : State), (s.setLinks k).Retargeted t r a T (.select l)
      ∧ exec (.select l x) s = .next ((t.redirect (r.turned T (.select l))).drain.setLinks q)
      ∧ ∀ ns, (s.setLinks k).Tells (t.redirect (r.turned T (.select l))).drain ns →
        s.Answers ((t.redirect (r.turned T (.select l))).drain.setLinks q) l (.select x) [] ns := by
  obtain ⟨k, q, hexec, hanswers⟩ := h.selects harg (act := (State.retarget · r T (.select l))) fun k => by
    rw [State.askSelect_handover (s := s.setLinks k) hselect hstage, htarget, if_neg hT, if_neg hphase,
      if_neg (by rw [show (s.setLinks k).deadOrigin r T = false from hlive]; exact Bool.false_ne_true)]
  obtain ⟨t, hretarget, ht⟩ := State.retargets (s := s.setLinks k) (c := .select l) htarget horigin hT hfree
  rw [hretarget] at hexec hanswers
  exact ⟨k, q, t, ht, hexec, hanswers⟩

/-- A retarget leaves no bay powered that was not. -/
theorem State.Retargeted.committedLoad_le (h : s.Retargeted t r a T c) : t.committedLoad ≤ s.committedLoad := by
  have hprofile (d : Bay) : t.profile d = s.profile d := by rw [h.frame]; rfl
  refine State.committedLoad_le_add (b := a) (c := 0) fun d => ?_
  rw [ite_self, Nat.add_zero]
  have hstate : (t.bay d).state = (s.bay d).state ∨ (t.bay d).state = .cooling := by
    rw [h.bays d]
    dsimp only
    split
    · exact .inl rfl
    · split
      next hd =>
        rw [hd]
        unfold State.left
        split
        · exact .inr rfl
        · split <;> exact .inl rfl
      next => exact .inl rfl
  have hload : t.load d = s.load d := by
    unfold State.load
    rw [hprofile]
  unfold State.committedBy
  rcases hstate with hsame | hcool
  · rw [hsame, hload]
  · rw [hcool]
    exact Nat.zero_le _

theorem State.Retargeted.settled (h : s.Retargeted t r a T c) (hs : s.Settled) : t.Settled := by
  rw [h.frame]
  exact hs

theorem State.deadOrigin_other (h : r.origin ≠ T) : s.deadOrigin r T = false := Bool.eq_false_iff.2 fun hdead => by
  obtain ⟨b, rfl, horigin, _⟩ := State.deadOrigin_iff.1 hdead
  exact h horigin

end

theorem selectRetargetsInRelease : Claims.SelectRetargetsInRelease := by
  intro s l x h a b htakes hx hstage hphase htarget hab horigin hother hfree huninvolved
  have hT : Target.bay b ≠ .bay a := fun heq => hab (Target.bay.inj heq).symm
  obtain ⟨k, q, t, ht, hexec, hanswers⟩ := htakes.retargetsTo (targetArg_bay hx) hstage (by rw [hphase]; exact nofun) htarget
    horigin hT (State.selectable fun d hd => Target.bay.inj hd ▸ hfree) (State.deadOrigin_other hother) huninvolved
  have hdrain : (t.redirect (h.turned (.bay b) (.select l))).drain = t := by
    rw [State.redirect_release (r := h.turned (.bay b) (.select l)) hphase]
    exact State.drain_settled t (ht.settled htakes.settled)
  rw [hdrain] at hexec hanswers
  have htells := ht.tells
  rw [hphase] at htells
  have hnamed (d : Bay) : Target.bay b = .bay d ↔ d = b := by rw [Target.bay.injEq, eq_comm]
  refine ⟨t.setLinks q, hexec, ht.stage, fun d => ?_, ?_, fun d => ?_, ht.keeps, hanswers _ htells, ?_⟩
  · rw [← hnamed]
    exact ht.protectedSet d
  · exact ht.warm.trans (List.filter_congr fun d _ => decide_eq_decide.2 (not_congr (hnamed d)))
  · refine (ht.bays d).trans ?_
    exact ite_congr (propext (hnamed d)) (fun hd => by rw [hd]; rfl) fun _ => rfl
  · exact congrArg (State.setLinks · q) ht.frame

/-! ## A retarget in POWER or CLASS (R117, R121, R150, R158, R164) -/

section
variable {s t : State} {r : HandoverRecord} {a b : Bay} {c : Cause} {m : Crosspoint}

/-- A state in POWER towards a bay that has just been powered, with the crosspoint given. -/
def State.repowered (t : State) (r : HandoverRecord) (b : Bay) (m : Crosspoint) : State :=
  (((t.setMonitor m).setRecord { r with phase := .power }).setBay b { t.bay b with
    state := .starting, timer := some { count := 0, limit := (t.profile b).general.resetHold } }).setChecker b Checker.seek

theorem State.repowered_bay (t : State) (r : HandoverRecord) (b : Bay) (m : Crosspoint) (d : Bay) :
    (t.repowered r b m).bay d = if d = b then { t.bay b with
      state := .starting, timer := some { count := 0, limit := (t.profile b).general.resetHold } } else t.bay d := by
  let v := (t.setMonitor m).setRecord { r with phase := .power }
  show (v.setBay b _).bay d = _
  by_cases hd : d = b
  · rw [hd, if_pos rfl, State.bay_setBay_same]
  · rw [if_neg hd, State.bay_setBay_other _ _ hd]
    rfl

theorem State.repowered_checker (t : State) (r : HandoverRecord) (b : Bay) (m : Crosspoint) :
    ((t.repowered r b m).checker b).state = .seeking := congrArg Checker.state (State.checker_setChecker_same _ b _)

theorem State.repowered_frame (t : State) (r : HandoverRecord) (b : Bay) (m : Crosspoint) : t.repowered r b m = { t with
    stage := .handover { r with phase := .power }, power := { t.power with bays := (t.repowered r b m).power.bays }
    checkers := (t.repowered r b m).checkers, monitor := m } := rfl

/-- The crosspoint as a retarget leaves it: the cut request of CLASS withdrawn (R150). -/
def State.uncut (s : State) (r : HandoverRecord) : Crosspoint :=
  { s.monitor with cut := if r.phase = .classChange then none else s.monitor.cut }

/-- POWER goes on, or begins again behind a cut request withdrawn. -/
theorem State.redirect_phases (hphase : r.phase = .power ∨ r.phase = .classChange) (htarget : r.target = .bay b) :
    s.redirect r = ((s.setMonitor (s.uncut r)).setRecord { r with phase := .power }).powerRequest b := by
  unfold State.uncut
  rcases hphase with hpower | hclass
  · rw [State.redirect_power hpower, State.afterRelease_bay htarget, if_neg (by rw [hpower]; exact nofun)]
    rfl
  · rw [State.redirect_class hclass, State.afterRelease_bay htarget, if_pos hclass]
    rfl

theorem State.redirect_starts (hphase : r.phase = .power ∨ r.phase = .classChange) (htarget : r.target = .bay b)
    (hoff : (s.bay b).state = .off) (hfits : s.committedLoad + s.load b ≤ s.budget) (hclear : s.pins.overcurrent[b] = false) :
    s.redirect r = s.repowered r b (s.uncut r) := by
  let v := (s.setMonitor (s.uncut r)).setRecord { r with phase := .power }
  rw [State.redirect_phases hphase htarget, State.powerRequest_off (s := v) hoff, State.judgeHandover_fits (s := v) hfits,
    State.enterStarting_clear (s := v) hclear]
  rfl

end

theorem selectRetargetsPower : Claims.SelectRetargetsPower := by
  intro s l x h a b htakes hx hstage hphase htarget hab horigin hother hoff hroom hclear huninvolved
  have hT : Target.bay b ≠ .bay a := fun heq => hab (Target.bay.inj heq).symm
  have hfree : ¬s.Barred b := fun hbarred => by rcases hbarred with h | h | h <;> exact absurd (h.symm.trans hoff) nofun
  have hquiet : h.phase ≠ .quiet := by rcases hphase with hp | hp <;> rw [hp] <;> exact nofun
  obtain ⟨k, q, t, ht, hexec, hanswers⟩ := htakes.retargetsTo (targetArg_bay hx) hstage hquiet htarget
    horigin hT (State.selectable fun d hd => Target.bay.inj hd ▸ hfree) (State.deadOrigin_other hother) huninvolved
  have hnamed (d : Bay) : Target.bay b = .bay d ↔ d = b := by rw [Target.bay.injEq, eq_comm]
  have hframe := ht.frame
  let r := h.turned (.bay b) (.select l)
  have hbay : t.bay b = s.named b := (ht.bays b).trans (if_pos rfl)
  have hprofile : t.profile b = s.profile b := by rw [hframe]; rfl
  have hload : t.load b = s.load b := congrArg (·.general.load) hprofile
  have hbudget : t.budget = s.budget := by
    unfold State.budget
    rw [hframe]
    rfl
  have huncut : t.uncut r = s.uncut h := by
    unfold State.uncut
    rw [hframe]
    rfl
  obtain ⟨w, hw⟩ : ∃ w, w = t.repowered r b (t.uncut r) := ⟨_, rfl⟩
  have hredirect : t.redirect r = w := (State.redirect_starts (r := r) hphase rfl (by rw [hbay]; exact hoff)
    (by rw [hload, hbudget]; exact (Nat.add_le_add_right ht.committedLoad_le _).trans hroom)
    (by rw [hframe]; exact hclear)).trans hw.symm
  have hwbays := t.repowered_bay r b (t.uncut r)
  have hwchecker := t.repowered_checker r b (t.uncut r)
  have hwframe := t.repowered_frame r b (t.uncut r)
  rw [← hw] at hwbays hwchecker hwframe
  have hsettled : w.Settled := by
    rw [hwframe]
    exact ht.settled htakes.settled
  rw [hredirect, State.drain_settled w hsettled] at hexec hanswers
  have hlinks : t.links = w.links := by rw [hwframe]
  have hfilters : t.filters = w.filters := by rw [hwframe]
  have hpower : w.power = { t.power with bays := w.power.bays } := by rw [hwframe]
  have hwstage : w.stage = .handover { r with phase := .power } := by rw [hwframe]
  have hmonitor : w.monitor = t.uncut r := by rw [hwframe]
  have hall := hwframe.trans (congrArg (fun y : State => { y with
    stage := .handover { r with phase := .power }, power := { t.power with bays := w.power.bays }
    checkers := w.checkers, monitor := t.uncut r }) hframe)
  rw [← hwstage, ← hpower, ← hmonitor, hfilters, hlinks] at hall
  refine ⟨w.setLinks q, hexec, hwstage, fun d => ?_, ?_, fun d => ?_, hmonitor.trans huncut, hwchecker, fun hkeep => ?_,
    hanswers _ fun n => ?_, congrArg (State.setLinks · q) hall⟩
  · show d ∈ w.power.protectedSet ↔ _
    rw [hpower, ← hnamed]
    exact ht.protectedSet d
  · show w.power.warm = _
    rw [hpower]
    exact ht.warm.trans (List.filter_congr fun d _ => decide_eq_decide.2 (not_congr (hnamed d)))
  · refine (hwbays d).trans ?_
    by_cases hd : d = b
    · rw [if_pos hd, hbay, hprofile]
      exact (if_pos hd).symm
    · exact (if_neg hd).trans ((ht.bays d).trans ((if_neg fun heq => hd ((hnamed d).1 heq)).trans (if_neg hd).symm))
  · exact hfilters.symm.trans (ht.keeps hkeep).1
  · exact (State.link_congr hlinks.symm n).trans (ht.tells n)

/-! ## A collapse (R111, R149, R160, R164, R165) -/

section
variable {s t : State} {r : HandoverRecord} {a : Bay} {c : Cause}

theorem HandoverRecord.leaves_home (h : r.target = r.origin) : r.leaves = none := by
  unfold HandoverRecord.leaves
  cases horigin : r.origin with
  | menu => rfl
  | bay o => exact if_pos (h.trans horigin)

/-- A retarget to the origin in POWER, the origin's class being the monitor's: the cut is made and QUIET begins. -/
theorem State.redirect_home (hs : s.Settled) (hphase : r.phase = .power) (hhome : r.target = r.origin)
    (hrun : ∀ o, r.origin = .bay o → (s.bay o).state = .running) (hclass : s.targetClass r.origin = s.monitor.lineClass)
    (hsettle : s.monitor.settle = none) (hgain : s.monitor.gain < Config.gainFull) (hramp : 0 < s.rampLength)
    (hpressed : s.panel.pressed ≠ []) (hquiet : 0 < s.tables.cabinet.panel.quiet) :
    (s.redirect r).drain = ((s.setRecord { r with phase := .quiet }).setMonitor { s.monitor with
      cut := none, source := r.origin.source, audio := .rising, ramp := s.rampLength }).setRouting
        { s.routing with quiet := some { count := 0, limit := s.tables.cabinet.panel.quiet } } := by
  have hwaits : s.cutWaits s.monitor r.target = false := Bool.eq_false_iff.2 fun h =>
    (State.cutWaits_iff.1 h).elim (fun hne => hne (by rw [hhome]; exact hclass)) fun hruns => by
      rw [hsettle] at hruns
      exact absurd hruns Bool.false_ne_true
  have hplain : s.PlainCut r := ⟨fun h => absurd (hwaits.symm.trans h) Bool.false_ne_true,
    fun _ => ⟨HandoverRecord.leaves_home hhome, hgain, hramp, hpressed, hquiet⟩⟩
  have hhomes (o : Bay) (ho : r.target = .bay o) : (s.bay o).state = .running := hrun o (hhome.symm.trans ho)
  have hclear := State.afterRelease_drains hs.1 hplain hhomes 61
  have hmade : s.cutRequested s.monitor r.target = { s.monitor with
      cut := none, source := r.origin.source, audio := .rising, ramp := s.rampLength } := by
    rw [hhome]
    exact State.cutRequested_cuts hclass hsettle
  rw [State.classBegun_cuts hwaits, hmade] at hclear
  have hlate : (s.afterRelease r).late = none := by
    cases hto : r.target with
    | menu =>
      rw [State.afterRelease_menu hto, State.startClass_cuts hgain hramp hwaits (by rw [hto]; rfl)]
      exact hs.2
    | bay o =>
      rw [State.afterRelease_bay hto, State.powerRequest_running (s := s.setRecord { r with phase := .power }) (hhomes o hto)]
      exact hs.2
  rw [State.redirect_power hphase, State.drain_of_late_none hlate]
  exact hclear

end

theorem selectCollapses : Claims.SelectCollapses := by
  intro s l x h a htakes harg hstage htarget horigin hrun huninvolved turned leaves
  have hother : h.origin ≠ .bay a := horigin
  have hlive : s.deadOrigin h h.origin = false := Bool.eq_false_iff.2 fun hdead => by
    obtain ⟨o, ho, _, hstopped⟩ := State.deadOrigin_iff.1 hdead
    exact hstopped (hrun o ho)
  have hselect : s.unselectable h.origin = false := State.selectable fun o ho hbarred => by
    have hrunning := hrun o ho
    rcases hbarred with h | h | h <;> exact absurd (h.symm.trans hrunning) nofun
  have hretargets (hphase : h.phase ≠ .quiet) :=
    htakes.retargetsTo harg hstage hphase htarget horigin horigin hselect hlive huninvolved
  refine ⟨fun hphase => ?_, fun hphase hclass hsettle hgain hramp hpressed hquiet => ?_⟩
  · obtain ⟨k, q, t, ht, hexec, hanswers⟩ := hretargets (by rw [hphase]; exact nofun)
    have hdrain : (t.redirect turned).drain = t := by
      rw [State.redirect_release (r := turned) hphase]
      exact State.drain_settled t (ht.settled htakes.settled)
    rw [hdrain] at hexec hanswers
    exact ⟨t.setLinks q, hexec, ⟨ht.protectedSet, ht.warm, ht.bays, hanswers _ ht.tells⟩, ht.stage,
      congrArg (State.setLinks · q) ht.frame⟩
  · obtain ⟨k, q, t, ht, hexec, hanswers⟩ := hretargets (by rw [hphase]; exact nofun)
    have hframe := ht.frame
    have hmonitor : t.monitor = s.monitor := by rw [hframe]; rfl
    have htables : t.tables = s.tables := by rw [hframe]; rfl
    have hpanel : t.panel = s.panel := by rw [hframe]; rfl
    have hrouting : t.routing = s.routing := by rw [hframe]; rfl
    have hlength : t.rampLength = s.rampLength := State.rampLength_congr htables
    have hruns (o : Bay) (ho : h.origin = .bay o) : (t.bay o).state = .running := by
      rw [ht.bays o]
      exact (congrArg BayPower.state (if_pos ho)).trans (hrun o ho)
    have hhome := State.redirect_home (s := t) (r := turned) (ht.settled htakes.settled) hphase rfl hruns
      (by rw [State.targetClass_congr htables, hmonitor]; exact hclass) (by rw [hmonitor]; exact hsettle)
      (by rw [hmonitor]; exact hgain) (by rw [hlength]; exact hramp) (by rw [hpanel]; exact hpressed)
      (by rw [htables]; exact hquiet)
    rw [hmonitor, hlength, hrouting, htables] at hhome
    let m : Crosspoint := { s.monitor with cut := none, source := h.origin.source, audio := .rising, ramp := s.rampLength }
    let g : Routing := { s.routing with quiet := some { count := 0, limit := s.tables.cabinet.panel.quiet } }
    let w := ((t.setRecord { turned with phase := .quiet }).setMonitor m).setRouting g
    rw [show (t.redirect (h.turned h.origin (.select l))).drain = w from hhome] at hexec hanswers
    refine ⟨w.setLinks q, hexec, ⟨ht.protectedSet, ht.warm, ht.bays, hanswers _ ht.tells⟩, rfl, rfl, rfl, ?_⟩
    exact congrArg (fun y : State => (((y.setRecord { turned with phase := .quiet }).setMonitor m).setRouting g).setLinks q) hframe

/-- Settles O52: a SELECT as the act that its tests lead to, on a state that differs in the links alone: a begin with its
RELEASE, or a retarget with what its phase goes on to. -/
theorem selectBeginsOrRetargets : Obligations.SelectBeginsOrRetargets :=
  ⟨selectBeginsHandover, selectLeavesPlay, selectRetargetsInRelease, selectRetargetsPower, selectCollapses⟩

end Sys2Proof.Machine
end
